-- ==== Sys2Proof/Word.lean ====
section
/-!
DEFINITION. The words of the model: bytes, 64-bit words, bit fields of natural numbers, little-endian byte strings (R7),
and the sparse keyed list `KMap` in which every array of the state is held.
-/

namespace Sys2Proof

/-- A byte. -/
abbrev Byte := BitVec 8

/-- A general-register word of a Lantern thread (R129). -/
abbrev Word := BitVec 64

/-- A string of bytes, first byte first. -/
abbrev Bytes := List Byte

/-- Bits `[lo + w - 1 : lo]` of `x`. -/
def bitsAt (x lo w : Nat) : Nat := (x >>> lo) % 2 ^ w

/-- Bit `n` of `x`. -/
def bitAt (x n : Nat) : Bool := bitsAt x n 1 == 1

/-- `x` with bits `[lo + w - 1 : lo]` replaced by the low `w` bits of `v`. -/
def putBits (x lo w v : Nat) : Nat :=
  x - (bitsAt x lo w) <<< lo + (v % 2 ^ w) <<< lo

/-- `x` with bit `n` set. -/
def orBit (x n : Nat) : Nat := x ||| 1 <<< n

/-- `x` with every bit of `m` cleared. -/
def clearMask (x m : Nat) : Nat := x - (x &&& m)

/-- A Boolean as a bit. -/
def b2n (b : Bool) : Nat := if b then 1 else 0

/-- `x + 1`, saturating at the greatest value of `w` bits. -/
def satInc (w x : Nat) : Nat := if x + 1 < 2 ^ w then x + 1 else 2 ^ w - 1

/-- The two's-complement value of the low `w` bits of `x`. -/
def signedOf (w x : Nat) : Int :=
  if x % 2 ^ w < 2 ^ (w - 1) then (x % 2 ^ w : Nat) else ((x % 2 ^ w : Nat) : Int) - 2 ^ w

/-- The `w`-bit two's-complement encoding of `v`. -/
def toSigned (w : Nat) (v : Int) : Nat := (v % (2 ^ w : Nat)).toNat

/-- The value of a little-endian byte string (R7). -/
def leVal : Bytes → Nat
  | [] => 0
  | b :: bs => b.toNat + 256 * leVal bs

/-- The low `n` bytes of `v`, little-endian (R7). -/
def leBytes : Nat → Nat → Bytes
  | 0, _ => []
  | n + 1, v => BitVec.ofNat 8 v :: leBytes n (v / 256)

/-- The value of a big-endian byte string, the order of network headers (R8). -/
def beVal (bs : Bytes) : Nat := leVal bs.reverse

/-- The low `n` bytes of `v`, big-endian. -/
def beBytes (n v : Nat) : Bytes := (leBytes n v).reverse

/-- `n` zero bytes. -/
def zeros (n : Nat) : Bytes := List.replicate n 0

/-- Bytes `[off, off + n)` of a string, missing bytes read as 0. -/
def sliceB (bs : Bytes) (off n : Nat) : Bytes :=
  let t := (bs.drop off).take n
  t ++ zeros (n - t.length)

/-- A sparse array: (key, value) pairs with strictly rising keys and no entry equal to what the key reads as when it is
not listed. -/
abbrev KMap (α : Type) := List (Nat × α)

namespace KMap

variable {α : Type}

/-- The entry at `k`, if one is listed. -/
def find (m : KMap α) (k : Nat) : Option α :=
  match m with
  | [] => none
  | (k', v) :: r => if k' = k then some v else find r k

/-- What `k` reads as: its entry, or `d` when none is listed. -/
def getD (m : KMap α) (k : Nat) (d : α) : α :=
  match find m k with
  | some v => v
  | none => d

/-- List `v` at `k`. -/
def put (m : KMap α) (k : Nat) (v : α) : KMap α :=
  match m with
  | [] => [(k, v)]
  | (k', v') :: r =>
    if k < k' then (k, v) :: (k', v') :: r
    else if k' = k then (k, v) :: r
    else (k', v') :: put r k v

/-- Remove the entry at `k`. -/
def del (m : KMap α) (k : Nat) : KMap α :=
  match m with
  | [] => []
  | (k', v') :: r => if k' = k then del r k else (k', v') :: del r k

/-- Write `v` at `k`, where an unlisted `k` reads as `d`: writing `d` removes the entry. -/
def setD [DecidableEq α] (m : KMap α) (k : Nat) (d v : α) : KMap α :=
  if v = d then del m k else put m k v

/-- Every key of the array lies above `b`, and the keys rise strictly. -/
def risesFrom : Nat → KMap α → Bool
  | _, [] => true
  | b, (k, _) :: r => decide (b < k) && risesFrom k r

/-- The canonical order: keys rise strictly. -/
def sorted : KMap α → Bool
  | [] => true
  | (k, _) :: r => risesFrom k r

/-- Keep the entries whose key satisfies `p`. -/
def keep (p : Nat → Bool) (m : KMap α) : KMap α := m.filter fun e => p e.1

end KMap

/-- Set membership lists (no order, no repeats): add `x`. -/
def addOnce [DecidableEq α] (x : α) (l : List α) : List α := if x ∈ l then l else l ++ [x]

/-- Replace the element at `i`, if there is one. -/
def setNth (l : List α) (i : Nat) (v : α) : List α :=
  match l, i with
  | [], _ => []
  | _ :: r, 0 => v :: r
  | a :: r, i + 1 => a :: setNth r i v

end Sys2Proof
end

