-- ==== Sys2Proof/Syntax.lean ====
section
/-!
DEFINITION. The commands of the device, one constructor for each row of spec/opcode_table.json, with the operands a sender
gives. The table gives its rows no bits and no operands; the operands here are those the row's rule names. A command that
the spec describes as a happening (a timer reaching its value, a frame arriving) carries what the outside decides about it.
-/

namespace Sys2Proof

/-- A register number of a Lantern instruction word (R129, R136). -/
abbrev Reg5 := Fin 32

/-- The writers that R16 names, and the register writes that a signed blob of a role asks for (R669): 1 installer, 2 operator. -/
inductive Writer where
  | thread (gtid : Nat)
  | fn (f : Nat)
  | jtag
  | mctp
  | lighthouse
  | signed (role : Nat)
  deriving DecidableEq, Repr

/-- A host page as the ATC names it (R222): function, PASID when valid, privileged-mode attribute, untranslated 4 KiB page. -/
structure HPage where
  fn    : Nat
  pasid : Option Nat
  pmr   : Bool
  page  : Nat
  deriving DecidableEq, Repr

/-- A translation completion (R224): granted for a page of `2 ^ size` bytes at `base` with permissions, or not (Unsupported
Request, Completer Abort or timeout). -/
inductive AtsResult where
  | granted (size base : Nat) (r w : Bool)
  | failed
  deriving DecidableEq, Repr

/-- A page request group response (R224). -/
inductive PrgCode where
  | success | invalidRequest | responseFailure
  deriving DecidableEq, Repr

/-- What a read of host memory by the queue manager returns: the bytes, or the status of a failed read (R506). -/
inductive ReadResult where
  | data (bytes : Bytes)
  | failed (status : Nat)
  deriving DecidableEq, Repr

/-- The wake sources of HIF_WAKE_CFG (R486). -/
inductive WakeSrc where
  | ethGroup (n : Nat)
  | mgmt
  | gpio (n : Nat)
  deriving DecidableEq, Repr

/-- What an upset leaves in one row of the associative array before the command that carries it looks (R258): physical bank, row,
value, mask and VALID bit. -/
structure RowUpset where
  phys  : Nat
  row   : Nat
  value : Nat
  mask  : Nat
  valid : Bool
  deriving DecidableEq, Repr

/-- What a HELLO carries (R572): serial number, FABRIC_ID, Beacon in use, port, node ID, level, term and best candidate. -/
structure Hello where
  serial : Nat
  fabric : Nat
  en     : Bool
  port   : Nat
  node   : Option Nat
  level  : Nat
  term   : Nat
  cand   : Option (Nat × Nat)
  deriving DecidableEq, Repr

/-- A flit as its receiver finds it (R552 to R554): FEC and CRC good, the fields of the link header, the fabric packets whose last
byte it carries, each as its bytes, and the lane set that a CONTROL flit names (R583). -/
structure Flit where
  good  : Bool
  ftype : Nat
  seq   : Nat
  ack   : Nat
  nak   : Bool
  cvc   : Nat
  cred  : Nat
  pkts  : List Bytes
  lanes : Nat
  deriving DecidableEq, Repr

inductive Instr where
  /-- REG_WRITE (R9): A write to a register that has no row of its own sets its fields by their Access codes. -/
  | regWrite (w : Writer) (off val : Nat) (bytes : Nat)
  /-- LOWER_HALF_WRITE (R16): A 32-bit write of the lower half of a 64-bit register is held, tagged with its writer. -/
  | lowerHalfWrite (w : Writer) (off val : Nat)
  /-- UPPER_HALF_WRITE (R15): A 32-bit write of bits [63:32] combines with a held lower half of the same writer, or acts on the upper fields alone. -/
  | upperHalfWrite (w : Writer) (off val : Nat)
  /-- BAD_WIDTH_ACCESS (R17): An access of another width or alignment is ignored, and a read returns 0. -/
  | badWidthAccess (w : Writer) (off bytes : Nat) (write : Bool) (val : Nat)
  /-- ETH_GRP_MODE_WRITE (R27): A write of MODE of a lane group is accepted or refused, and an accepted change retrains the group's lanes. -/
  | ethGrpModeWrite (w : Writer) (n val : Nat)
  /-- ETH_PORT_CFG_WRITE (R28): A change of FEC, LOOPBACK or AN_EN while EN is 1 drops the link and retrains the port. -/
  | ethPortCfgWrite (w : Writer) (e val : Nat)
  /-- ETH_FRAME_RECEIVE (R28): A frame received on an Ethernet port is accepted, or dropped and counted by FCS, undersize or oversize. -/
  | ethFrameReceive (e : Nat) (frame : Bytes)
  /-- ETH_FRAME_TRANSMIT (R28): The MAC pads and sends a frame handed to it and appends its FCS. -/
  | ethFrameTransmit (e : Nat) (badSegment : Option Nat)
  /-- ETH_LINK_UP (R29): LINK_UP rises once training and alignment complete, latching the port's interrupt line. -/
  | ethLinkUp (e : Nat) (hiSer : Bool)
  /-- ETH_LINK_DOWN (R29): LINK_UP falls: the frame being received is dropped, the frame being sent is aborted, and DOWN_CNT increments. -/
  | ethLinkDown (e : Nat) (blockLock amLock localFault remoteFault : Bool)
  /-- EVENT_LATCH (R78): An event from a bound source sets the thread's EVPEND bit, or EVOVR if it is already set, and may end a WAIT. -/
  | eventLatch (t ev : Nat)
  /-- MESSAGE_VISIBLE (R737): A committed message becomes visible to the channel's reader and sets the reader's CHANNEL-bound input. -/
  | messageVisible (chan : Nat)
  /-- THREAD_TIMER_FIRE (R83): LTN_THR_TIMER reaches its compare value, sets the thread's TIMER inputs and writes itself to 0. -/
  | threadTimerFire (t : Nat)
  /-- LEASE_EXPIRE (R106): A reservation's lease expires: unfilled slots become VOID, LEASE_LOST sets and the reservation ends. -/
  | leaseExpire (t : Nat)
  /-- IRQ_SET_WRITE (R92): A write of LTN_CL_IRQ_SET latches the named interrupt lines in the cluster. -/
  | irqSetWrite (w : Writer) (cluster k val : Nat)
  /-- IRQ_LATCH_CLEAR (R93): A write of 1 to LTN_CL_IRQ_LATCH clears the line in that cluster. -/
  | irqLatchClear (w : Writer) (cluster k val : Nat)
  /-- INTERRUPT_ENTRY (R185): A thread with a pending routed line, IE 1 and EXA 0 enters its handler with class INTERRUPT. -/
  | interruptEntry (t : Nat)
  /-- FLTQ_POP (R110): A write of LTN_CORE_FLTQ_POP removes the oldest fault record. -/
  | fltqPop (w : Writer) (core : Nat)
  /-- HEARTBEAT (R112): A write of LTN_CORE_HB by t0 begins a new heartbeat period. -/
  | heartbeat (w : Writer) (core : Nat)
  /-- HEARTBEAT_TIMEOUT (R112): A heartbeat period passes without a heartbeat, and a hung-supervisor fault is reported. -/
  | heartbeatTimeout (core : Nat)
  /-- ECLIPSE (R114): The core's census COUNT reaches 4,096 with ARMED set, and ECLIPSE is raised to t0. -/
  | eclipse (core : Nat)
  /-- GROUP_ECLIPSE (R118): A group's census COUNT reaches 4,096 with ARMED set, and GROUP_ECLIPSE is raised to t0 of SUP_CORE. -/
  | groupEclipse (cluster g : Nat)
  /-- GROUP_CTL_WRITE (R117): A write of a thread group's registers is accepted only while EN is 0, and EN is not set without members. -/
  | groupCtlWrite (w : Writer) (cluster g : Nat) (members : Bool) (val : Nat)
  /-- CHANNEL_ENABLE (R96): A write that sets ENABLE of a channel opens it or is refused with CFG_ERR. -/
  | channelEnable (w : Writer) (chan val : Nat)
  /-- CHANNEL_DISABLE (R97): Clearing ENABLE discards visible messages and releases reservations silently. -/
  | channelDisable (w : Writer) (chan : Nat)
  /-- START (R133): START of an OFF thread begins it at LTN_THR_PC at PL1 with registers cleared. -/
  | start (w : Writer) (t : Nat)
  /-- KILL (R120): KILL discards the thread's buffers, releases its reservation, clears its events and timer and sends it to OFF. -/
  | kill (w : Writer) (t : Nat) (andStart : Bool)
  /-- DEBUG_HALT_REQUEST (R122): A write of HALT_REQ asks for a thread to halt at its next instruction boundary. -/
  | debugHaltRequest (w : Writer) (core mask : Nat)
  /-- DEBUG_HALT (R122): A requested halt takes effect at an instruction boundary or progress record, and the thread enters HALT. -/
  | debugHalt (t : Nat)
  /-- DEBUG_RESUME (R122): A write of RESUME returns a halted thread to execution. -/
  | debugResume (w : Writer) (core mask : Nat)
  /-- DEBUG_STEP (R122): A write of STEP lets a halted thread complete one instruction and then halts it with DBG_CAUSE 4. -/
  | debugStep (w : Writer) (core mask : Nat)
  /-- HW_BREAKPOINT (R123): A hardware breakpoint match halts the thread before the matched instruction. -/
  | hwBreakpoint (t : Nat)
  /-- DBGDATA_WRITE (R124): A write of LTN_THR_DBGDATA sets the selected register of a halted thread. -/
  | dbgdataWrite (w : Writer) (t val : Nat)
  /-- ADD (R140): RD receives a + b. -/
  | add (t : Nat) (rd ra rb : Reg5)
  /-- SUB (R140): RD receives a − b. -/
  | sub (t : Nat) (rd ra rb : Reg5)
  /-- AND (R140): RD receives a & b. -/
  | and (t : Nat) (rd ra rb : Reg5)
  /-- OR (R140): RD receives a | b. -/
  | or (t : Nat) (rd ra rb : Reg5)
  /-- XOR (R140): RD receives a ^ b. -/
  | xor (t : Nat) (rd ra rb : Reg5)
  /-- ANDN (R140): RD receives a & ~b. -/
  | andn (t : Nat) (rd ra rb : Reg5)
  /-- SHL (R140): RD receives a shifted left by b & 63. -/
  | shl (t : Nat) (rd ra rb : Reg5)
  /-- SHR (R140): RD receives a shifted right logically by b & 63. -/
  | shr (t : Nat) (rd ra rb : Reg5)
  /-- SRA (R140): RD receives a shifted right arithmetically by b & 63. -/
  | sra (t : Nat) (rd ra rb : Reg5)
  /-- ROR (R140): RD receives a rotated right by b & 63. -/
  | ror (t : Nat) (rd ra rb : Reg5)
  /-- CLT (R140): RD receives 1 when a is less than b signed, else 0. -/
  | clt (t : Nat) (rd ra rb : Reg5)
  /-- CLTU (R140): RD receives 1 when a is less than b unsigned, else 0. -/
  | cltu (t : Nat) (rd ra rb : Reg5)
  /-- MIN (R140): RD receives the signed minimum of a and b. -/
  | min (t : Nat) (rd ra rb : Reg5)
  /-- MAX (R140): RD receives the signed maximum of a and b. -/
  | max (t : Nat) (rd ra rb : Reg5)
  /-- MINU (R140): RD receives the unsigned minimum of a and b. -/
  | minu (t : Nat) (rd ra rb : Reg5)
  /-- MAXU (R140): RD receives the unsigned maximum of a and b. -/
  | maxu (t : Nat) (rd ra rb : Reg5)
  /-- ADDW (R140): RD receives the sign-extended 32-bit sum. -/
  | addw (t : Nat) (rd ra rb : Reg5)
  /-- SUBW (R140): RD receives the sign-extended 32-bit difference. -/
  | subw (t : Nat) (rd ra rb : Reg5)
  /-- CLZ (R140): RD receives the count of leading zeros of a. -/
  | clz (t : Nat) (rd ra : Reg5)
  /-- CTZ (R140): RD receives the count of trailing zeros of a. -/
  | ctz (t : Nat) (rd ra : Reg5)
  /-- POPC (R140): RD receives the count of set bits of a. -/
  | popc (t : Nat) (rd ra : Reg5)
  /-- BSWAP (R140): RD receives the bytes of a in reverse order. -/
  | bswap (t : Nat) (rd ra : Reg5)
  /-- EXT (R140): RD receives a bit field extracted from a at the offset and width in b. -/
  | ext (t : Nat) (rd ra rb : Reg5)
  /-- INS (R140): A bit field of RD is replaced by the low bits of a at the offset and width in b. -/
  | ins (t : Nat) (rd ra rb : Reg5)
  /-- ADDI (R138): RD receives RA plus the sign-extended immediate. -/
  | addi (t : Nat) (rd ra : Reg5) (imm : BitVec 16)
  /-- ANDI (R138): RD receives RA and the zero-extended immediate. -/
  | andi (t : Nat) (rd ra : Reg5) (imm : BitVec 16)
  /-- ORI (R138): RD receives RA or the zero-extended immediate. -/
  | ori (t : Nat) (rd ra : Reg5) (imm : BitVec 16)
  /-- XORI (R138): RD receives RA xor the zero-extended immediate. -/
  | xori (t : Nat) (rd ra : Reg5) (imm : BitVec 16)
  /-- SHIFTI (R141): RD receives RA shifted or rotated by an immediate of the kind IMM16[7:6] selects. -/
  | shifti (t : Nat) (rd ra : Reg5) (kind : BitVec 2) (amount : BitVec 6)
  /-- CLTI (R138): RD receives 1 when RA is less than the sign-extended immediate, signed. -/
  | clti (t : Nat) (rd ra : Reg5) (imm : BitVec 16)
  /-- CLTIU (R138): RD receives 1 when RA is less than the sign-extended immediate, unsigned. -/
  | cltiu (t : Nat) (rd ra : Reg5) (imm : BitVec 16)
  /-- IMMZ (R142): RD receives the immediate in lane HW and zeros elsewhere. -/
  | immz (t : Nat) (rd : Reg5) (hw : BitVec 2) (imm : BitVec 16)
  /-- IMMK (R142): The immediate is written into lane HW of RD, keeping the other lanes. -/
  | immk (t : Nat) (rd : Reg5) (hw : BitVec 2) (imm : BitVec 16)
  /-- MUL (R143): RD receives the low 64 bits of a × b. -/
  | mul (t : Nat) (rd ra rb : Reg5)
  /-- MULHU (R143): RD receives the high 64 bits of the unsigned product. -/
  | mulhu (t : Nat) (rd ra rb : Reg5)
  /-- MULHS (R143): RD receives the high 64 bits of the signed product. -/
  | mulhs (t : Nat) (rd ra rb : Reg5)
  /-- MULW (R143): RD receives the sign-extended low 32 bits of the 32-bit product. -/
  | mulw (t : Nat) (rd ra rb : Reg5)
  /-- DIVU (R144): RD receives the unsigned quotient, all ones for division by zero. -/
  | divu (t : Nat) (rd ra rb : Reg5)
  /-- DIVS (R144): RD receives the signed quotient, with the defined results for zero and overflow. -/
  | divs (t : Nat) (rd ra rb : Reg5)
  /-- REMU (R144): RD receives the unsigned remainder, a for division by zero. -/
  | remu (t : Nat) (rd ra rb : Reg5)
  /-- REMS (R144): RD receives the signed remainder, with the defined results for zero and overflow. -/
  | rems (t : Nat) (rd ra rb : Reg5)
  /-- LDBU (R145): One byte is loaded and zero-extended into RD. -/
  | ldbu (t : Nat) (rd ra : Reg5) (imm : BitVec 16)
  /-- LDHU (R145): Two bytes are loaded and zero-extended into RD. -/
  | ldhu (t : Nat) (rd ra : Reg5) (imm : BitVec 16)
  /-- LDWU (R145): Four bytes are loaded and zero-extended into RD. -/
  | ldwu (t : Nat) (rd ra : Reg5) (imm : BitVec 16)
  /-- LDD (R145): Eight bytes are loaded into RD. -/
  | ldd (t : Nat) (rd ra : Reg5) (imm : BitVec 16)
  /-- LDB (R145): One byte is loaded and sign-extended into RD. -/
  | ldb (t : Nat) (rd ra : Reg5) (imm : BitVec 16)
  /-- LDH (R145): Two bytes are loaded and sign-extended into RD. -/
  | ldh (t : Nat) (rd ra : Reg5) (imm : BitVec 16)
  /-- LDW (R145): Four bytes are loaded and sign-extended into RD. -/
  | ldw (t : Nat) (rd ra : Reg5) (imm : BitVec 16)
  /-- STB (R145): The low byte of RS is stored. -/
  | stb (t : Nat) (rs ra : Reg5) (imm : BitVec 16)
  /-- STH (R145): The low two bytes of RS are stored. -/
  | sth (t : Nat) (rs ra : Reg5) (imm : BitVec 16)
  /-- STW (R145): The low four bytes of RS are stored. -/
  | stw (t : Nat) (rs ra : Reg5) (imm : BitVec 16)
  /-- STD (R145): Eight bytes of RS are stored. -/
  | std (t : Nat) (rs ra : Reg5) (imm : BitVec 16)
  /-- SWAP (R153): Atomically replaces the word with b and returns the old value. -/
  | swap (t : Nat) (rd ra rb : Reg5) (w32 : Bool)
  /-- CAS (R153): Atomically writes b when the old value equals RD, and returns the old value. -/
  | cas (t : Nat) (rd ra rb : Reg5) (w32 : Bool)
  /-- FADD (R153): Atomically adds b to the word and returns the old value. -/
  | fadd (t : Nat) (rd ra rb : Reg5) (w32 : Bool)
  /-- FAND (R153): Atomically ands b into the word and returns the old value. -/
  | fand (t : Nat) (rd ra rb : Reg5) (w32 : Bool)
  /-- FOR (R153): Atomically ors b into the word and returns the old value. -/
  | fOr (t : Nat) (rd ra rb : Reg5) (w32 : Bool)
  /-- FXOR (R153): Atomically xors b into the word and returns the old value. -/
  | fxor (t : Nat) (rd ra rb : Reg5) (w32 : Bool)
  /-- FMIN (R153): Atomically writes the signed minimum and returns the old value. -/
  | fmin (t : Nat) (rd ra rb : Reg5) (w32 : Bool)
  /-- FMAX (R153): Atomically writes the signed maximum and returns the old value. -/
  | fmax (t : Nat) (rd ra rb : Reg5) (w32 : Bool)
  /-- FMINU (R153): Atomically writes the unsigned minimum and returns the old value. -/
  | fminu (t : Nat) (rd ra rb : Reg5) (w32 : Bool)
  /-- FMAXU (R153): Atomically writes the unsigned maximum and returns the old value. -/
  | fmaxu (t : Nat) (rd ra rb : Reg5) (w32 : Bool)
  /-- FENCE (R155): Orders every earlier load and store of the thread before every later one. -/
  | fence (t : Nat)
  /-- IFENCE (R212): Waits for earlier stores to reach L2, then invalidates the core's instruction cache. -/
  | ifence (t : Nat)
  /-- BEQ (R156): Branches when a equals b. -/
  | beq (t : Nat) (ra rb : Reg5) (off : BitVec 16)
  /-- BNE (R156): Branches when a differs from b. -/
  | bne (t : Nat) (ra rb : Reg5) (off : BitVec 16)
  /-- BLT (R156): Branches when a is less than b, signed. -/
  | blt (t : Nat) (ra rb : Reg5) (off : BitVec 16)
  /-- BGE (R156): Branches when a is at least b, signed. -/
  | bge (t : Nat) (ra rb : Reg5) (off : BitVec 16)
  /-- BLTU (R156): Branches when a is less than b, unsigned. -/
  | bltu (t : Nat) (ra rb : Reg5) (off : BitVec 16)
  /-- BGEU (R156): Branches when a is at least b, unsigned. -/
  | bgeu (t : Nat) (ra rb : Reg5) (off : BitVec 16)
  /-- CALL (R156): Jumps PC-relative and writes the link address to RD. -/
  | call (t : Nat) (rd : Reg5) (off : BitVec 21)
  /-- CALLR (R156): Jumps to RA plus the immediate and writes the link address to RD. -/
  | callr (t : Nat) (rd ra : Reg5) (imm : BitVec 16)
  /-- CHWR (R99): Appends one word to the thread's staging buffer. -/
  | chwr (t : Nat) (rd ra : Reg5)
  /-- CHCOMMIT (R100): Atomically commits the staged message to a channel or returns a failure status. -/
  | chcommit (t : Nat) (rd ra : Reg5)
  /-- CHRD (R102): Skips void slots and moves the oldest visible message into the receive buffer. -/
  | chrd (t : Nat) (rd ra : Reg5)
  /-- CHRESV (R104): Reserves 1 to 16 consecutive slots at the tail of a channel under a lease. -/
  | chresv (t : Nat) (rd ra rb : Reg5)
  /-- CHDISCARD (R103): Empties the thread's staging buffer. -/
  | chdiscard (t : Nat) (rd : Reg5)
  /-- CHRX (R159): Returns one word of the receive buffer. -/
  | chrx (t : Nat) (rd : Reg5) (k : BitVec 3)
  /-- EVSEND (R82): Sends an event to a thread input bound as THREAD within scope, or returns SCOPE or NOT_BOUND. -/
  | evsend (t : Nat) (rd ra rb : Reg5)
  /-- WAIT (R85): Consumes pending events in the wait set, or suspends the thread until one is pending. -/
  | wait (t : Nat) (rd ra : Reg5)
  /-- EVPOLL (R161): Consumes and returns pending events in the set without suspending. -/
  | evpoll (t : Nat) (rd ra : Reg5)
  /-- TLOOK_LPM4 (R295): Looks up an IPv4 address in a VRF's trie and returns the leaf. -/
  | tlookLpm4 (t : Nat) (rd ra rc : Reg5)
  /-- TLOOK_LPM6 (R295): Looks up an IPv6 address in a VRF's trie and returns the leaf. -/
  | tlookLpm6 (t : Nat) (rd ra rb rc : Reg5)
  /-- TLOOK_MAC (R329): Looks up a MAC address and domain in a pipeline's learned table without setting a hit bit. -/
  | tlookMac (t : Nat) (rd ra rc : Reg5)
  /-- TLOOK_FLOW (R329): Looks up a flow key block in the exact-match flow table. -/
  | tlookFlow (t : Nat) (rd ra rc : Reg5)
  /-- TLOOK_PSM (R280): Searches a pipeline's Prism memory with a key block and verifies the winner. -/
  | tlookPsm (t : Nat) (rd ra rc : Reg5)
  /-- DMAQ (R168): Submits a DMA transfer to the cluster's DMA engine and returns a submission result. -/
  | dmaq (t : Nat) (rd ra rb rc : Reg5)
  /-- DMAACK (R174): Releases entries of a DMA completion ring. -/
  | dmaack (t : Nat) (rd ra rb : Reg5)
  /-- AESENC (R166): Encrypts one block with the key derived from a context label. -/
  | aesenc (t : Nat) (rd ra rb rc : Reg5)
  /-- AESDEC (R166): Decrypts one block with the key derived from a context label. -/
  | aesdec (t : Nat) (rd ra rb rc : Reg5)
  /-- CRYPT_JOB (R167): Submits a Glint job from a descriptor in memory, with output to memory or a channel. -/
  | cryptJob (t : Nat) (rd ra rb rc : Reg5)
  /-- CRYPT_RAND (R165): Returns 64 bits from the service DRBG. -/
  | cryptRand (t : Nat) (rd : Reg5)
  /-- CTRRD (R176): Reads one Lumen counter, live or from the last snapshot. -/
  | ctrrd (t : Nat) (rd ra : Reg5)
  /-- SRR (R132): Reads a system register into RD. -/
  | srr (t : Nat) (rd : Reg5) (reg : BitVec 12)
  /-- SRW (R179): Writes a system register, serialising the thread. -/
  | srw (t : Nat) (ra : Reg5) (reg : BitVec 12)
  /-- SYSCALL (R177): Raises the SYSCALL exception with its code. -/
  | syscall (t : Nat) (code : BitVec 12)
  /-- ERET (R182): Returns from an exception, restoring PL, IE, XLATE and PRG from ESTAT and EPRG. -/
  | eret (t : Nat)
  /-- BRK (R196): Halts the thread with a debugger connection, or raises BREAKPOINT. -/
  | brk (t : Nat) (code : BitVec 12)
  /-- IEN (R177): Sets TSTAT.IE. -/
  | ien (t : Nat)
  /-- IDIS (R177): Clears TSTAT.IE. -/
  | idis (t : Nat)
  /-- TLBI (R178): Removes cached translations of the core and its DMA engine by scope. -/
  | tlbi (t : Nat) (ra : Reg5) (scope : BitVec 2)
  /-- NOPS (R177): A serialising no-operation. -/
  | nops (t : Nat)
  /-- BCOPY (R195): Copies up to 4 GiB as a move in steps, recording progress in PRG. -/
  | bcopy (t : Nat) (rd ra rb rc : Reg5)
  /-- BFILL (R189): Fills a region with an 8-byte pattern in steps. -/
  | bfill (t : Nat) (rd ra rb rc : Reg5)
  /-- BCMP (R189): Compares two regions and returns the offset of the first difference. -/
  | bcmp (t : Nat) (rd ra rb rc : Reg5)
  /-- BCRC (R189): Computes the CRC-32C of a region from a seed. -/
  | bcrc (t : Nat) (rd ra rb rc : Reg5)
  /-- BLOCK_STEP_DONE (R191): A 64-byte step of a block instruction completes in order and DONE advances. -/
  | blockStepDone (t : Nat)
  /-- DMA_RING_ENABLE (R170): A write that sets ENABLE of a DMA completion ring is accepted or refused with CFG_ERR. -/
  | dmaRingEnable (w : Writer) (cluster r val : Nat)
  /-- DMA_TRANSFER_START (R168): A submitted transfer starts, after every earlier one completes when ORDER is set. -/
  | dmaTransferStart (cluster ring seq : Nat)
  /-- DMA_TRANSFER_COMPLETE (R172): A transfer ends, its ring entry is written and DMA_DONE inputs are set. -/
  | dmaTransferComplete (cluster ring seq : Nat)
  /-- XLF_RESPONSE (R231): A write of MEM_XLF_RESP retries the walk and resumes, or fails the held transfer. -/
  | xlfResponse (w : Writer) (val : Nat)
  /-- XLF_HOLD_TIMEOUT (R231): A local hold reaches TMO_MS and the transfer fails. -/
  | xlfHoldTimeout (cluster hold : Nat)
  /-- PATROL_SCRUB (R208): The scrubber reads a burst of HBM or a word of SRAM and handles each read under R206. -/
  | patrolScrub (addr upset : Nat)
  /-- TLBI_GO (R221): GO of MEM_TLBI_CTL starts a translation removal across the selected clusters, or is refused. -/
  | tlbiGo (w : Writer) (val : Nat)
  /-- TLBI_DONE (R221): A cross-cluster removal completes and BUSY clears. -/
  | tlbiDone
  /-- ATS_TRANSLATION_COMPLETION (R224): A translation completion arrives and fills the ATC, starts a page request, or fails the job. -/
  | atsTranslationCompletion (pg : HPage) (res : AtsResult)
  /-- PAGE_REQUEST_ISSUE (R225): A page request is issued when the function's allocation has a free slot. -/
  | pageRequestIssue (pg : HPage)
  /-- PRG_RESPONSE (R224): A page request response arrives and leads to a new translation request or PAGE_UNRESOLVED. -/
  | prgResponse (pg : HPage) (code : PrgCode)
  /-- PAGE_REQUEST_TIMEOUT (R224): A page request is unanswered within MEM_PRI_TMO and the job completes PAGE_UNRESOLVED. -/
  | pageRequestTimeout (pg : HPage)
  /-- ATS_INVALIDATE_REQUEST (R226): An Invalidate Request removes matching ATC entries from use. -/
  | atsInvalidateRequest (fn tag : Nat) (pasid : Option Nat) (page size : Nat)
  /-- INVALIDATION_COMPLETION (R226): Once reads using removed translations have completed, the Invalidation Completion is sent. -/
  | invalidationCompletion (fn tag : Nat)
  /-- PRISM_INPUT_ENQUEUE (R275): A frame joins the pipeline's input queue, or an Ethernet frame is dropped when it is full. -/
  | prismInputEnqueue (p k : Nat)
  /-- PRISM_PARSE (R243): The parser walks a frame's headers under its profile and builds the key. -/
  | prismParse (p : Nat)
  /-- PRISM_SEARCH (R259): The associative memory is searched and the winner verified against its shadow. -/
  | prismSearch (p : Nat) (upset : Option RowUpset) (ue : Bool)
  /-- SUSPECT_ROW_REWRITE (R261): A suspect row is rewritten from its shadow while searches pause. -/
  | suspectRowRewrite (p bank row : Nat)
  /-- PRISM_SCRUB_ROW (R263): Every 1,024 clocks a row is compared with its shadow and repaired if it differs. -/
  | prismScrubRow (p : Nat) (upsets : List RowUpset) (ue : List Nat)
  /-- PSM_BATCH_GO (R270): GO of PSM_UPD_CTL checks a batch and refuses it or schedules its hold. -/
  | psmBatchGo (w : Writer) (p val : Nat)
  /-- PSM_HOLD_BEGIN (R266): The hold begins, gated by an empty input queue when HOLD_GATE is 1. -/
  | psmHoldBegin (p : Nat)
  /-- PSM_BATCH_APPLY (R271): After the drain, the batch and staged registers are applied and the input released. -/
  | psmBatchApply (p : Nat)
  /-- PSM_PLACE_GO (R273): GO of PSM_PLACE starts a search for the row after a band's last entry. -/
  | psmPlaceGo (w : Writer) (p val : Nat)
  /-- PSM_PLACE_DONE (R273): The placement search completes and DONE sets with ROW or FULL. -/
  | psmPlaceDone (p : Nat)
  /-- PSM_READBACK (R279): A write of PSM_RDSEL loads a row's shadow into PSM_RDDATA. -/
  | psmReadback (w : Writer) (p val : Nat)
  /-- FORWARD_DECISION (R286): Forwarding looks up the table the action set selects and decides the destination. -/
  | forwardDecision (p : Nat)
  /-- LPM_DRAIN_GO (R300): GO of FWD_LPM_DRAIN starts waiting for lookups begun before it. -/
  | lpmDrainGo (w : Writer)
  /-- LPM_DRAIN_DONE (R300): Every lookup begun before GO has completed and DONE sets. -/
  | lpmDrainDone
  /-- FLOW_TABLE_ENABLE (R309): A write that sets EN of FWD_FLOW_CFG is accepted or refused with CFG_ERR. -/
  | flowTableEnable (w : Writer) (val : Nat)
  /-- FLOW_BATCH_GO (R313): GO of FWD_FLOW_CTL starts the flow engine on the batch of operations. -/
  | flowBatchGo (w : Writer) (val : Nat)
  /-- CUCKOO_RELOCATE (R305): After in-flight lookups complete, a moved entry's old slot is overwritten. -/
  | cuckooRelocate (table : Option Nat)
  /-- FLOW_BATCH_DONE (R313): The flow batch finishes, results are posted and BUSY clears. -/
  | flowBatchDone
  /-- LEARN_APPLY (R319): The learn engine applies a queued record: create, hit, flap or move. -/
  | learnApply (p : Nat)
  /-- MAC_AGE_SWEEP (R322): Every SWEEP_S the engine updates IDLE, removes aged entries and rewrites old MOVE_TS. -/
  | macAgeSweep (p : Nat) (parity : List Nat)
  /-- RECON_TICK (R326): Every RECON_MS the learn engine commits a RECON_TICK message. -/
  | reconTick (p : Nat)
  /-- MAC_CMD_GO (R324): GO of FWD_MAC_CMD queues a command behind the learn records. -/
  | macCmdGo (w : Writer) (p val : Nat)
  /-- MAC_NOP (R324): A queued NOP command does nothing. -/
  | macNop (p : Nat)
  /-- MAC_INSERT (R324): Creates or overwrites a MAC entry with the command data. -/
  | macInsert (p : Nat)
  /-- MAC_DELETE (R324): Removes the entry of a MAC and domain. -/
  | macDelete (p : Nat)
  /-- CLEAR_FLAP (R324): Clears FLAP of an entry. -/
  | clearFlap (p : Nat)
  /-- FLUSH_DEST (R324): Removes every learned non-static entry of a destination. -/
  | flushDest (p : Nat)
  /-- FLUSH_FD (R324): Removes every non-static entry of a forwarding domain. -/
  | flushFd (p : Nat)
  /-- TM_ENQUEUE (R330): A forwarded frame is metered, mapped to a leaf and admitted or dropped. -/
  | tmEnqueue (p : Nat) (meterUe leafUe : Bool)
  /-- TM_DECISION (R347): A root able to take a frame picks a path down to a leaf and hands its oldest frame to the output. -/
  | tmDecision (o : Nat) (badSegment : Option Nat)
  /-- SHAPER_RELEASE (R354): The timebase reaches a fine slot and its entities become eligible. -/
  | shaperRelease
  /-- COARSE_SLOT_ENTER (R353): The timebase enters a coarse slot and its entities are placed again. -/
  | coarseSlotEnter
  /-- TM_RECORD_READ (R334): GO with WRITE 0 reads a meter or hierarchy record into TM_IND_DATA. -/
  | tmRecordRead (w : Writer) (val : Nat) (ue : Bool)
  /-- TM_RECORD_WRITE (R335): GO with WRITE 1 writes words 0–1 of a record whole, or refuses it. -/
  | tmRecordWrite (w : Writer) (val : Nat)
  /-- TM_IND_DONE (R334): A record access completes and BUSY clears. -/
  | tmIndDone
  /-- PKT_NOP (R358): The held-frame NOP command does nothing. -/
  | pktNop (w : Writer) (val : Nat)
  /-- PKT_FREE (R358): Frees a held frame. -/
  | pktFree (w : Writer) (val : Nat)
  /-- PKT_COPY (R358): Copies a held frame to HBM, verifying carry checks. -/
  | pktCopy (w : Writer) (val : Nat) (badSegment : Option Nat)
  /-- PKT_INJECT (R358): Sends a held frame to an output through admission. -/
  | pktInject (w : Writer) (val : Nat)
  /-- PKT_REPARSE (R358): Returns a held frame to its pipeline's Prism under another profile. -/
  | pktReparse (w : Writer) (val : Nat)
  /-- PKT_CMD_DONE (R358): A held-frame command finishes and BUSY clears. -/
  | pktCmdDone
  /-- HELD_FRAME_EXPIRE (R357): A held frame reaches HOLD_MS and is freed and counted. -/
  | heldFrameExpire (handle : Nat)
  /-- CTX_TABLE_ENABLE (R379): A write that sets EN of GLT_CTX_BASE is accepted or refused. -/
  | ctxTableEnable (w : Writer) (val : Nat)
  /-- CTX_FREEZE (R382): FREEZE lets users of a context record finish and writes its state back. -/
  | ctxFreeze (w : Writer) (val : Nat)
  /-- CTX_RELEASE (R382): RELEASE unfreezes a context record. -/
  | ctxRelease (w : Writer) (val : Nat)
  /-- CTX_CMD_NOP (R382): The context NOP command does nothing. -/
  | ctxCmdNop (w : Writer) (val : Nat)
  /-- CTX_FREEZE_DONE (R382): A context command completes and BUSY clears. -/
  | ctxFreezeDone
  /-- ROOT_SLOT_DISABLE (R375): A change of a root-key slot drops cache entries of the old GEN while running work keeps its key. -/
  | rootSlotDisable (w : Writer) (slot val : Nat)
  /-- GLINT_JOB_START (R386): A job starts in a cluster: header checked, key derived or taken from the cache. -/
  | glintJobStart (job : Nat)
  /-- GLINT_TAG_VERDICT (R396): The tag of an OPEN job is checked, and on failure its written output is zeroed. -/
  | glintTagVerdict (job : Nat)
  /-- GLINT_JOB_COMPLETE (R385): A Glint job completes and its completion is posted. -/
  | glintJobComplete (job : Nat)
  /-- GLINT_CHAN_STALL (R401): An output channel has no room for CHAN_TMO_MS and the job ends CHAN_STALL. -/
  | glintChanStall (job : Nat)
  /-- GLINT_INLINE_START (R391): A TO_GLINT frame starts processing under its context record in the home cluster. -/
  | glintInlineStart (p : Nat)
  /-- GLINT_INLINE_VERDICT (R392): An inline frame's ICV and replay are checked, state updated, and the frame released or failed. -/
  | glintInlineVerdict (cl : Nat)
  /-- DRBG_RESEED (R377): A cluster DRBG is reseeded from the entropy source. -/
  | drbgReseed (cl : Option Nat)
  /-- ENTROPY_HEALTH_FAIL (R378): A health test of the entropy source fails and ES_FAIL sets. -/
  | entropyHealthFail
  /-- NVM_ENABLE (R412): A write that sets EN of NVM_CFG is accepted or refused. -/
  | nvmEnable (w : Writer) (val : Nat)
  /-- NVME_SQ_DOORBELL (R417): An NVMe SQ tail doorbell write is taken or ignored and reported. -/
  | nvmeSqDoorbell (fn id tail : Nat)
  /-- NVME_CQ_DOORBELL (R417): An NVMe CQ head doorbell write is taken or ignored and reported. -/
  | nvmeCqDoorbell (fn id head : Nat)
  /-- NVME_ARBITRATE (R420): The arbiter chooses an SQ and fetches commands. -/
  | nvmeArbitrate (reads : List ReadResult)
  /-- NVME_COMMAND_CHECK (R418): A fetched command is checked and failed at once or taken on. -/
  | nvmeCommandCheck (slot : Nat) (sep : Bool) (reads : List ReadResult)
  /-- NVME_HANDOFF (R422): A checked command, its write data staged, is committed to its service channel. -/
  | nvmeHandoff (slot : Nat)
  /-- NVM_DONE (R423): A write of NVM_DONE answers a slot or is discarded as stale. -/
  | nvmDone (w : Writer) (val : Nat)
  /-- NVME_COMPLETE (R419): A command's data is moved and its NVMe completion posted. -/
  | nvmeComplete (slot : Nat) (reads : List ReadResult) (badSegment : Option Nat)
  /-- NVME_READ (R416): A Read command is staged and its data written to the host after the answer. -/
  | nvmeRead (slot : Nat) (reads : List ReadResult) (badSegment : Option Nat)
  /-- NVME_WRITE (R416): A Write command's data is read into staging before hand-off. -/
  | nvmeWrite (slot : Nat) (reads : List ReadResult)
  /-- NVME_FLUSH (R433): A Flush completes after earlier completed writes are durable. -/
  | nvmeFlush (slot : Nat)
  /-- NVME_WRITE_ZEROES (R429): A Write Zeroes command is handed on under write-kind ordering. -/
  | nvmeWriteZeroes (slot : Nat)
  /-- NVME_DATASET_MGMT (R429): A Dataset Management deallocate is handed on under write-kind ordering. -/
  | nvmeDatasetMgmt (slot : Nat) (reads : List ReadResult)
  /-- NVME_IDENTIFY (R410): An Identify command is handed to the service. -/
  | nvmeIdentify (slot : Nat)
  /-- NVME_GET_LOG_PAGE (R409): A Get Log Page command is handed to the service. -/
  | nvmeGetLogPage (slot : Nat)
  /-- NVME_ASYNC_EVENT_REQUEST (R409): An Asynchronous Event Request is handed to the service. -/
  | nvmeAsyncEventRequest (slot : Nat)
  /-- NVME_CREATE_IO_SQ (R407): The front-end creates an I/O submission queue or fails the command. -/
  | nvmeCreateIoSq (slot : Nat)
  /-- NVME_DELETE_IO_SQ (R409): The front-end deletes an I/O submission queue. -/
  | nvmeDeleteIoSq (slot : Nat)
  /-- NVME_CREATE_IO_CQ (R407): The front-end creates an I/O completion queue or fails the command. -/
  | nvmeCreateIoCq (slot : Nat)
  /-- NVME_DELETE_IO_CQ (R409): The front-end deletes an I/O completion queue. -/
  | nvmeDeleteIoCq (slot : Nat)
  /-- NVME_ABORT (R425): An Abort catches or misses the named command and replies after its completion. -/
  | nvmeAbort (slot : Nat) (reads : List ReadResult)
  /-- NVME_SET_ARBITRATION (R420): Set Features Arbitration sets burst and weights and refills credits. -/
  | nvmeSetArbitration (slot : Nat)
  /-- NVME_GET_ARBITRATION (R409): Get Features Arbitration returns the arbitration settings. -/
  | nvmeGetArbitration (slot : Nat)
  /-- NVME_SET_POWER_MGMT (R435): Set Features Power Management starts entry into the requested state. -/
  | nvmeSetPowerMgmt (slot : Nat)
  /-- NVME_GET_POWER_MGMT (R436): Get Features Power Management returns the state, or the requested one during entry. -/
  | nvmeGetPowerMgmt (slot : Nat)
  /-- NVME_SET_NUM_QUEUES (R407): Set Features Number of Queues returns the smaller of the request and MAXQ + 1. -/
  | nvmeSetNumQueues (slot : Nat)
  /-- NVME_GET_NUM_QUEUES (R409): Get Features Number of Queues returns the queue count. -/
  | nvmeGetNumQueues (slot : Nat)
  /-- NVME_SET_INT_COALESCING (R409): Set Features Interrupt Coalescing is handled by the front-end. -/
  | nvmeSetIntCoalescing (slot : Nat)
  /-- NVME_GET_INT_COALESCING (R409): Get Features Interrupt Coalescing is answered by the front-end. -/
  | nvmeGetIntCoalescing (slot : Nat)
  /-- NVME_SET_INT_VECTOR_CFG (R409): Set Features Interrupt Vector Configuration is handled by the front-end. -/
  | nvmeSetIntVectorCfg (slot : Nat)
  /-- NVME_GET_INT_VECTOR_CFG (R409): Get Features Interrupt Vector Configuration is answered by the front-end. -/
  | nvmeGetIntVectorCfg (slot : Nat)
  /-- NVME_POWER_STATE_ENTERED (R435): The controller holds no command and no unfetched entry, and the Set Features completion is posted. -/
  | nvmePowerStateEntered (fn : Nat)
  /-- NVME_CC_ENABLE (R420): The host sets CC.EN and the controller starts with credits refilled. -/
  | nvmeCcEnable (fn cc : Nat)
  /-- NVME_CC_DISABLE (R438): Clearing CC.EN stops fetch, catches every slot and deletes the I/O queues without completions. -/
  | nvmeCcDisable (fn cc : Nat)
  /-- NVME_RDY_CLEAR (R439): CSTS.RDY clears once no request is outstanding and cancelled writes are answered. -/
  | nvmeRdyClear (fn : Nat)
  /-- NVME_SHUTDOWN_NORMAL (R440): CC.SHN 0b01 completes fetched commands and flushes before SHST is set. -/
  | nvmeShutdownNormal (fn cc : Nat)
  /-- NVME_SHUTDOWN_ABRUPT (R440): CC.SHN 0b10 acts as a controller reset without the flush. -/
  | nvmeShutdownAbrupt (fn cc : Nat)
  /-- NVME_SHUTDOWN_COMPLETE (R440): The shutdown work ends and CSTS.SHST is set to 0b10. -/
  | nvmeShutdownComplete (fn : Nat)
  /-- NVME_FWACT_PAUSE (R443): PAUSE stops fetch on every controller and sets DRAINING. -/
  | nvmeFwactPause (w : Writer)
  /-- NVME_FWACT_DRAIN_TIMEOUT (R443): At 200 ms, remaining FETCHED and HANDED slots complete ABORTED_FW_ACT. -/
  | nvmeFwactDrainTimeout
  /-- NVME_FWACT_RESUME (R444): RESUME restarts fetch and serves the held doorbells. -/
  | nvmeFwactResume (w : Writer)
  /-- PERST_ASSERT (R708): PERST# of a port resets its links and functions, and the device once every PF port is held. -/
  | perstAssert (port : Nat)
  /-- PERST_DEASSERT (R713): PERST# deasserts and the port's links may train once configuration-ready. -/
  | perstDeassert (port : Nat)
  /-- HOT_RESET (R448): A hot reset of a link resets every function on it. -/
  | hotReset (link : Nat)
  /-- PCIE_LINK_UP (R450): A host link trains at the highest allowed rate and mode and its data link layer comes up. -/
  | pcieLinkUp (link partnerRate partnerWidth : Nat) (partnerFlit : Bool)
  /-- PCIE_LINK_DOWN (R483): A link leaving L0 without a reset resets every function on it and retrains. -/
  | pcieLinkDown (link : Nat)
  /-- FLR_START (R480): Initiate FLR stops the function's requests and resets its state. -/
  | flrStart (fn : Nat)
  /-- FLR_DONE (R480): The FLR completes within 40 ms and FLR_BUSY clears. -/
  | flrDone (fn : Nat)
  /-- VF_ENABLE_CLEAR (R448): Clearing VF Enable, or changing NumVFs, resets the PF's VFs. -/
  | vfEnableClear (pf numVfs : Nat) (enable : Bool)
  /-- BME_CLEAR (R477): Clearing Bus Master Enable stops writes at once and requests within 2 µs, tearing jobs. -/
  | bmeClear (fn : Nat)
  /-- BME_SET (R478): Setting Bus Master Enable zeroes torn OPEN output, completes torn jobs BME_LOST and resumes fetch. -/
  | bmeSet (fn : Nat)
  /-- ATS_ENABLE_CLEAR (R470): Clearing ATS Enable removes every ATC entry of the function. -/
  | atsEnableClear (fn : Nat)
  /-- MSIX_TABLE_WRITE (R466): A write to an MSI-X entry's address or data is taken only while the entry is masked. -/
  | msixTableWrite (fn vec : Nat) (addr : Option Nat) (data : Option Nat)
  /-- MSIX_UNMASK (R467): Unmasking a vector with its pending bit set sends one message and clears the bit. -/
  | msixUnmask (fn vec : Nat)
  /-- BAR_MEMORY_REQUEST (R457): A host memory request to a BAR is served, answered Unsupported Request, or ignored with data 0. -/
  | barMemoryRequest (fn bar off bytes : Nat) (write : Bool) (val : Nat)
  /-- HOST_READ_COMPLETION (R475): A completion for a host read arrives and is used, fails its job, or is discarded late. -/
  | hostReadCompletion (tag : Nat) (ok poisoned : Bool) (data : Bytes)
  /-- COMPLETION_TIMEOUT (R474): A read or translation request times out and its job fails. -/
  | completionTimeout (tag : Nat)
  /-- D3HOT_ENTRY (R485): A function enters D3hot and stops fetching and issuing requests. -/
  | d3hotEntry (fn : Nat)
  /-- D0_ENTRY (R484): A function returns from D3hot to D0 with its state intact. -/
  | d0Entry (fn : Nat)
  /-- PME_SEND (R486): A wake event of a function in D3hot with PME_En sends a PME message. -/
  | pmeSend (fn : Nat)
  /-- WAKE_EVENT (R486): In D3cold a configured wake source asserts WAKE#. -/
  | wakeEvent (src : WakeSrc)
  /-- PME_TURN_OFF (R486): PME_Turn_Off is answered with PME_TO_Ack within 1 ms. -/
  | pmeTurnOff (link : Nat)
  /-- ASPM_L1_ENTRY (R488): After 32 µs idle with ASPM L1 enabled, Elvum requests L1. -/
  | aspmL1Entry (link : Nat)
  /-- L0P_WIDTH_CHANGE (R488): After sustained low or high use, Elvum requests half or full L0p width. -/
  | l0pWidthChange (link : Nat) (full : Bool)
  /-- PTM_MEASURE (R490): Every 10 ms a PTM measurement is taken and used to steer the timebase. -/
  | ptmMeasure (master : Nat)
  /-- QM_ENABLE (R497): A write that sets QM_CFG.EN is accepted or refused. -/
  | qmEnable (w : Writer) (val : Nat)
  /-- SQ_ENABLE (R498): A write that sets EN of an SQ record is accepted, zeroing PI and CI, or refused. -/
  | sqEnable (w : Writer) (q val : Nat)
  /-- CQ_ENABLE (R499): A write that sets EN of a CQ record is accepted, zeroing its indices, or refused. -/
  | cqEnable (w : Writer) (c val : Nat)
  /-- SQ_DOORBELL (R509): An SQ doorbell write advances PI, or is ignored and raised as SQ_DB_BAD. -/
  | sqDoorbell (fn idx pi : Nat)
  /-- CQ_HEAD_DOORBELL (R522): A CQ head doorbell write advances HEAD, or is ignored and raised as CQ_DB_BAD. -/
  | cqHeadDoorbell (fn idx head : Nat)
  /-- CQ_OVF_CLR (R522): A CQ doorbell write with OVF_CLR clears OVERFLOW. -/
  | cqOvfClr (fn idx : Nat)
  /-- FETCH_VISIT (R514): The link's fetch arbiter visits a ready SQ and reads up to BURST descriptors. -/
  | fetchVisit (link : Nat) (reads : List ReadResult)
  /-- DESCRIPTOR_CHECK (R505): A fetched descriptor is checked and completed at once on the first failure. -/
  | descriptorCheck (q : Nat) (table_ : ReadResult)
  /-- DESC_NOP (R502): A NOP descriptor completes OK with BYTES_DONE 0. -/
  | descNop (q : Nat)
  /-- ETH_SEND (R502): An ETH_SEND descriptor fetches its frame into the packet buffer and sends it to Prism. -/
  | ethSend (q : Nat)
  /-- ETH_SEND_COMPLETE (R502): The frame is held whole in the packet buffer and the descriptor completes OK. -/
  | ethSendComplete (job : Nat)
  /-- RX_POST (R517): A fetched RX_POST posts a receive buffer and unblocks the queue's leaf. -/
  | rxPost (q : Nat)
  /-- GLINT_JOB (R384): A GLINT_JOB descriptor hands a look-aside job to a lit Glint cluster. -/
  | glintJob (q : Nat)
  /-- FW_REQUEST (R519): A FW descriptor is committed as an 8-word message to the queue's channel. -/
  | fwRequest (q : Nat)
  /-- RX_FRAME_DELIVER (R516): A frame is written into the oldest posted buffer and its completion follows. -/
  | rxFrameDeliver (q : Nat) (badSegment : Option Nat)
  /-- FW_COMPLETION_POST (R520): GO of QM_FW_CPL_CTL posts firmware's completion entry, or refuses it. -/
  | fwCompletionPost (w : Writer) (val : Nat)
  /-- SPILL_MOVE (R525): With a free slot, spilled entries move into the ring oldest first. -/
  | spillMove (c : Nat)
  /-- COAL_TIMER_EXPIRE (R523): COAL_US passes since the first entry and the CQ's message is sent. -/
  | coalTimerExpire (c : Nat)
  /-- FUNC_NOTICE_COMMIT (R540): A waiting function-reset notice is committed to the channel as room appears. -/
  | funcNoticeCommit
  /-- QUIESCE_SET (R541): Setting QUIESCE stops fetch for the function while fetched work runs on. -/
  | quiesceSet (w : Writer) (fn : Nat) (rxReturn : Bool)
  /-- QUIESCE_CLEAR (R541): Clearing QUIESCE makes the queues ready and serves kept doorbells. -/
  | quiesceClear (w : Writer) (fn : Nat)
  /-- MIRROR_ENABLE (R550): A write that sets EN of a Mirror log empties its buffers or is refused. -/
  | mirrorEnable (w : Writer) (m val : Nat)
  /-- HARVEST (R549): HARVEST swaps the log buffers and issues the flush read. -/
  | harvest (w : Writer) (m : Nat)
  /-- HARVEST_DONE (R549): The flush read completes and BUSY clears with RESULT. -/
  | harvestDone (m : Nat)
  /-- HARVEST_NO_FLUSH (R549): With the read impossible or failed, BUSY clears after 2 µs with NO_FLUSH. -/
  | harvestNoFlush (m : Nat)
  /-- FLIT_RECEIVE (R556): A flit is accepted, or discarded with a NAK and replay episode. -/
  | flitReceive (p : Nat) (f : Flit)
  /-- NAK_RESEND_TIMER (R556): The awaited flit has not arrived 20 µs after the last NAK, and NAK is sent again. -/
  | nakResendTimer (p : Nat)
  /-- REPLAY_TIMEOUT (R557): The oldest unacknowledged flit is 20 µs old and is replayed. -/
  | replayTimeout (p : Nat)
  /-- FABRIC_PORT_TRAINED (R555): A fabric port finishes training and sending resumes from the oldest unacknowledged flit. -/
  | fabricPortTrained (p peerLanes : Nat) (shares : List Nat)
  /-- RETRAIN_TIMEOUT (R558): A retrain not finished within 100 ms takes the port DOWN and handles its packets. -/
  | retrainTimeout (p : Nat)
  /-- FABRIC_PACKET_SEND (R561): A port starts a packet on a virtual channel whose credit covers it. -/
  | fabricPacketSend (p : Nat) (badSegs : List Nat)
  /-- CREDIT_STALL (R562): A virtual channel holds no credit for STALL_MS and the stall is notified and reported. -/
  | creditStall (p vc : Nat)
  /-- FABRIC_TRANSIT (R579): A packet in transit is routed to an output port, or dropped or NAKed. -/
  | fabricTransit (p vc : Nat)
  /-- FABRIC_READ (R567): A READ arrives at its target and is answered by READ_DATA or NAK. -/
  | fabricRead (p : Nat)
  /-- FABRIC_WRITE (R567): A WRITE arrives at its target and is performed and ACKed or NAKed. -/
  | fabricWrite (p : Nat)
  /-- FABRIC_READ_DATA (R565): READ_DATA arrives and completes its request, checking carry checks. -/
  | fabricReadData (p : Nat)
  /-- FABRIC_ACK (R567): An ACK arrives and completes its WRITE. -/
  | fabricAck (p : Nat)
  /-- FABRIC_NAK (R568): A NAK arrives and ends its request with the reason's effect. -/
  | fabricNak (p : Nat)
  /-- FABRIC_FRAME (R571): A FRAME arrives and enters Prism with its port's source code. -/
  | fabricFrame (p : Nat)
  /-- FABRIC_REQ_TIMEOUT (R569): A request unanswered for REQ_TMO_MS ends as NAK NO_ROUTE. -/
  | fabricReqTimeout (tag : Nat)
  /-- FENCED_REQUEST_DROP (R614): A request carrying an old epoch is dropped, counted and recorded FENCED. -/
  | fencedRequestDrop (unit : Nat)
  /-- HELLO_SEND (R572): A trained port sends a HELLO every 100 µs or on a change. -/
  | helloSend (p : Nat)
  /-- HELLO_RECEIVE (R572): A HELLO received makes the port UP or ISOLATED. -/
  | helloReceive (p : Nat) (h : Hello)
  /-- COORD_DECLARE (R573): A device whose key has been its candidate for 2 ms declares itself coordinator. -/
  | coordDeclare
  /-- COORD_HEARTBEAT_SEND (R574): The coordinator floods a heartbeat every 1 ms. -/
  | coordHeartbeatSend
  /-- COORD_HEARTBEAT_RECEIVE (R574): A heartbeat is accepted or ignored, forwarded, and may make a coordinator step down. -/
  | coordHeartbeatReceive (p term prio serial seq : Nat)
  /-- COORD_TIMEOUT (R574): No heartbeat is accepted for 5 ms and the election starts afresh. -/
  | coordTimeout
  /-- NODE_ID_REQUEST (R576): A request for or registration of a node ID reaches the coordinator, which grants or refuses. -/
  | nodeIdRequest (p serial : Nat) (pref : Option Nat) (reg : Bool) (path : List Nat)
  /-- NODE_ID_GRANT (R576): A grant reply sets the device's node ID, ending requests under an old ID. -/
  | nodeIdGrant (p serial : Nat) (id : Option Nat) (path : List Nat)
  /-- NODE_ID_RETRY (R576): A refused device retries its request every 100 ms. -/
  | nodeIdRetry
  /-- NODE_ID_HOLD_EXPIRE (R576): ID_HOLD_S after a node becomes unreachable its ID is freed. -/
  | nodeIdHoldExpire (id : Nat)
  /-- ROUTE_UPDATE_SEND (R580): A device sends its distances to its neighbours after a change or every 100 ms. -/
  | routeUpdateSend
  /-- ROUTE_UPDATE_RECEIVE (R580): Distances from a neighbour are received and unlocked route entries recomputed. -/
  | routeUpdateReceive (p first : Nat) (dn any : List Nat)
  /-- ROUTE_ENTRY_WRITE (R582): Firmware writes a route entry, applying to later lookups and incrementing ROUTE_GEN. -/
  | routeEntryWrite (w : Writer) (d val : Nat)
  /-- LANE_RETIRE (R583): A retired lane is dropped by a CONTROL flit exchange and the port runs narrower. -/
  | laneRetire (p lane : Nat)
  /-- LENS_COMMIT (R588): GO of LNS_COMMIT copies the staged windows into the active set and increments EPOCH. -/
  | lensCommit (w : Writer)
  /-- LENS_COMMIT_DONE (R590): Every old-epoch request has performed its access and COMMIT_DONE sets. -/
  | lensCommitDone
  /-- LENS_COMMIT_FORCE (R590): At 10 µs, unissued old-epoch requests are NAKed WINDOW_MISS. -/
  | lensCommitForce
  /-- LENS_WR_DRAIN (R586): GO of LNS_WR_DRAIN starts waiting for earlier WRITEs to be answered. -/
  | lensWrDrain (w : Writer)
  /-- LENS_WR_DRAIN_DONE (R586): Every WRITE issued before GO has been answered or timed out and DONE sets. -/
  | lensWrDrainDone
  /-- FAULT_REPORT (R600): A detected fault reaches Lighthouse, is judged, recorded or merged and notified. -/
  | faultReport (unit kind loc tries : Nat) (ok : Bool)
  /-- FAULT_LOG_POP (R603): A POP write with the right and matching TIME_LO removes the oldest record. -/
  | faultLogPop (w : Writer) (val : Nat)
  /-- SWITCH_OVER (R615): A spare takes over a stopped unit's state under a new epoch. -/
  | switchOver (unit : Nat) (lost lostCtx : List Nat)
  /-- FENCED_UNIT_GATE (R617): An old unit is power-gated at its first dropped request or 1 ms after the verdict. -/
  | fencedUnitGate (unit : Nat)
  /-- LHS_MISMATCH (R598): The lock-step comparator mismatches and Lighthouse restarts from ROM. -/
  | lhsMismatch
  /-- TEST_REQUEST (R618): GO of LHS_TEST_REQ starts a self-test request or is refused. -/
  | testRequest (w : Writer) (val : Nat)
  /-- SCHEDULED_TEST (R619): A unit's test period falls due and Lighthouse tests it. -/
  | scheduledTest (unit : Nat)
  /-- TEST_SPARE_FREE (R620): A waiting test finds a spare free and switches it in. -/
  | testSpareFree
  /-- TEST_DEADLINE (R620): DEADLINE_S passes with no spare and the unit's work is shed. -/
  | testDeadline
  /-- TEST_DONE (R619): An offline test ends, re-enrolling the unit as a spare or retiring it. -/
  | testDone (pass : Bool)
  /-- LANE_RECALIBRATE (R624): A lane is recalibrated by the spare slice hourly, on temperature change or on request. -/
  | laneRecalibrate (unit : Nat) (warm ok : Bool)
  /-- FADE_READING (R626): Hourly, each island's monitor is read and its supply and clock re-planned. -/
  | fadeReading (island : Nat) (slacks : List Int) (ro : Nat) (vrOk : Bool)
  /-- FADE_RUN (R626): RUN of LHS_FADE_CFG reads and re-plans every island now. -/
  | fadeRun (w : Writer) (val : Nat) (readings : List (List Int)) (ros : List Nat) (vrOk : Bool)
  /-- PLAN_RESET (R626): RESET_PLAN returns an island's supply, clock and state to their OTP values. -/
  | planReset (w : Writer) (island : Nat)
  /-- SNAPSHOT_GO (R638): GO of LUM_SNAP_CTL fixes a snapshot instant 200 ns later, or is refused. -/
  | snapshotGo (w : Writer)
  /-- SNAPSHOT_PERIODIC (R639): PERIOD_US after the last snapshot a new one starts, or is skipped while BUSY. -/
  | snapshotPeriodic
  /-- SNAPSHOT_TAKE (R638): At the instant T every counter is copied into LUM_SNAP. -/
  | snapshotTake
  /-- SNAPSHOT_DONE (R638): BUSY clears, SEQ increments and snapshot-bound inputs are set. -/
  | snapshotDone
  /-- COUNTER_BLOCK_CLEAR (R634): CLEAR of a counter block zeroes its eight counters. -/
  | counterBlockClear (w : Writer) (b : Nat)
  /-- FREEZE_ALL (R640): FREEZE_ALL stops or restarts every counter at one instant 200 ns later. -/
  | freezeAll (w : Writer) (freeze : Bool)
  /-- CLEAR_ALL (R640): CLEAR_ALL zeroes every counter at one instant. -/
  | clearAll (w : Writer)
  /-- COUNTER_PARITY_CHECK (R636): Every 0.5 ms each counter's parity is checked and errors set PERR and are reported. -/
  | counterParityCheck (errors : List Nat)
  /-- ROLE_COMMAND (R670): A role command is verified, its operations checked and then performed in order. -/
  | roleCommand (smbus : Option Bool) (w : Writer) (val : Nat) (object : Bytes) (burnFails : List Nat)
  /-- KEY_NOP (R679): The root-key NOP operation does nothing. -/
  | keyNop (w : Writer) (val : Nat)
  /-- KEY_GENERATE (R679): Loads a slot with 32 bytes from the service DRBG. -/
  | keyGenerate (w : Writer) (val : Nat)
  /-- KEY_DERIVE_DEVICE (R679): Loads a slot with a key derived from UDS, label, operator key and lifecycle. -/
  | keyDeriveDevice (w : Writer) (val : Nat)
  /-- KEY_IMPORT (R679): Loads a slot with a key unwrapped under a wrapping slot. -/
  | keyImport (w : Writer) (val : Nat)
  /-- KEY_ERASE (R679): Erases a slot in the key store and in flash. -/
  | keyErase (w : Writer) (val : Nat)
  /-- KEY_CMD_DONE (R679): A root-key operation completes and BUSY clears. -/
  | keyCmdDone
  /-- LOG_SEAL (R677): SEAL signs the change-log head with the device identity key. -/
  | logSeal (w : Writer)
  /-- FW_NOP (R683): GO with OP NOP does nothing. -/
  | fwNop (w : Writer) (val : Nat)
  /-- FW_STAGE (R682): STAGE verifies an object in HBM and writes it to the inactive bank or copy. -/
  | fwStage (w : Writer) (val : Nat) (flashOk : Bool)
  /-- FW_ACTIVATE (R683): ACTIVATE makes the staged bank preferred, or starts a live activation. -/
  | fwActivate (w : Writer) (val : Nat)
  /-- FW_YIELD (R683): YIELD from the outgoing firmware begins SWITCHING. -/
  | fwYield (w : Writer)
  /-- FW_YIELD_TIMEOUT (R683): YIELD_10MS expires and Lighthouse begins SWITCHING itself. -/
  | fwYieldTimeout
  /-- FW_TRIAL_START (R683): With DMA rings empty and cores reset, the body is copied and t0 starts at ENTRY. -/
  | fwTrialStart
  /-- FW_OPEN (R684): OPEN from the new firmware makes FW queues ready again. -/
  | fwOpen (w : Writer)
  /-- FW_CONFIRM (R683): CONFIRM makes the new bank preferred and burns FLOOR_DEV. -/
  | fwConfirm (w : Writer) (val : Nat)
  /-- FW_CONFIRM_TIMEOUT (R685): CONFIRM does not come within CONFIRM_S and the previous image is activated. -/
  | fwConfirmTimeout
  /-- BOOT_STAGE0 (R666): The boot ROM reads OTP and the directory and verifies LHS_FW. -/
  | bootStage0
  /-- BOOT_STAGE1 (R666): Lighthouse firmware verifies and applies the blobs and loads HOST_CFG and FABRIC_ID. -/
  | bootStage1
  /-- CONFIG_READY (R712): Start-up steps 3, 3a and 4 are done, GUARANTEE is set and stage 2 begins. -/
  | configReady
  /-- BOOT_STAGE2 (R666): DEV_FW is verified, copied to LOAD_ADDR and t0 of every core started. -/
  | bootStage2
  /-- RECOVERY_IMAGE (R667): In recovery an LHS_FW image over MCTP is verified, written to both banks and run. -/
  | recoveryImage (object : Bytes)
  /-- SPDM_GET_VERSION (R690): An SPDM GET_VERSION request is answered. -/
  | spdmGetVersion (tr : Nat) (msg : Bytes)
  /-- SPDM_GET_CAPABILITIES (R690): An SPDM GET_CAPABILITIES request is answered. -/
  | spdmGetCapabilities (tr : Nat) (msg : Bytes)
  /-- SPDM_NEGOTIATE_ALGORITHMS (R690): An SPDM NEGOTIATE_ALGORITHMS request is answered. -/
  | spdmNegotiateAlgorithms (tr : Nat) (msg : Bytes)
  /-- SPDM_GET_DIGESTS (R690): An SPDM GET_DIGESTS request is answered. -/
  | spdmGetDigests (tr : Nat) (msg : Bytes)
  /-- SPDM_GET_CERTIFICATE (R690): An SPDM GET_CERTIFICATE request returns the slot 0 chain. -/
  | spdmGetCertificate (tr : Nat) (msg : Bytes)
  /-- SPDM_CHALLENGE (R691): An SPDM CHALLENGE is answered with a signed response, or Busy. -/
  | spdmChallenge (tr : Nat) (msg : Bytes) (busy : Bool)
  /-- SPDM_GET_MEASUREMENTS (R689): An SPDM GET_MEASUREMENTS returns signed measurements. -/
  | spdmGetMeasurements (tr : Nat) (msg : Bytes) (busy : Bool)
  /-- SPDM_CHUNK_SEND (R690): An SPDM CHUNK_SEND request is taken. -/
  | spdmChunkSend (tr : Nat) (msg : Bytes) (busy : Bool)
  /-- SPDM_CHUNK_GET (R690): An SPDM CHUNK_GET request is answered. -/
  | spdmChunkGet (tr : Nat) (msg : Bytes)
  /-- SPDM_VENDOR_DEFINED_REQUEST (R690): A vendor-defined SPDM request carries a role command and returns its result. -/
  | spdmVendorDefinedRequest (tr : Nat) (msg : Bytes)
  /-- BLOCK_DIM (R696): A power block whose idle condition holds goes dim. -/
  | blockDim (b : Nat)
  /-- BLOCK_DARK (R696): A block dim for DARK_MS is power-gated, keeping only its retained state. -/
  | blockDark (b : Nat)
  /-- BLOCK_WAKE (R698): A request wakes a dim or dark block, which is lit within its wake time. -/
  | blockWake (b : Nat)
  /-- PWR_FLOOR_WRITE (R697): A write raising FLOOR above the block's state wakes the block. -/
  | pwrFloorWrite (w : Writer) (b val : Nat)
  /-- PLL_LOCK_LOSS (R704): A running PLL loses lock, outputs are held and a device soft reset follows. -/
  | pllLockLoss (pll : Nat)
  /-- POWER_ON_RESET (R707): PORST# low or VAON below threshold holds the device in power-on reset. -/
  | powerOnReset
  /-- POR_RELEASE (R712): Power-on reset ends: the timebase starts, the ROM runs and GPIO[1:0] is sampled. -/
  | porRelease (gpio : Nat)
  /-- MAIN_PG_RISE (R712): MAIN_PG rises and islands are powered, PLLs locked, or D3cold is left. -/
  | mainPgRise
  /-- MAIN_PG_FALL (R714): MAIN_PG falls and the Ember domain is isolated into D3cold. -/
  | mainPgFall
  /-- DEVICE_SOFT_RESET (R710): PWR_DEV_RST.GO or Lighthouse resets every block outside Ember and reboots. -/
  | deviceSoftReset (w : Writer)
  /-- TEMP_SAMPLE (R726): Every 100 µs Lighthouse reads the 40 temperature sensors. -/
  | tempSample (temps : List Int)
  /-- THROTTLE_STEP (R726): At or above THROTTLE_C, every 20 ms the clock limits are lowered one step. -/
  | throttleStep
  /-- THROTTLE_RELEASE (R726): Below THROTTLE_C − 5 °C, every 200 ms one throttle step is taken back. -/
  | throttleRelease
  /-- THERMTRIP (R727): At 115 °C the comparator asserts THERMTRIP# until power-on reset. -/
  | thermtrip
  /-- RAIL_FAULT (R728): A rail outside its range for over 2 µs sets its RAIL bit and C_ENV. -/
  | railFault (rail : Nat)
  /-- VR_TIMEOUT (R720): VR_READY is not high 100 µs after a raise, VR_TMO and C_ENV set and the re-plan ends. -/
  | vrTimeout
  /-- ILLEGAL_INSTRUCTION (R137): A thread issues an instruction word with a reserved OP, FN, QFN or sub-function, a non-zero must-be-zero field, or the all-zero word, and raises ILLEGAL. -/
  | illegalInstruction (t word : Nat)
  /-- INSTRUCTION_FETCH_FAULT (R186): A thread's fetch of its next instruction faults (ACCESS outside HBM, PAGE_FAULT or MEM_UE), and the thread enters its handler with EPC at the fetched address. -/
  | instructionFetchFault (t : Nat)
  /-- ENTROPY_HEALTH_PASS (R378): The entropy source passes its health tests and ES_OK becomes 1, so clusters may reseed and start new work again. -/
  | entropyHealthPass
  /-- INTERRUPT_DISABLE_WRITE (R468): A Configuration Write sets or clears Interrupt Disable of a PF, sending Deassert_INTA or Assert_INTA as the interrupt condition requires. -/
  | interruptDisableWrite (pf : Nat) (disable : Bool)
  /-- PRI_ENABLE (R225): Host software enables or re-enables PRI of a PF after a Response Failure, so page requests are issued again instead of failing at once. -/
  | priEnable (pf : Nat) (alloc : Nat)
  /-- FABRIC_SIGNAL_LOSS (R555): A trained fabric port loses signal or alignment from its partner and enters TRAINING, going DOWN under R558 if it does not recover. -/
  | fabricSignalLoss (p : Nat)
  /-- FABRIC_SIGNAL_DETECT (R555): A fabric port that is DOWN with EN 1 detects a partner on its lanes and enters TRAINING. -/
  | fabricSignalDetect (p : Nat)
  /-- TRST_ASSERT (R734): TRST# falls and resets the JTAG TAP asynchronously. -/
  | trstAssert
  deriving DecidableEq, Repr

end Sys2Proof
end

