-- ==== Sys2Proof/Machine/Hash.lean ====
section
/-!
DEFINITION. The check codes and hash functions that the spec uses by name: CRC-32C of R49, the Ethernet FCS (R28, IEEE 802.3),
and SHAKE256 and KMAC256 (R5: FIPS 202, SP 800-185). The standards' own text is outside the spec (log entry 8, PRESUMED).
-/

namespace Sys2Proof.Machine

/-! ### Reflected 32-bit CRCs -/

/-- One bit step of a reflected CRC with reflected polynomial `poly`. -/
def crcBit (poly c : Nat) : Nat := if c % 2 = 1 then (c / 2) ^^^ poly else c / 2

/-- The CRC register after one byte. -/
def crcByte (poly c : Nat) (b : Byte) : Nat :=
  let x := c ^^^ b.toNat
  crcBit poly (crcBit poly (crcBit poly (crcBit poly (crcBit poly (crcBit poly (crcBit poly (crcBit poly x)))))))

/-- The CRC register after a byte string. -/
def crcRun (poly : Nat) : Nat → Bytes → Nat
  | c, [] => c
  | c, b :: bs => crcRun poly (crcByte poly c b) bs

/-- The reflected polynomial of CRC-32C, 0x1EDC_6F41 (R49). -/
def crc32cPoly : Nat := 0x82F63B78

/-- CRC-32C of R49: initial value and final XOR 0xFFFF_FFFF. -/
def crc32c (bs : Bytes) : Nat := crcRun crc32cPoly 0xFFFFFFFF bs ^^^ 0xFFFFFFFF

/-- The FCS of an Ethernet frame (IEEE 802.3, R28), as the value of its four bytes in wire order, little-endian. -/
def ethFcs (bs : Bytes) : Nat := crcRun 0xEDB88320 0xFFFFFFFF bs ^^^ 0xFFFFFFFF

/-! ### Keccak -/

/-- Rotation offsets of the 25 lanes, lane x + 5 y. -/
def keccakRot : List Nat :=
  [0, 1, 62, 28, 27, 36, 44, 6, 55, 20, 3, 10, 43, 25, 39, 41, 45, 15, 21, 8, 18, 2, 61, 56, 14]

/-- Round constants. -/
def keccakRc : List Nat :=
  [0x0000000000000001, 0x0000000000008082, 0x800000000000808A, 0x8000000080008000, 0x000000000000808B,
   0x0000000080000001, 0x8000000080008081, 0x8000000000008009, 0x000000000000008A, 0x0000000000000088,
   0x0000000080008009, 0x000000008000000A] ++
  [0x000000008000808B, 0x800000000000008B, 0x8000000000008089, 0x8000000000008003, 0x8000000000008002,
   0x8000000000000080, 0x000000000000800A, 0x800000008000000A, 0x8000000080008081, 0x8000000000008080,
   0x0000000080000001, 0x8000000080008008]

/-- Rotate a 64-bit lane left. -/
def rol64 (x n : Nat) : Nat := (x <<< n ||| x >>> (64 - n)) % 2 ^ 64

/-- One Keccak round on 25 lanes. -/
def keccakRound (a : List Nat) (rc : Nat) : List Nat :=
  let at5 (l : List Nat) (i : Nat) := l.getD i 0
  let c := (List.range 5).map fun x =>
    at5 a x ^^^ at5 a (x + 5) ^^^ at5 a (x + 10) ^^^ at5 a (x + 15) ^^^ at5 a (x + 20)
  let d := (List.range 5).map fun x => at5 c ((x + 4) % 5) ^^^ rol64 (at5 c ((x + 1) % 5)) 1
  let e := (List.range 25).map fun i => rol64 (at5 a i ^^^ at5 d (i % 5)) (keccakRot.getD i 0)
  -- rho and pi: lane (x, y) moves to (y, 2x + 3y); target i comes from x = (i%5 + 3*(i/5)) % 5, y = i % 5
  let b := (List.range 25).map fun i => at5 e ((i % 5 + 3 * (i / 5)) % 5 + 5 * (i % 5))
  let f := (List.range 25).map fun i =>
    let x := i % 5
    let y := i / 5
    at5 b i ^^^ ((2 ^ 64 - 1 - at5 b ((x + 1) % 5 + 5 * y)) &&& at5 b ((x + 2) % 5 + 5 * y))
  match f with
  | [] => []
  | l0 :: r => (l0 ^^^ rc) :: r

/-- Keccak-f[1600]. -/
def keccakF (a : List Nat) : List Nat := keccakRc.foldl keccakRound a

/-- Absorb whole blocks of `rate` bytes. -/
def keccakAbsorb (rate : Nat) : Nat → List Nat → Bytes → List Nat
  | 0, a, _ => a
  | n + 1, a, bs =>
    let blk := bs.take rate
    let a' := (List.range 25).map fun i => a.getD i 0 ^^^ leVal ((blk.drop (8 * i)).take 8)
    keccakAbsorb rate n (keccakF a') (bs.drop rate)

/-- Squeeze blocks. -/
def keccakSqueeze (rate : Nat) : Nat → List Nat → Bytes
  | 0, _ => []
  | n + 1, a => (a.flatMap (leBytes 8)).take rate ++ keccakSqueeze rate n (keccakF a)

/-- The sponge of a rate in bytes with a domain byte, `n` output bytes. -/
def sponge (rate dom : Nat) (bs : Bytes) (n : Nat) : Bytes :=
  let blocks := bs.length / rate + 1
  let padLen := blocks * rate - bs.length
  let pad : Bytes :=
    if padLen = 1 then [BitVec.ofNat 8 (dom ||| 0x80)]
    else [BitVec.ofNat 8 dom] ++ zeros (padLen - 2) ++ [0x80]
  let a := keccakAbsorb rate blocks (List.replicate 25 0) (bs ++ pad)
  (keccakSqueeze rate ((n + rate - 1) / rate) a).take n

/-- The sponge of rate 136 bytes. -/
def sponge136 (dom : Nat) (bs : Bytes) (n : Nat) : Bytes := sponge 136 dom bs n

/-- SHA3-512 (FIPS 202). -/
def sha3of512 (bs : Bytes) : Bytes := sponge 72 0x06 bs 64

/-- SHAKE256 with `n` output bytes (FIPS 202). -/
def shake256 (bs : Bytes) (n : Nat) : Bytes := sponge136 0x1F bs n

/-- left_encode and right_encode of SP 800-185. -/
def bytesNeeded (v : Nat) : Nat := if v < 256 then 1 else if v < 65536 then 2 else if v < 16777216 then 3 else 4

def leftEncode (v : Nat) : Bytes := BitVec.ofNat 8 (bytesNeeded v) :: beBytes (bytesNeeded v) v

def rightEncode (v : Nat) : Bytes := beBytes (bytesNeeded v) v ++ [BitVec.ofNat 8 (bytesNeeded v)]

/-- encode_string of SP 800-185. -/
def encodeString (bs : Bytes) : Bytes := leftEncode (8 * bs.length) ++ bs

/-- bytepad of SP 800-185 with width 136. -/
def bytepad136 (bs : Bytes) : Bytes :=
  let x := leftEncode 136 ++ bs
  x ++ zeros ((136 - x.length % 136) % 136)

/-- An ASCII string as bytes. -/
def ascii (s : String) : Bytes := s.toList.map fun c => BitVec.ofNat 8 c.toNat

/-- KMAC256(K, X, L bits, S) of SP 800-185. -/
def kmac256 (k x : Bytes) (bits : Nat) (custom : Bytes) : Bytes :=
  let pre := bytepad136 (encodeString (ascii "KMAC") ++ encodeString custom)
  sponge136 0x04 (pre ++ bytepad136 (encodeString k) ++ x ++ rightEncode bits) (bits / 8)

end Sys2Proof.Machine
end

