-- ==== Sys2Proof/Config.lean ====
section
/-!
DEFINITION. What an implementation fixes and the spec leaves open: free values. Each is an opaque constant with no body, so
nothing in Lean can say what it is; a claim about the model holds whatever it is (notes/assumptions).
-/

namespace Sys2Proof

/-- The ordering codes of R1. -/
inductive Part where
  | a28 | a24 | b24
  deriving DecidableEq, Repr

/-- Free values, numbered by a counter that the state carries: the `n`-th choice the spec leaves open (log entry 3). -/
opaque Config.free : Nat → Nat

/-- The `n`-th byte drawn from the service DRBG of R377 (log entry 4). -/
opaque Config.drbg : Nat → Byte

/-- Whether a signature passes pure SLH-DSA verification of FIPS 205 (R662 check 8) for a public key, a message and a
context string (log entry 5). -/
opaque Config.slhValid : Bytes → Bytes → Bytes → Bytes → Bool

/-- The 49,856-byte SLH-DSA-SHAKE-256f signature of a message under the device identity key (R677, R691; log entry 5). -/
opaque Config.slhSign : Bytes → Bytes

/-- The public key of the device identity key (R688; log entry 5). -/
opaque Config.deviceKey : Bytes

/-- Byte `n` of the UDS, burned by the device from its entropy source at the factory and never readable (R659; log
entry 4). -/
opaque Config.uds : Nat → Byte

/-- The path selector of the READ and WRITE packets of a unit to a node: CRC-32C over the unit's identity and the node, in a byte
layout that the spec does not lay down (R566; log entry 3). -/
opaque Config.pathHash : Nat → Nat → Nat

/-- The set of the ATC in which a page of a function, with a PASID code, is held: one of 1,024 (R222; log entry 3). -/
opaque Config.atcSet : Nat → Nat → Nat → Nat

/-- The packet pipeline of a host port (R493, R495): the spec does not say which of the four it is (log entry 3). -/
opaque Config.hostPipe : Nat → Nat

/-- SHAKE256 of the Ember boot ROM (R689), 64 bytes (log entry 6). -/
opaque Config.romHash : Bytes

/-- The 64-bit word of the change-log region past the records it holds: what erased flash reads as (R655; log entry 3). -/
opaque Config.blankFlash : Nat → Nat

end Sys2Proof
end

