-- ==== Sys2Proof/Machine/Registers.lean ====
section
/-!
DEFINITION. The registers of the device register space (R40, R44) as the register tables of the spec lay them out: for every
register its offset from 0x00F0_0000_0000, its index strides, its width and its fields; for every field its bits, its
Access code (R9), its Reset value (R18) and the values its Meaning does not reserve (R13). A register with several
instances is one descriptor; its instances are numbered in mixed radix over its index letters, the first letter most
significant. Where a table names a register of a cluster, a core, a thread or a pipeline, that is the first letter.
-/

namespace Sys2Proof.Machine

/-- The rights of R650, in bit order. -/
inductive Right where
  | manager | safety | keys | debug | installer | maker
  deriving DecidableEq, Repr

/-- The bit of a right in R650. -/
def Right.bit : Right → Nat
  | .manager => 0 | .safety => 1 | .keys => 2 | .debug => 3 | .installer => 4 | .maker => 5

/-- The Access codes of R9. `wol r` is an RWL field that its Meaning says reads 0 (a GO or POP bit). -/
inductive Acc where
  | ro | rw | rw1c | rw1s | wo | rwl (r : Right) | wol (r : Right)
  deriving DecidableEq, Repr

/-- A Reset column (R18): one value, a multiple of the instance number, one value for instance 0 and another for the
rest, the instance number modulo a count, or the role and logical instance that R599 gives a unit. -/
inductive Rst where
  | const (n : Nat) | linear (m : Nat) | first (a b : Nat) | wrap (m : Nat) | unitRole | unitLogical
  deriving DecidableEq, Repr

/-- The role after reset of unit ID `u` (R599): spares are physical core 8 of a cluster, physical Glint clusters 32 and
33, and physical bank 32 of a pipeline. -/
def unitRoleAtReset (u : Nat) : Nat :=
  let ty := u / 2048
  let i := u % 2048
  if ty = 0 ∧ i < 108 ∧ i % 9 = 8 then 1
  else if ty = 1 ∧ (i = 32 ∨ i = 33) then 1
  else if ty = 2 ∧ i < 132 ∧ i % 33 = 32 then 1
  else 0

/-- The logical instance that unit ID `u` serves after reset (R599); 0 for a spare. -/
def unitLogicalAtReset (u : Nat) : Nat :=
  let ty := u / 2048
  let i := u % 2048
  if unitRoleAtReset u = 1 then 0
  else if ty = 0 then 8 * (i / 9) + i % 9
  else if ty = 2 then 32 * (i / 33) + i % 33
  else i

/-- The reset value of instance `i`. -/
def Rst.at (r : Rst) (i : Nat) : Nat :=
  match r with
  | .const n => n
  | .linear m => m * i
  | .first a b => if i = 0 then a else b
  | .wrap m => i % m
  | .unitRole => unitRoleAtReset i
  | .unitLogical => unitLogicalAtReset i

/-- One field of a register table. `ok` lists the intervals of values that are not reserved; empty: every value. -/
structure Fld where
  id  : Nat
  lo  : Nat
  w   : Nat
  acc : Acc
  rst : Rst
  ok  : List (Nat × Nat)
  deriving DecidableEq, Repr

/-- One register: number, offset of instance 0, strides and counts of its index letters, width in bits, fields. -/
structure RegD where
  num  : Nat
  base : Nat
  dims : List (Nat × Nat)
  w    : Nat
  flds : List Fld
  deriving DecidableEq, Repr

/-! The fields. -/
namespace R

def ETH_GRP_CFG_MODE : Fld := ⟨0, 0, 3, .rw, (.const 0), [(0, 3)]⟩
def ETH_GRP_CFG_CFG_ERR : Fld := ⟨1, 3, 1, .ro, (.const 0), []⟩
def ETH_PORT_CFG_EN : Fld := ⟨2, 0, 1, .rw, (.const 0), []⟩
def ETH_PORT_CFG_FEC : Fld := ⟨3, 1, 2, .rw, (.const 0), [(0, 1)]⟩
def ETH_PORT_CFG_MAX_FRAME : Fld := ⟨4, 3, 15, .rw, (.const 9728), [(64, 16388)]⟩
def ETH_PORT_CFG_LOOPBACK : Fld := ⟨5, 18, 2, .rw, (.const 0), [(0, 2)]⟩
def ETH_PORT_CFG_AN_EN : Fld := ⟨6, 20, 1, .rw, (.const 1), []⟩
def ETH_PORT_STAT_LINK_UP : Fld := ⟨7, 0, 1, .ro, (.const 0), []⟩
def ETH_PORT_STAT_BLOCK_LOCK : Fld := ⟨8, 1, 1, .ro, (.const 0), []⟩
def ETH_PORT_STAT_AM_LOCK : Fld := ⟨9, 2, 1, .ro, (.const 0), []⟩
def ETH_PORT_STAT_LOCAL_FAULT : Fld := ⟨10, 3, 1, .ro, (.const 0), []⟩
def ETH_PORT_STAT_REMOTE_FAULT : Fld := ⟨11, 4, 1, .ro, (.const 0), []⟩
def ETH_PORT_STAT_HI_SER : Fld := ⟨12, 5, 1, .ro, (.const 0), []⟩
def ETH_PORT_STAT_RATE : Fld := ⟨13, 6, 3, .ro, (.const 0), []⟩
def ETH_PORT_STAT_DOWN_CNT : Fld := ⟨14, 16, 16, .ro, (.const 0), []⟩
def ETH_PORT_CNT_FCS_ERR : Fld := ⟨15, 0, 24, .rw, (.const 0), []⟩
def ETH_PORT_CNT_UNDERSIZE : Fld := ⟨16, 24, 16, .rw, (.const 0), []⟩
def ETH_PORT_CNT_OVERSIZE : Fld := ⟨17, 40, 16, .rw, (.const 0), []⟩
def ETH_PORT_CNT_TX_ABORT : Fld := ⟨18, 56, 8, .rw, (.const 0), []⟩
def LTN_CL_CHLEASE_LEASE_US : Fld := ⟨19, 0, 16, .rw, (.const 100), [(1, 65535)]⟩
def LTN_CORE_ISSUE_HP_THR : Fld := ⟨20, 0, 3, .rw, (.const 0), []⟩
def LTN_CORE_ISSUE_HP_EN : Fld := ⟨21, 3, 1, .rw, (.const 0), []⟩
def LTN_CORE_ISSUE_RP : Fld := ⟨22, 4, 3, .ro, (.const 0), []⟩
def LTN_EVBIND_SRC_TYPE : Fld := ⟨23, 0, 4, .rw, (.const 0), []⟩
def LTN_EVBIND_SCOPE : Fld := ⟨24, 4, 2, .rw, (.const 0), []⟩
def LTN_EVBIND_GROUP : Fld := ⟨25, 8, 4, .rw, (.const 0), []⟩
def LTN_EVBIND_SRC_ID : Fld := ⟨26, 16, 16, .rw, (.const 0), []⟩
def LTN_CL_IRQMAP_THREAD : Fld := ⟨27, 0, 3, .rw, (.const 0), []⟩
def LTN_CL_IRQMAP_CORE : Fld := ⟨28, 3, 3, .rw, (.const 0), []⟩
def LTN_CL_IRQMAP_EN : Fld := ⟨29, 8, 1, .rw, (.const 0), []⟩
def LTN_THR_IRQ_PENDING : Fld := ⟨30, 0, 1, .ro, (.const 0), []⟩
def LTN_THR_IRQ_IE : Fld := ⟨31, 1, 1, .rw, (.const 0), []⟩
def LTN_CH_CFG_ENABLE : Fld := ⟨32, 0, 1, .rw, (.const 0), []⟩
def LTN_CH_CFG_CFG_ERR : Fld := ⟨33, 1, 1, .ro, (.const 0), []⟩
def LTN_CH_CFG_SIZE_LOG2 : Fld := ⟨34, 2, 4, .rw, (.const 0), [(2, 10)]⟩
def LTN_CH_CFG_SCOPE : Fld := ⟨35, 6, 2, .rw, (.const 0), []⟩
def LTN_CH_CFG_GROUP : Fld := ⟨36, 8, 4, .rw, (.const 0), []⟩
def LTN_CH_CFG_BASE_SLOT : Fld := ⟨37, 16, 11, .rw, (.const 0), []⟩
def LTN_CH_CFG_READER : Fld := ⟨38, 32, 10, .rw, (.const 0), []⟩
def LTN_CH_STAT_VISIBLE : Fld := ⟨39, 0, 11, .ro, (.const 0), []⟩
def LTN_CH_STAT_RESERVED : Fld := ⟨40, 11, 11, .ro, (.const 0), []⟩
def LTN_CH_STAT_VOIDCNT : Fld := ⟨41, 32, 16, .ro, (.const 0), []⟩
def LTN_CH_STAT_NEXT_SEQ : Fld := ⟨42, 48, 16, .ro, (.const 0), []⟩
def LTN_CORE_FLTQ_STAT_COUNT : Fld := ⟨43, 0, 5, .ro, (.const 0), []⟩
def LTN_CORE_FLTQ_STAT_OVF : Fld := ⟨44, 8, 1, .rw1c, (.const 0), []⟩
def LTN_CORE_FLTQ_STAT_LOST : Fld := ⟨45, 16, 8, .ro, (.const 0), []⟩
def LTN_CORE_FLTQ_HEAD_CLASS : Fld := ⟨46, 0, 6, .ro, (.const 0), []⟩
def LTN_CORE_FLTQ_HEAD_THREAD : Fld := ⟨47, 8, 3, .ro, (.const 0), []⟩
def LTN_CORE_FLTQ_HEAD_INFO : Fld := ⟨48, 16, 48, .ro, (.const 0), []⟩
def LTN_CORE_HBCTL_PERIOD_US : Fld := ⟨49, 0, 16, .rw, (.const 1000), [(100, 1000)]⟩
def LTN_CORE_ECL_COUNT : Fld := ⟨50, 0, 13, .ro, (.const 0), []⟩
def LTN_CORE_ECL_CENSUS : Fld := ⟨51, 16, 1, .ro, (.const 0), []⟩
def LTN_CORE_ECL_ARMED : Fld := ⟨52, 17, 1, .ro, (.const 1), []⟩
def LTN_CORE_ECL_WAITING : Fld := ⟨53, 24, 8, .ro, (.const 0), []⟩
def LTN_GRP_CTL_EN : Fld := ⟨54, 0, 1, .rw, (.const 0), []⟩
def LTN_GRP_CTL_SUP_CORE : Fld := ⟨55, 1, 3, .rw, (.const 0), []⟩
def LTN_GRP_CTL_COUNT : Fld := ⟨56, 8, 13, .ro, (.const 0), []⟩
def LTN_GRP_CTL_CENSUS : Fld := ⟨57, 24, 1, .ro, (.const 0), []⟩
def LTN_GRP_CTL_ARMED : Fld := ⟨58, 25, 1, .ro, (.const 1), []⟩
def LTN_THR_CTL_START : Fld := ⟨59, 0, 1, .wo, (.const 0), []⟩
def LTN_THR_CTL_KILL : Fld := ⟨60, 1, 1, .wo, (.const 0), []⟩
def LTN_THR_CTL_STATE : Fld := ⟨61, 4, 3, .ro, (.const 0), []⟩
def LTN_THR_CTL_LEASE_LOST : Fld := ⟨62, 8, 1, .ro, (.const 0), []⟩
def LTN_THR_CTL_RESV_HELD : Fld := ⟨63, 9, 1, .ro, (.const 0), []⟩
def LTN_THR_CTL_STAGE_CNT : Fld := ⟨64, 12, 4, .ro, (.const 0), []⟩
def LTN_THR_CTL_DBG_CAUSE : Fld := ⟨65, 16, 3, .ro, (.const 0), []⟩
def LTN_DBG_CTL_HALT_REQ : Fld := ⟨66, 0, 8, (.rwl .debug), (.const 0), []⟩
def LTN_DBG_CTL_RESUME : Fld := ⟨67, 8, 8, (.wol .debug), (.const 0), []⟩
def LTN_DBG_CTL_STEP : Fld := ⟨68, 16, 8, (.wol .debug), (.const 0), []⟩
def LTN_DBG_CTL_HB_PAUSE_ON_HALT : Fld := ⟨69, 24, 1, (.rwl .debug), (.const 1), []⟩
def LTN_DBG_CTL_BP_EN : Fld := ⟨70, 25, 1, (.rwl .debug), (.const 0), []⟩
def LTN_DMA_RING_CFG_ENABLE : Fld := ⟨71, 0, 1, .rw, (.const 0), []⟩
def LTN_DMA_RING_CFG_CFG_ERR : Fld := ⟨72, 1, 1, .ro, (.const 0), []⟩
def LTN_DMA_RING_CFG_SIZE_LOG2 : Fld := ⟨73, 2, 4, .rw, (.const 0), [(4, 12)]⟩
def LTN_DMA_RING_CFG_OWNER : Fld := ⟨74, 8, 10, .rw, (.const 0), []⟩
def LTN_DMA_RING_BASE_BASE : Fld := ⟨75, 5, 43, .rw, (.const 0), []⟩
def LTN_DMA_RING_STAT_INFLIGHT : Fld := ⟨76, 0, 13, .ro, (.const 0), []⟩
def LTN_DMA_RING_STAT_UNACKED : Fld := ⟨77, 16, 13, .ro, (.const 0), []⟩
def LTN_DMA_RING_STAT_NEXT_SEQ : Fld := ⟨78, 32, 16, .ro, (.const 0), []⟩
def MEM_SCRUB_CTL_HBM_PASS_H : Fld := ⟨79, 0, 8, (.rwl .safety), (.const 12), [(1, 96)]⟩
def MEM_SCRUB_CTL_SRAM_PASS_MS : Fld := ⟨80, 8, 12, (.rwl .safety), (.const 1000), [(100, 4000)]⟩
def MEM_SCRUB_CTL_HBM_EN : Fld := ⟨81, 20, 1, (.rwl .safety), (.const 1), []⟩
def MEM_SCRUB_CTL_SRAM_EN : Fld := ⟨82, 21, 1, (.rwl .safety), (.const 1), []⟩
def MEM_ECC_CNT_CORRECTED : Fld := ⟨83, 0, 32, .ro, (.const 0), []⟩
def MEM_ECC_CNT_UNCORRECTABLE : Fld := ⟨84, 32, 16, .ro, (.const 0), []⟩
def MEM_ECC_CNT_POISON_READS : Fld := ⟨85, 48, 16, .ro, (.const 0), []⟩
def MEM_ECC_LOG_ADDR : Fld := ⟨86, 0, 48, .ro, (.const 0), []⟩
def MEM_ECC_LOG_VALID : Fld := ⟨87, 48, 1, .rw1c, (.const 0), []⟩
def MEM_TLBI_ARG_ARG : Fld := ⟨88, 0, 64, .rw, (.const 0), []⟩
def MEM_TLBI_CTL_SCOPE : Fld := ⟨89, 0, 2, .rw, (.const 0), [(0, 2)]⟩
def MEM_TLBI_CTL_CLUSTERS : Fld := ⟨90, 2, 12, .rw, (.const 0), []⟩
def MEM_TLBI_CTL_GO : Fld := ⟨91, 14, 1, .wo, (.const 0), []⟩
def MEM_TLBI_CTL_BUSY : Fld := ⟨92, 15, 1, .ro, (.const 0), []⟩
def MEM_TLBI_CTL_REFUSED : Fld := ⟨93, 16, 1, .ro, (.const 0), []⟩
def MEM_TLBI_CTL_ASID : Fld := ⟨94, 32, 16, .rw, (.const 0), []⟩
def MEM_PRI_TMO_TMO_MS : Fld := ⟨95, 0, 16, .rw, (.const 1000), [(1, 65535)]⟩
def MEM_XLF_CFG_CHAN : Fld := ⟨96, 0, 12, .rw, (.const 0), []⟩
def MEM_XLF_CFG_EN : Fld := ⟨97, 12, 1, .rw, (.const 0), []⟩
def MEM_XLF_CFG_TMO_MS : Fld := ⟨98, 16, 8, .rw, (.const 10), [(1, 255)]⟩
def MEM_XLF_RESP_CLUSTER : Fld := ⟨99, 0, 4, .wo, (.const 0), []⟩
def MEM_XLF_RESP_HOLD : Fld := ⟨100, 4, 6, .wo, (.const 0), []⟩
def MEM_XLF_RESP_FAIL : Fld := ⟨101, 10, 1, .wo, (.const 0), []⟩
def PRS_PROF_EN : Fld := ⟨102, 0, 1, .rw, (.const 0), []⟩
def PRS_PROF_DEPTH : Fld := ⟨103, 1, 5, .rw, (.const 24), [(1, 24)]⟩
def PRS_PROF_WINDOW : Fld := ⟨104, 6, 4, .rw, (.const 8), [(1, 8)]⟩
def PRS_PROF_START : Fld := ⟨105, 10, 7, .rw, (.const 0), []⟩
def PRS_PROF_RECIRC_PROF : Fld := ⟨106, 17, 6, .rw, (.const 0), []⟩
def PRS_PROF_LEN_ACT : Fld := ⟨107, 23, 2, .rw, (.const 0), [(0, 2)]⟩
def PRS_PROF_EXCQ : Fld := ⟨108, 25, 4, .rw, (.const 0), []⟩
def PRS_PROF_PF_MODE : Fld := ⟨109, 29, 1, .rw, (.const 0), []⟩
def PRS_PROF_PF_CONST : Fld := ⟨110, 30, 8, .rw, (.const 0), []⟩
def PRS_PROF_PF_BIT : Fld := ⟨111, 38, 10, .rw, (.const 0), [(0, 632)]⟩
def PRS_SRC_PROF_PROFILE : Fld := ⟨112, 0, 6, .rw, (.const 0), []⟩
def PRS_NODE_LEN_V : Fld := ⟨113, 0, 1, .rw, (.const 0), []⟩
def PRS_NODE_LEN_MIN_LEN : Fld := ⟨114, 1, 7, .rw, (.const 0), [(1, 127)]⟩
def PRS_NODE_LEN_LEN_MODE : Fld := ⟨115, 8, 2, .rw, (.const 0), [(0, 2)]⟩
def PRS_NODE_LEN_LEN_BIT : Fld := ⟨116, 10, 9, .rw, (.const 0), []⟩
def PRS_NODE_LEN_LEN_W : Fld := ⟨117, 19, 4, .rw, (.const 0), []⟩
def PRS_NODE_LEN_LEN_SH : Fld := ⟨118, 23, 2, .rw, (.const 0), []⟩
def PRS_NODE_LEN_LEN_ADD : Fld := ⟨119, 25, 8, .rw, (.const 0), []⟩
def PRS_NODE_NXT_NXT_EN : Fld := ⟨120, 0, 1, .rw, (.const 0), []⟩
def PRS_NODE_NXT_NXT_BIT : Fld := ⟨121, 1, 9, .rw, (.const 0), []⟩
def PRS_NODE_NXT_NXT_W : Fld := ⟨122, 10, 4, .rw, (.const 0), []⟩
def PRS_NODE_NXT_CLM_EN : Fld := ⟨123, 14, 1, .rw, (.const 0), []⟩
def PRS_NODE_NXT_CLM_BIT : Fld := ⟨124, 15, 9, .rw, (.const 0), []⟩
def PRS_NODE_NXT_CLM_W : Fld := ⟨125, 24, 4, .rw, (.const 0), []⟩
def PRS_NODE_NXT_CLM_SH : Fld := ⟨126, 28, 2, .rw, (.const 0), []⟩
def PRS_NODE_NXT_CLM_ADD : Fld := ⟨127, 30, 8, .rw, (.const 0), []⟩
def PRS_TRANS_V : Fld := ⟨128, 0, 1, .rw, (.const 0), []⟩
def PRS_TRANS_FROM : Fld := ⟨129, 1, 7, .rw, (.const 0), []⟩
def PRS_TRANS_NEXT : Fld := ⟨130, 8, 7, .rw, (.const 0), []⟩
def PRS_TRANS_VALUE : Fld := ⟨131, 16, 16, .rw, (.const 0), []⟩
def PRS_TRANS_MASK : Fld := ⟨132, 32, 16, .rw, (.const 0), []⟩
def PRS_KEYX_EN : Fld := ⟨133, 0, 1, .rw, (.const 0), []⟩
def PRS_KEYX_NODE : Fld := ⟨134, 1, 7, .rw, (.const 0), []⟩
def PRS_KEYX_OCC : Fld := ⟨135, 8, 2, .rw, (.const 0), []⟩
def PRS_KEYX_SRC_BIT : Fld := ⟨136, 10, 12, .rw, (.const 0), []⟩
def PRS_KEYX_WIDTH : Fld := ⟨137, 22, 7, .rw, (.const 0), [(1, 128)]⟩
def PRS_KEYX_DST_BIT : Fld := ⟨138, 29, 10, .rw, (.const 0), [(48, 639)]⟩
def PSM_BANK_CFG_WIDTH : Fld := ⟨139, 0, 2, .rw, (.const 0), [(0, 2)]⟩
def PSM_BANK_CFG_KSEL : Fld := ⟨140, 2, 2, .rw, (.const 0), []⟩
def PSM_BANK_CFG_EN : Fld := ⟨141, 4, 1, .rw, (.const 0), []⟩
def PSM_BANK_CFG_SHIFT_LIMIT : Fld := ⟨142, 5, 5, .rw, (.const 15), []⟩
def PSM_BANK_CFG_DUP_VALID : Fld := ⟨143, 10, 1, .rw, (.const 0), []⟩
def PSM_BANK_CFG_DUP_BANK : Fld := ⟨144, 11, 5, .rw, (.const 0), []⟩
def PSM_BANK_CFG_PHYS : Fld := ⟨145, 16, 6, .ro, (.wrap 32), []⟩
def PSM_RG_VALUE : Fld := ⟨146, 0, 8, .rw, (.const 0), []⟩
def PSM_RG_MASK : Fld := ⟨147, 8, 8, .rw, (.const 0), []⟩
def PSM_RG_EN : Fld := ⟨148, 16, 1, .rw, (.const 1), []⟩
def PSM_PROF_BANKS_BANKS : Fld := ⟨149, 0, 32, .rw, (.const 4294967295), []⟩
def PRS_EXCQ_CHAN : Fld := ⟨150, 0, 12, .rw, (.const 0), []⟩
def PRS_EXCQ_EN : Fld := ⟨151, 12, 1, .rw, (.const 0), []⟩
def PRS_CNT_A_TRUNC : Fld := ⟨152, 0, 32, .rw, (.const 0), []⟩
def PRS_CNT_A_LENC : Fld := ⟨153, 32, 32, .rw, (.const 0), []⟩
def PRS_CNT_B_EXC_DROP : Fld := ⟨154, 0, 32, .rw, (.const 0), []⟩
def PRS_CNT_B_NOPROF : Fld := ⟨155, 32, 32, .rw, (.const 0), []⟩
def PSM_VERIFY_STAT_FALSE_HITS : Fld := ⟨156, 0, 32, .rw, (.const 0), []⟩
def PSM_VERIFY_STAT_SHADOW_UE : Fld := ⟨157, 32, 16, .rw, (.const 0), []⟩
def PSM_VERIFY_STAT_LIMIT : Fld := ⟨158, 48, 16, .rw, (.const 0), []⟩
def PSM_SCRUB_STAT_REPAIRS : Fld := ⟨159, 0, 32, .rw, (.const 0), []⟩
def PSM_SCRUB_STAT_PASSES : Fld := ⟨160, 32, 32, .ro, (.const 0), []⟩
def PSM_UPD_CTL_COUNT : Fld := ⟨161, 0, 9, .rw, (.const 0), [(0, 256)]⟩
def PSM_UPD_CTL_GO : Fld := ⟨162, 9, 1, .wo, (.const 0), []⟩
def PSM_UPD_CTL_BUSY : Fld := ⟨163, 10, 1, .ro, (.const 0), []⟩
def PSM_UPD_CTL_HOLD_GATE : Fld := ⟨164, 11, 1, .rw, (.const 0), []⟩
def PSM_UPD_CTL_ERR : Fld := ⟨165, 12, 4, .ro, (.const 0), []⟩
def PSM_UPD_CTL_ERR_OP : Fld := ⟨166, 16, 8, .ro, (.const 0), []⟩
def PSM_UPD_CTL_STAGED : Fld := ⟨167, 24, 1, .ro, (.const 0), []⟩
def PSM_UPD_CTL_REFUSED : Fld := ⟨168, 25, 1, .ro, (.const 0), []⟩
def PSM_PLACE_BANK : Fld := ⟨169, 0, 5, .rw, (.const 0), []⟩
def PSM_PLACE_BAND : Fld := ⟨170, 5, 4, .rw, (.const 0), []⟩
def PSM_PLACE_GO : Fld := ⟨171, 9, 1, .wo, (.const 0), []⟩
def PSM_PLACE_DONE : Fld := ⟨172, 10, 1, .ro, (.const 0), []⟩
def PSM_PLACE_ROW : Fld := ⟨173, 11, 11, .ro, (.const 0), []⟩
def PSM_PLACE_FULL : Fld := ⟨174, 22, 1, .ro, (.const 0), []⟩
def PSM_HOLD_STAT_DROPS : Fld := ⟨175, 0, 32, .rw, (.const 0), []⟩
def PSM_HOLD_STAT_MAX_FILL : Fld := ⟨176, 32, 13, .rw, (.const 0), []⟩
def PSM_HOLD_STAT_HOLDS : Fld := ⟨177, 48, 16, .rw, (.const 0), []⟩
def PSM_RDSEL_BANK : Fld := ⟨178, 0, 5, .rw, (.const 0), []⟩
def PSM_RDSEL_ROW : Fld := ⟨179, 5, 11, .rw, (.const 0), []⟩
def PSM_RDSEL_UE : Fld := ⟨180, 16, 1, .ro, (.const 0), []⟩
def PSM_RDSEL_SUSPECT : Fld := ⟨181, 17, 1, .ro, (.const 0), []⟩
def PSM_RDSEL_DEAD : Fld := ⟨182, 18, 1, .ro, (.const 0), []⟩
def FWD_PSEL_DA_BIT : Fld := ⟨183, 0, 10, .rw, (.const 0), []⟩
def FWD_PSEL_SA_BIT : Fld := ⟨184, 10, 10, .rw, (.const 0), []⟩
def FWD_PSEL_IP_BIT : Fld := ⟨185, 20, 10, .rw, (.const 0), []⟩
def FWD_PSEL_DA_PI : Fld := ⟨186, 30, 4, .rw, (.const 0), []⟩
def FWD_PSEL_SA_PI : Fld := ⟨187, 34, 4, .rw, (.const 0), []⟩
def FWD_PSEL_IP_PI : Fld := ⟨188, 38, 4, .rw, (.const 0), []⟩
def FWD_PSEL_LEARN : Fld := ⟨189, 42, 1, .rw, (.const 0), []⟩
def FWD_PSEL_MISS : Fld := ⟨190, 43, 2, .rw, (.const 0), [(0, 1)]⟩
def FWD_CNT_UE : Fld := ⟨191, 0, 32, .rw, (.const 0), []⟩
def FWD_CNT_NH_BAD : Fld := ⟨192, 32, 32, .rw, (.const 0), []⟩
def FWD_VRF_V4_EN : Fld := ⟨193, 0, 1, .rw, (.const 0), []⟩
def FWD_VRF_V4_ROOT : Fld := ⟨194, 1, 17, .rw, (.const 0), [(0, 93952)]⟩
def FWD_VRF_V6_EN : Fld := ⟨195, 32, 1, .rw, (.const 0), []⟩
def FWD_VRF_V6_ROOT : Fld := ⟨196, 33, 17, .rw, (.const 0), [(0, 93952)]⟩
def FWD_LPM_DRAIN_GO : Fld := ⟨197, 0, 1, .wo, (.const 0), []⟩
def FWD_LPM_DRAIN_DONE : Fld := ⟨198, 1, 1, .ro, (.const 0), []⟩
def FWD_FLOW_CFG_EN : Fld := ⟨199, 0, 1, .rw, (.const 0), []⟩
def FWD_FLOW_CFG_CFG_ERR : Fld := ⟨200, 1, 1, .ro, (.const 0), []⟩
def FWD_FLOW_CFG_SIZE_LOG2 : Fld := ⟨201, 2, 5, .rw, (.const 22), [(10, 22)]⟩
def FWD_FLOW_CFG_MAX_PATH : Fld := ⟨202, 7, 4, .rw, (.const 8), [(1, 15)]⟩
def FWD_FLOW_CFG_BASE : Fld := ⟨203, 16, 32, .rw, (.const 0), []⟩
def FWD_FLOW_SEED_SEED_1 : Fld := ⟨204, 0, 32, .rw, (.const 324508639), []⟩
def FWD_FLOW_SEED_SEED_2 : Fld := ⟨205, 32, 32, .rw, (.const 610839776), []⟩
def FWD_FPROF_OFF_0 : Fld := ⟨206, 0, 7, .rw, (.const 0), [(0, 72)]⟩
def FWD_FPROF_OFF_1 : Fld := ⟨207, 8, 7, .rw, (.const 0), [(0, 72)]⟩
def FWD_FPROF_OFF_2 : Fld := ⟨208, 16, 7, .rw, (.const 0), [(0, 72)]⟩
def FWD_FPROF_OFF_3 : Fld := ⟨209, 24, 7, .rw, (.const 0), [(0, 72)]⟩
def FWD_FPROF_OFF_4 : Fld := ⟨210, 32, 7, .rw, (.const 0), [(0, 72)]⟩
def FWD_FPROF_EN_0 : Fld := ⟨211, 7, 1, .rw, (.const 0), []⟩
def FWD_FPROF_EN_1 : Fld := ⟨212, 15, 1, .rw, (.const 0), []⟩
def FWD_FPROF_EN_2 : Fld := ⟨213, 23, 1, .rw, (.const 0), []⟩
def FWD_FPROF_EN_3 : Fld := ⟨214, 31, 1, .rw, (.const 0), []⟩
def FWD_FPROF_EN_4 : Fld := ⟨215, 39, 1, .rw, (.const 0), []⟩
def FWD_FPROF_MISS : Fld := ⟨216, 40, 2, .rw, (.const 0), []⟩
def FWD_FLOW_CTL_COUNT : Fld := ⟨217, 0, 7, .rw, (.const 0), [(0, 64)]⟩
def FWD_FLOW_CTL_GO : Fld := ⟨218, 7, 1, .wo, (.const 0), []⟩
def FWD_FLOW_CTL_BUSY : Fld := ⟨219, 8, 1, .ro, (.const 0), []⟩
def FWD_FLOW_CTL_REFUSED : Fld := ⟨220, 9, 1, .ro, (.const 0), []⟩
def FWD_FLOW_RES_STATUS : Fld := ⟨221, 0, 4, .ro, (.const 0), []⟩
def FWD_FLOW_RES_MOVES : Fld := ⟨222, 4, 4, .ro, (.const 0), []⟩
def FWD_FLOW_RES_BUCKET : Fld := ⟨223, 8, 22, .ro, (.const 0), []⟩
def FWD_FLOW_RES_WAY : Fld := ⟨224, 30, 2, .ro, (.const 0), []⟩
def FWD_FLOW_STAT_ENTRIES : Fld := ⟨225, 0, 25, .ro, (.const 0), []⟩
def FWD_FLOW_STAT_RELOCS : Fld := ⟨226, 32, 32, .ro, (.const 0), []⟩
def FWD_MAC_CFG_FLAP_WIN : Fld := ⟨227, 0, 12, .rw, (.const 125), [(1, 4095)]⟩
def FWD_MAC_CFG_SWEEP_S : Fld := ⟨228, 12, 3, .rw, (.const 2), [(1, 4)]⟩
def FWD_MAC_CFG_AGE_SWEEPS : Fld := ⟨229, 15, 8, .rw, (.const 150), []⟩
def FWD_MAC_CFG_MAX_PATH : Fld := ⟨230, 23, 4, .rw, (.const 8), [(1, 15)]⟩
def FWD_MAC_CFG_NOTIFY_CHAN : Fld := ⟨231, 27, 12, .rw, (.const 0), []⟩
def FWD_MAC_CFG_NOTIFY_EN : Fld := ⟨232, 39, 1, .rw, (.const 0), []⟩
def FWD_MAC_CFG_RECON_MS : Fld := ⟨233, 40, 16, .rw, (.const 100), [(10, 10000)]⟩
def FWD_MAC_SEED_SEED_1 : Fld := ⟨234, 0, 32, .rw, (.const 324508639), []⟩
def FWD_MAC_SEED_SEED_2 : Fld := ⟨235, 32, 32, .rw, (.const 610839776), []⟩
def FWD_MAC_CMD_OP : Fld := ⟨236, 0, 3, .rw, (.const 0), []⟩
def FWD_MAC_CMD_GO : Fld := ⟨237, 3, 1, .wo, (.const 0), []⟩
def FWD_MAC_CMD_BUSY : Fld := ⟨238, 4, 1, .ro, (.const 0), []⟩
def FWD_MAC_CMD_REFUSED : Fld := ⟨239, 5, 1, .ro, (.const 0), []⟩
def FWD_MAC_CMD_STATUS : Fld := ⟨240, 8, 4, .ro, (.const 0), []⟩
def FWD_MAC_CMD_REMOVED : Fld := ⟨241, 16, 19, .ro, (.const 0), []⟩
def FWD_MAC_CMD_DATA_DATA : Fld := ⟨242, 0, 128, .rw, (.const 0), []⟩
def FWD_MAC_STAT_ENTRIES : Fld := ⟨243, 0, 19, .ro, (.const 0), []⟩
def FWD_MAC_STAT_RELOCS : Fld := ⟨244, 32, 32, .ro, (.const 0), []⟩
def FWD_MAC_CNT_LEARN_DROP : Fld := ⟨245, 0, 16, .rw, (.const 0), []⟩
def FWD_MAC_CNT_NO_ROOM : Fld := ⟨246, 16, 16, .rw, (.const 0), []⟩
def FWD_MAC_CNT_FLAPS : Fld := ⟨247, 32, 16, .rw, (.const 0), []⟩
def FWD_MAC_CNT_NOTIFY_LOST : Fld := ⟨248, 48, 16, .rw, (.const 0), []⟩
def TM_OMAP_LEAF_BASE : Fld := ⟨249, 0, 16, .rw, (.const 0), []⟩
def TM_OMAP_TC_SH : Fld := ⟨250, 16, 3, .rw, (.const 0), []⟩
def TM_OMAP_FLOW_BITS : Fld := ⟨251, 19, 4, .rw, (.const 0), []⟩
def TM_OMAP_EN : Fld := ⟨252, 23, 1, .rw, (.const 0), []⟩
def TM_OMAP_LEN_ADJ : Fld := ⟨253, 24, 8, .rw, (.const 0), []⟩
def TM_IND_CTL_TARGET : Fld := ⟨254, 0, 3, .rw, (.const 0), [(0, 5)]⟩
def TM_IND_CTL_INDEX : Fld := ⟨255, 3, 18, .rw, (.const 0), []⟩
def TM_IND_CTL_WRITE : Fld := ⟨256, 21, 1, .rw, (.const 0), []⟩
def TM_IND_CTL_GO : Fld := ⟨257, 22, 1, .wo, (.const 0), []⟩
def TM_IND_CTL_BUSY : Fld := ⟨258, 23, 1, .ro, (.const 0), []⟩
def TM_IND_CTL_ERR : Fld := ⟨259, 24, 3, .ro, (.const 0), []⟩
def TM_IND_CTL_REFUSED : Fld := ⟨260, 27, 1, .ro, (.const 0), []⟩
def TM_CMAP_CTL_BIT : Fld := ⟨261, 0, 10, .rw, (.const 0), [(48, 634)]⟩
def TM_CMAP_CTL_WIDTH : Fld := ⟨262, 10, 3, .rw, (.const 1), [(1, 6)]⟩
def TM_CMAP_CTL_PI : Fld := ⟨263, 13, 4, .rw, (.const 0), []⟩
def TM_CMAP_CTL_EN : Fld := ⟨264, 17, 1, .rw, (.const 0), []⟩
def TM_CMAP_MAP_MAP : Fld := ⟨265, 0, 128, .rw, (.const 0), []⟩
def TM_BUF_STAT_FREE : Fld := ⟨266, 0, 19, .ro, (.const 262144), []⟩
def TM_BUF_STAT_LOW : Fld := ⟨267, 19, 19, .ro, (.const 262144), []⟩
def TM_BUF_STAT_LOW_RST : Fld := ⟨268, 38, 1, .wo, (.const 0), []⟩
def TM_DROP_CNT_NO_OUTPUT : Fld := ⟨269, 0, 32, .rw, (.const 0), []⟩
def TM_DROP_CNT_RED : Fld := ⟨270, 32, 32, .rw, (.const 0), []⟩
def TM_WHEEL_STAT_LATE : Fld := ⟨271, 0, 32, .rw, (.const 0), []⟩
def TM_WHEEL_STAT_MAX_FILL : Fld := ⟨272, 32, 16, .rw, (.const 0), []⟩
def TM_WHEEL_STAT_CLAMPS : Fld := ⟨273, 48, 16, .rw, (.const 0), []⟩
def TM_PKT_CMD_HANDLE : Fld := ⟨274, 0, 32, .rw, (.const 0), []⟩
def TM_PKT_CMD_OP : Fld := ⟨275, 32, 3, .rw, (.const 0), []⟩
def TM_PKT_CMD_GO : Fld := ⟨276, 35, 1, .wo, (.const 0), []⟩
def TM_PKT_CMD_BUSY : Fld := ⟨277, 36, 1, .ro, (.const 0), []⟩
def TM_PKT_CMD_STATUS : Fld := ⟨278, 37, 3, .ro, (.const 0), []⟩
def TM_PKT_CMD_INJ_OUT : Fld := ⟨279, 40, 5, .rw, (.const 0), [(0, 17), (24, 31)]⟩
def TM_PKT_CMD_INJ_TC : Fld := ⟨280, 45, 3, .rw, (.const 0), []⟩
def TM_PKT_CMD_KEEP : Fld := ⟨281, 48, 1, .rw, (.const 0), []⟩
def TM_PKT_CMD_INJ_PROF : Fld := ⟨282, 49, 6, .rw, (.const 0), []⟩
def TM_PKT_ADDR_ADDR : Fld := ⟨283, 6, 42, .rw, (.const 0), []⟩
def TM_PKT_STAT_EXPIRED : Fld := ⟨284, 0, 32, .rw, (.const 0), []⟩
def TM_PKT_STAT_HELD : Fld := ⟨285, 32, 18, .ro, (.const 0), []⟩
def TM_PKT_CFG_HOLD_MS : Fld := ⟨286, 0, 16, .rw, (.const 100), [(1, 65535)]⟩
def GLT_CFG_IDLE_DIM_US : Fld := ⟨287, 0, 8, .rw, (.const 10), [(1, 255)]⟩
def GLT_CFG_IDLE_DARK_MS : Fld := ⟨288, 8, 8, .rw, (.const 100), []⟩
def GLT_CFG_MIN_LIT : Fld := ⟨289, 16, 6, .rw, (.const 1), [(0, 32)]⟩
def GLT_CFG_CHAN_TMO_MS : Fld := ⟨290, 22, 8, .rw, (.const 10), [(1, 255)]⟩
def GLT_CL_STAT_PHYS : Fld := ⟨291, 0, 6, .ro, (.linear 1), []⟩
def GLT_CL_STAT_POWER : Fld := ⟨292, 6, 2, .ro, (.const 2), []⟩
def GLT_CL_STAT_OUT : Fld := ⟨293, 8, 1, .ro, (.const 0), []⟩
def GLT_CL_STAT_JOBS : Fld := ⟨294, 9, 13, .ro, (.const 0), []⟩
def GLT_ROOT_STATE : Fld := ⟨295, 0, 2, .ro, (.const 0), []⟩
def GLT_ROOT_DISABLE : Fld := ⟨296, 2, 1, (.rwl .keys), (.const 0), []⟩
def GLT_ROOT_ALLOW_PL0 : Fld := ⟨297, 3, 1, (.rwl .keys), (.const 0), []⟩
def GLT_ROOT_ALLOW_PL1 : Fld := ⟨298, 4, 1, (.rwl .keys), (.const 0), []⟩
def GLT_ROOT_ALLOW_INLINE : Fld := ⟨299, 5, 1, (.rwl .keys), (.const 0), []⟩
def GLT_ROOT_ALLOW_PF : Fld := ⟨300, 6, 1, (.rwl .keys), (.const 0), []⟩
def GLT_ROOT_ALLOW_VF : Fld := ⟨301, 7, 1, (.rwl .keys), (.const 0), []⟩
def GLT_ROOT_PF_MASK : Fld := ⟨302, 8, 8, (.rwl .keys), (.const 0), []⟩
def GLT_ROOT_BIND : Fld := ⟨303, 16, 1, (.rwl .keys), (.const 0), []⟩
def GLT_ROOT_GEN : Fld := ⟨304, 32, 16, .ro, (.const 0), []⟩
def GLT_RNG_STAT_ES_OK : Fld := ⟨305, 0, 1, .ro, (.const 0), []⟩
def GLT_RNG_STAT_ES_FAIL : Fld := ⟨306, 1, 1, .rw1c, (.const 0), []⟩
def GLT_RNG_STAT_SVC_FAIL : Fld := ⟨307, 2, 1, .ro, (.const 0), []⟩
def GLT_RNG_STAT_FAILS : Fld := ⟨308, 16, 16, .ro, (.const 0), []⟩
def GLT_CTX_BASE_EN : Fld := ⟨309, 0, 1, .rw, (.const 0), []⟩
def GLT_CTX_BASE_CFG_ERR : Fld := ⟨310, 1, 1, .ro, (.const 0), []⟩
def GLT_CTX_BASE_BASE : Fld := ⟨311, 23, 25, .rw, (.const 0), []⟩
def GLT_CTX_CMD_INDEX : Fld := ⟨312, 0, 16, .rw, (.const 0), []⟩
def GLT_CTX_CMD_OP : Fld := ⟨313, 16, 2, .rw, (.const 0), [(0, 2)]⟩
def GLT_CTX_CMD_GO : Fld := ⟨314, 18, 1, .wo, (.const 0), []⟩
def GLT_CTX_CMD_BUSY : Fld := ⟨315, 19, 1, .ro, (.const 0), []⟩
def GLT_CTX_CMD_REFUSED : Fld := ⟨316, 20, 1, .ro, (.const 0), []⟩
def GLT_CTX_CMD_STATUS : Fld := ⟨317, 21, 2, .ro, (.const 0), []⟩
def GLT_INLINE_CNT_TAG_FAIL : Fld := ⟨318, 0, 32, .rw, (.const 0), []⟩
def GLT_INLINE_CNT_REPLAY : Fld := ⟨319, 32, 16, .rw, (.const 0), []⟩
def GLT_INLINE_CNT_OTHER : Fld := ⟨320, 48, 16, .rw, (.const 0), []⟩
def NVM_CTRL_CFG_EN : Fld := ⟨321, 0, 1, .rw, (.const 0), []⟩
def NVM_CTRL_CFG_MAXQ : Fld := ⟨322, 1, 7, .rw, (.const 0), []⟩
def NVM_CTRL_CFG_WEIGHT : Fld := ⟨323, 8, 8, .rw, (.const 1), [(1, 255)]⟩
def NVM_CTRL_CFG_ACTIVE : Fld := ⟨324, 16, 1, .ro, (.const 0), []⟩
def NVM_CFG_EN : Fld := ⟨325, 0, 1, .rw, (.const 0), []⟩
def NVM_CFG_CFG_ERR : Fld := ⟨326, 1, 1, .ro, (.const 0), []⟩
def NVM_NSMAP_BASE_BASE : Fld := ⟨327, 25, 23, .rw, (.const 0), []⟩
def NVM_SLOT_BASE_BASE : Fld := ⟨328, 20, 28, .rw, (.const 0), []⟩
def NVM_STAGE_BASE : Fld := ⟨329, 21, 27, .rw, (.const 0), []⟩
def NVM_STAGE_SIZE_LOG2 : Fld := ⟨330, 48, 5, .rw, (.const 30), [(28, 35)]⟩
def NVM_SVC_CHAN_CHAN : Fld := ⟨331, 0, 12, .rw, (.const 0), []⟩
def NVM_SVC_CHAN_EN : Fld := ⟨332, 12, 1, .rw, (.const 0), []⟩
def NVM_STAT_DB_BAD : Fld := ⟨333, 0, 16, .rw, (.const 0), []⟩
def NVM_STAT_STALE_DONE : Fld := ⟨334, 16, 16, .rw, (.const 0), []⟩
def NVM_STAT_CID_CONFLICT : Fld := ⟨335, 32, 16, .rw, (.const 0), []⟩
def NVM_DONE_SLOT : Fld := ⟨336, 0, 15, .wo, (.const 0), []⟩
def NVM_DONE_RAW : Fld := ⟨337, 15, 1, .wo, (.const 0), []⟩
def NVM_DONE_STATUS : Fld := ⟨338, 16, 8, .wo, (.const 0), []⟩
def NVM_DONE_SC : Fld := ⟨339, 24, 8, .wo, (.const 0), []⟩
def NVM_DONE_SCT : Fld := ⟨340, 32, 3, .wo, (.const 0), []⟩
def NVM_DONE_DNR : Fld := ⟨341, 35, 1, .wo, (.const 0), []⟩
def NVM_DONE_DW0_V : Fld := ⟨342, 36, 1, .wo, (.const 0), []⟩
def NVM_FWACT_PAUSE : Fld := ⟨343, 0, 1, .wo, (.const 0), []⟩
def NVM_FWACT_RESUME : Fld := ⟨344, 1, 1, .wo, (.const 0), []⟩
def NVM_FWACT_STATE : Fld := ⟨345, 2, 2, .ro, (.const 0), []⟩
def HIF_PORT_CFG_BIFUR : Fld := ⟨346, 0, 1, (.rwl .installer), (.const 0), []⟩
def HIF_PORT_CFG_MAX_RATE : Fld := ⟨347, 1, 2, (.rwl .installer), (.const 3), []⟩
def HIF_PORT_CFG_FLIT_EN : Fld := ⟨348, 3, 1, (.rwl .installer), (.const 1), []⟩
def HIF_LINK_STAT_UP : Fld := ⟨349, 0, 1, .ro, (.const 0), []⟩
def HIF_LINK_STAT_RATE : Fld := ⟨350, 1, 3, .ro, (.const 0), []⟩
def HIF_LINK_STAT_WIDTH : Fld := ⟨351, 4, 5, .ro, (.const 0), []⟩
def HIF_LINK_STAT_FLIT : Fld := ⟨352, 9, 1, .ro, (.const 0), []⟩
def HIF_LINK_STAT_DOWN_CNT : Fld := ⟨353, 16, 16, .ro, (.const 0), []⟩
def HIF_PF_LINK_LINK : Fld := ⟨354, 0, 2, (.rwl .installer), (.const 0), []⟩
def HIF_PF_LINK_EN : Fld := ⟨355, 2, 1, (.rwl .installer), (.first 1 0), []⟩
def HIF_SLICE_BASE : Fld := ⟨356, 0, 10, .rw, (.const 0), []⟩
def HIF_SLICE_EN : Fld := ⟨357, 10, 1, .rw, (.const 0), []⟩
def HIF_SLICE_WR : Fld := ⟨358, 11, 1, .rw, (.const 0), []⟩
def HIF_APERTURE_BASE_GIB : Fld := ⟨359, 0, 7, .rw, (.const 0), [(0, 84)]⟩
def HIF_FN_STAT_BME_LOST : Fld := ⟨360, 0, 16, .rw, (.const 0), []⟩
def HIF_FN_STAT_LATE_CPL : Fld := ⟨361, 16, 16, .rw, (.const 0), []⟩
def HIF_FN_STAT_BAD_ACCESS : Fld := ⟨362, 32, 8, .rw, (.const 0), []⟩
def HIF_FN_STAT_DSTATE : Fld := ⟨363, 40, 2, .ro, (.const 0), []⟩
def HIF_FN_STAT_FLR_BUSY : Fld := ⟨364, 42, 1, .ro, (.const 0), []⟩
def HIF_FN_STAT_TORN : Fld := ⟨365, 43, 1, .ro, (.const 0), []⟩
def HIF_WAKE_CFG_ETH_GRP : Fld := ⟨366, 0, 4, .rw, (.const 0), []⟩
def HIF_WAKE_CFG_MGMT : Fld := ⟨367, 4, 1, .rw, (.const 0), []⟩
def HIF_WAKE_CFG_GPIO : Fld := ⟨368, 5, 1, .rw, (.const 0), []⟩
def HIF_WAKE_CFG_GPIO_SEL : Fld := ⟨369, 6, 4, .rw, (.const 0), []⟩
def HIF_WAKE_CFG_WAKE_EN : Fld := ⟨370, 10, 1, .rw, (.const 0), []⟩
def QM_CFG_EN : Fld := ⟨371, 0, 1, .rw, (.const 0), []⟩
def QM_CFG_CFG_ERR : Fld := ⟨372, 1, 1, .ro, (.const 0), []⟩
def QM_CFG_SPILL_BASE : Fld := ⟨373, 29, 19, .rw, (.const 0), []⟩
def QM_SQ_EN : Fld := ⟨374, 0, 1, .rw1s, (.const 0), []⟩
def QM_SQ_CFG_ERR : Fld := ⟨375, 1, 1, .ro, (.const 0), []⟩
def QM_SQ_SIZE_LOG2 : Fld := ⟨376, 2, 4, .rw, (.const 4), [(4, 15)]⟩
def QM_SQ_KIND : Fld := ⟨377, 6, 2, .rw, (.const 0), []⟩
def QM_SQ_FUNC : Fld := ⟨378, 8, 12, .rw, (.const 0), []⟩
def QM_SQ_LOCAL : Fld := ⟨379, 20, 16, .rw, (.const 0), []⟩
def QM_SQ_CQ : Fld := ⟨380, 36, 14, .rw, (.const 0), []⟩
def QM_SQ_WEIGHT : Fld := ⟨381, 50, 8, .rw, (.const 1), [(1, 255)]⟩
def QM_SQ_BURST_M1 : Fld := ⟨382, 58, 6, .rw, (.const 0), []⟩
def QM_SQ_BASE : Fld := ⟨383, 76, 52, .rw, (.const 0), []⟩
def QM_SQ_PAIR : Fld := ⟨384, 128, 16, .rw, (.const 0), []⟩
def QM_SQ_PAIR_V : Fld := ⟨385, 144, 1, .rw, (.const 0), []⟩
def QM_SQ_CHAN : Fld := ⟨386, 145, 12, .rw, (.const 0), []⟩
def QM_SQ_ROUTE : Fld := ⟨387, 157, 12, .rw, (.const 0), []⟩
def QM_SQ_ROUTE_EN : Fld := ⟨388, 169, 1, .rw, (.const 0), []⟩
def QM_SQ_PASID : Fld := ⟨389, 170, 20, .rw, (.const 0), []⟩
def QM_SQ_PV : Fld := ⟨390, 190, 1, .rw, (.const 0), []⟩
def QM_SQ_PMR : Fld := ⟨391, 191, 1, .rw, (.const 0), []⟩
def QM_SQ_PI : Fld := ⟨392, 192, 16, .ro, (.const 0), []⟩
def QM_SQ_CI : Fld := ⟨393, 208, 16, .ro, (.const 0), []⟩
def QM_SQ_DB_BAD : Fld := ⟨394, 224, 8, .ro, (.const 0), []⟩
def QM_SQ_RX_OVERSIZE : Fld := ⟨395, 232, 16, .ro, (.const 0), []⟩
def QM_SQ_GEN : Fld := ⟨396, 248, 8, .ro, (.const 0), []⟩
def QM_CQ_EN : Fld := ⟨397, 0, 1, .rw1s, (.const 0), []⟩
def QM_CQ_CFG_ERR : Fld := ⟨398, 1, 1, .ro, (.const 0), []⟩
def QM_CQ_SIZE_LOG2 : Fld := ⟨399, 2, 4, .rw, (.const 4), [(4, 15)]⟩
def QM_CQ_FUNC : Fld := ⟨400, 6, 12, .rw, (.const 0), []⟩
def QM_CQ_VECTOR : Fld := ⟨401, 18, 11, .rw, (.const 0), []⟩
def QM_CQ_IRQ_EN : Fld := ⟨402, 29, 1, .rw, (.const 0), []⟩
def QM_CQ_COAL_CNT : Fld := ⟨403, 30, 8, .rw, (.const 1), []⟩
def QM_CQ_COAL_US : Fld := ⟨404, 38, 16, .rw, (.const 0), []⟩
def QM_CQ_BASE : Fld := ⟨405, 76, 52, .rw, (.const 0), []⟩
def QM_CQ_PASID : Fld := ⟨406, 128, 20, .rw, (.const 0), []⟩
def QM_CQ_PV : Fld := ⟨407, 148, 1, .rw, (.const 0), []⟩
def QM_CQ_PMR : Fld := ⟨408, 149, 1, .rw, (.const 0), []⟩
def QM_CQ_LOCAL : Fld := ⟨409, 150, 14, .rw, (.const 0), []⟩
def QM_CQ_DB_BAD : Fld := ⟨410, 184, 8, .ro, (.const 0), []⟩
def QM_CQ_HEAD : Fld := ⟨411, 192, 16, .ro, (.const 0), []⟩
def QM_CQ_TAIL : Fld := ⟨412, 208, 16, .ro, (.const 0), []⟩
def QM_CQ_SPILLED : Fld := ⟨413, 224, 11, .ro, (.const 0), []⟩
def QM_CQ_OVERFLOW : Fld := ⟨414, 235, 1, .ro, (.const 0), []⟩
def QM_CQ_BACKPRESSURE : Fld := ⟨415, 236, 1, .ro, (.const 0), []⟩
def QM_CQ_OUTSTANDING : Fld := ⟨416, 240, 16, .ro, (.const 0), []⟩
def QM_FW_CPL_CTL_SQ : Fld := ⟨417, 0, 16, .rw, (.const 0), []⟩
def QM_FW_CPL_CTL_GEN : Fld := ⟨418, 16, 8, .rw, (.const 0), []⟩
def QM_FW_CPL_CTL_GO : Fld := ⟨419, 24, 1, .wo, (.const 0), []⟩
def QM_FW_CPL_CTL_RESULT : Fld := ⟨420, 25, 2, .ro, (.const 0), []⟩
def QM_FW_CPL_DATA_DATA : Fld := ⟨421, 0, 64, .rw, (.const 0), []⟩
def QM_PF_EVT_VEC : Fld := ⟨422, 0, 11, .rw, (.const 0), []⟩
def QM_PF_EVT_EN : Fld := ⟨423, 11, 1, .rw, (.const 0), []⟩
def QM_PF_EVT_CQ_OVF : Fld := ⟨424, 12, 1, .rw1c, (.const 0), []⟩
def QM_PF_EVT_SQ_DB_BAD : Fld := ⟨425, 13, 1, .rw1c, (.const 0), []⟩
def QM_PF_EVT_CQ_DB_BAD : Fld := ⟨426, 14, 1, .rw1c, (.const 0), []⟩
def QM_PF_EVT_LAST_CQ : Fld := ⟨427, 16, 14, .ro, (.const 0), []⟩
def QM_PF_EVT_LAST_SQ : Fld := ⟨428, 32, 16, .ro, (.const 0), []⟩
def HIF_PF_VF_FIRST : Fld := ⟨429, 0, 12, (.rwl .manager), (.const 8), []⟩
def HIF_PF_VF_COUNT : Fld := ⟨430, 12, 12, (.rwl .manager), (.first 4088 0), [(0, 4088)]⟩
def HIF_PF_VF_ACT_FIRST : Fld := ⟨431, 32, 12, .ro, (.const 8), []⟩
def HIF_PF_VF_ACT_COUNT : Fld := ⟨432, 44, 12, .ro, (.first 4088 0), []⟩
def HIF_PF_VF_APPLY_ERR : Fld := ⟨433, 56, 1, .ro, (.const 0), []⟩
def HIF_FN_CFG_SQ_COUNT : Fld := ⟨434, 0, 17, (.rwl .manager), (.const 16), []⟩
def HIF_FN_CFG_CQ_COUNT : Fld := ⟨435, 17, 15, (.rwl .manager), (.const 4), []⟩
def HIF_FN_CFG_VEC_BASE : Fld := ⟨436, 32, 15, (.rwl .manager), (.linear 8), []⟩
def HIF_FN_CFG_VEC_M1 : Fld := ⟨437, 47, 11, (.rwl .manager), (.const 7), []⟩
def HIF_FN_ACT_SQ_COUNT : Fld := ⟨438, 0, 17, .ro, (.const 16), []⟩
def HIF_FN_ACT_CQ_COUNT : Fld := ⟨439, 17, 15, .ro, (.const 4), []⟩
def HIF_FN_ACT_VEC_BASE : Fld := ⟨440, 32, 15, .ro, (.linear 8), []⟩
def HIF_FN_ACT_VEC_M1 : Fld := ⟨441, 47, 11, .ro, (.const 7), []⟩
def HIF_FN_ACT_APPLY_ERR : Fld := ⟨442, 58, 1, .ro, (.const 0), []⟩
def HIF_PF_QRANGE_SQ_FIRST : Fld := ⟨443, 0, 16, (.rwl .manager), (.const 0), []⟩
def HIF_PF_QRANGE_SQ_NUM : Fld := ⟨444, 16, 17, (.rwl .manager), (.first 65536 0), []⟩
def HIF_PF_QRANGE_CQ_FIRST : Fld := ⟨445, 33, 14, (.rwl .manager), (.const 0), []⟩
def HIF_PF_QRANGE_CQ_NUM : Fld := ⟨446, 47, 15, (.rwl .manager), (.first 16384 0), []⟩
def HIF_NOTICE_CFG_CHAN : Fld := ⟨447, 0, 12, .rw, (.const 0), []⟩
def HIF_NOTICE_CFG_EN : Fld := ⟨448, 12, 1, .rw, (.const 0), []⟩
def HIF_NOTICE_CFG_DEV_EV : Fld := ⟨449, 13, 1, .rw, (.const 0), []⟩
def HIF_NOTICE_STAT_WAITING : Fld := ⟨450, 0, 7, .ro, (.const 0), []⟩
def HIF_NOTICE_STAT_OVF : Fld := ⟨451, 7, 1, .rw1c, (.const 0), []⟩
def HIF_NOTICE_STAT_LOST : Fld := ⟨452, 8, 16, .ro, (.const 0), []⟩
def HIF_FN_QCTL_QUIESCE : Fld := ⟨453, 0, 1, .rw, (.const 0), []⟩
def HIF_FN_QCTL_RX_RETURN : Fld := ⟨454, 1, 1, .rw, (.const 0), []⟩
def HIF_FN_QCTL_QUIESCED : Fld := ⟨455, 2, 1, .ro, (.const 0), []⟩
def HIF_FN_QCTL_JOBS : Fld := ⟨456, 4, 16, .ro, (.const 0), []⟩
def HIF_FN_QCTL_RX_DROP : Fld := ⟨457, 20, 12, .ro, (.const 0), []⟩
def HIF_MIR_CFG_FUNC : Fld := ⟨458, 0, 12, .rw, (.const 0), []⟩
def HIF_MIR_CFG_EN : Fld := ⟨459, 12, 1, .rw, (.const 0), []⟩
def HIF_MIR_CFG_CFG_ERR : Fld := ⟨460, 13, 1, .ro, (.const 0), []⟩
def HIF_MIR_CFG_GRAN : Fld := ⟨461, 14, 1, .rw, (.const 0), []⟩
def HIF_MIR_CFG_SIZE_LOG2 : Fld := ⟨462, 16, 5, .rw, (.const 16), [(8, 20)]⟩
def HIF_MIR_BUF_BASE : Fld := ⟨463, 12, 36, .rw, (.const 0), []⟩
def HIF_MIR_FLUSH_ADDR : Fld := ⟨464, 2, 62, .rw, (.const 0), []⟩
def HIF_MIR_CTL_HARVEST : Fld := ⟨465, 0, 1, .wo, (.const 0), []⟩
def HIF_MIR_CTL_BUSY : Fld := ⟨466, 1, 1, .ro, (.const 0), []⟩
def HIF_MIR_CTL_ACTIVE : Fld := ⟨467, 2, 1, .ro, (.const 0), []⟩
def HIF_MIR_CTL_REFUSED : Fld := ⟨468, 3, 1, .ro, (.const 0), []⟩
def HIF_MIR_CTL_RESULT : Fld := ⟨469, 4, 2, .ro, (.const 0), []⟩
def HIF_MIR_STAT_HARVESTED : Fld := ⟨470, 0, 21, .ro, (.const 0), []⟩
def HIF_MIR_STAT_LIVE : Fld := ⟨471, 21, 21, .ro, (.const 0), []⟩
def HIF_MIR_STAT_FULL : Fld := ⟨472, 42, 1, .ro, (.const 0), []⟩
def BCN_CFG_PREF_ID : Fld := ⟨473, 0, 12, .rw, (.const 0), []⟩
def BCN_CFG_PREF_V : Fld := ⟨474, 12, 1, .rw, (.const 0), []⟩
def BCN_CFG_PRIORITY : Fld := ⟨475, 13, 8, .rw, (.const 128), []⟩
def BCN_CFG_EN : Fld := ⟨476, 21, 1, .rw, (.const 1), []⟩
def BCN_CFG_RETRY_MAX : Fld := ⟨477, 22, 3, .rw, (.const 3), [(1, 7)]⟩
def BCN_CFG_TTL : Fld := ⟨478, 25, 6, .rw, (.const 32), [(1, 63)]⟩
def BCN_CFG_NOTIFY_EN : Fld := ⟨479, 31, 1, .rw, (.const 0), []⟩
def BCN_CFG_NOTIFY_CHAN : Fld := ⟨480, 32, 12, .rw, (.const 0), []⟩
def BCN_CFG_FABRIC_ID : Fld := ⟨481, 48, 16, (.rwl .installer), (.const 0), []⟩
def BCN_TMO_REQ_TMO_MS : Fld := ⟨482, 0, 10, .rw, (.const 10), [(1, 1000)]⟩
def BCN_TMO_STALL_MS : Fld := ⟨483, 10, 10, .rw, (.const 10), [(1, 1000)]⟩
def BCN_TMO_ID_HOLD_S : Fld := ⟨484, 20, 8, .rw, (.const 10), [(1, 255)]⟩
def BCN_CNT_NO_ROUTE : Fld := ⟨485, 0, 16, .rw, (.const 0), []⟩
def BCN_CNT_TTL_DROP : Fld := ⟨486, 16, 16, .rw, (.const 0), []⟩
def BCN_CNT_LATE_RSP : Fld := ⟨487, 32, 16, .rw, (.const 0), []⟩
def BCN_CNT_TIMEOUTS : Fld := ⟨488, 48, 16, .rw, (.const 0), []⟩
def BCN_PORT_STAT_STATE : Fld := ⟨489, 0, 3, .ro, (.const 0), []⟩
def BCN_PORT_STAT_WIDTH : Fld := ⟨490, 3, 3, .ro, (.const 0), []⟩
def BCN_PORT_STAT_LANES_OK : Fld := ⟨491, 6, 4, .ro, (.const 15), []⟩
def BCN_PORT_STAT_DIR : Fld := ⟨492, 10, 1, .ro, (.const 0), []⟩
def BCN_PORT_STAT_PEER_NODE : Fld := ⟨493, 11, 12, .ro, (.const 0), []⟩
def BCN_PORT_STAT_PEER_NODE_V : Fld := ⟨494, 23, 1, .ro, (.const 0), []⟩
def BCN_PORT_STAT_PEER_PORT : Fld := ⟨495, 24, 3, .ro, (.const 0), []⟩
def BCN_PORT_STAT_PEER_LEVEL : Fld := ⟨496, 28, 6, .ro, (.const 63), []⟩
def BCN_PORT_ERR_REPLAYS : Fld := ⟨497, 0, 32, .rw, (.const 0), []⟩
def BCN_PORT_ERR_BAD_FLITS : Fld := ⟨498, 32, 16, .rw, (.const 0), []⟩
def BCN_PORT_ERR_RETRAINS : Fld := ⟨499, 48, 16, .rw, (.const 0), []⟩
def BCN_PORT_CFG_EN : Fld := ⟨500, 0, 1, .rw, (.const 1), []⟩
def BCN_PORT_CFG_VC0_BUF : Fld := ⟨501, 1, 5, .rw, (.const 24), []⟩
def BCN_PORT_CFG_VC1_BUF : Fld := ⟨502, 6, 5, .rw, (.const 24), []⟩
def BCN_PORT_CFG_VC2_BUF : Fld := ⟨503, 11, 5, .rw, (.const 12), []⟩
def BCN_PORT_CFG_VC3_BUF : Fld := ⟨504, 16, 5, .rw, (.const 4), []⟩
def BCN_NODE_NODE : Fld := ⟨505, 0, 12, .ro, (.const 0), []⟩
def BCN_NODE_NODE_V : Fld := ⟨506, 12, 1, .ro, (.const 0), []⟩
def BCN_NODE_IS_COORD : Fld := ⟨507, 13, 1, .ro, (.const 0), []⟩
def BCN_NODE_COORD_V : Fld := ⟨508, 14, 1, .ro, (.const 0), []⟩
def BCN_NODE_COORD : Fld := ⟨509, 16, 12, .ro, (.const 0), []⟩
def BCN_NODE_LEVEL : Fld := ⟨510, 28, 6, .ro, (.const 63), []⟩
def BCN_NODE_TERM : Fld := ⟨511, 48, 16, .ro, (.const 0), []⟩
def BCN_ROUTE_V : Fld := ⟨512, 0, 1, .rw, (.const 0), []⟩
def BCN_ROUTE_LOCK : Fld := ⟨513, 1, 1, .rw, (.const 0), []⟩
def BCN_ROUTE_HOPS : Fld := ⟨514, 2, 6, .rw, (.const 63), []⟩
def BCN_ROUTE_PORT_0 : Fld := ⟨515, 8, 3, .rw, (.const 0), []⟩
def BCN_ROUTE_PORT_1 : Fld := ⟨516, 13, 3, .rw, (.const 0), []⟩
def BCN_ROUTE_PORT_2 : Fld := ⟨517, 18, 3, .rw, (.const 0), []⟩
def BCN_ROUTE_PORT_3 : Fld := ⟨518, 23, 3, .rw, (.const 0), []⟩
def BCN_ROUTE_VU_0 : Fld := ⟨519, 11, 1, .rw, (.const 0), []⟩
def BCN_ROUTE_VU_1 : Fld := ⟨520, 16, 1, .rw, (.const 0), []⟩
def BCN_ROUTE_VU_2 : Fld := ⟨521, 21, 1, .rw, (.const 0), []⟩
def BCN_ROUTE_VU_3 : Fld := ⟨522, 26, 1, .rw, (.const 0), []⟩
def BCN_ROUTE_VD_0 : Fld := ⟨523, 12, 1, .rw, (.const 0), []⟩
def BCN_ROUTE_VD_1 : Fld := ⟨524, 17, 1, .rw, (.const 0), []⟩
def BCN_ROUTE_VD_2 : Fld := ⟨525, 22, 1, .rw, (.const 0), []⟩
def BCN_ROUTE_VD_3 : Fld := ⟨526, 27, 1, .rw, (.const 0), []⟩
def BCN_GEN_ROUTE_GEN : Fld := ⟨527, 0, 16, .ro, (.const 0), []⟩
def LNS_OUT_EN : Fld := ⟨528, 0, 1, .rw, (.const 0), []⟩
def LNS_OUT_RD : Fld := ⟨529, 1, 1, .rw, (.const 0), []⟩
def LNS_OUT_WR : Fld := ⟨530, 2, 1, .rw, (.const 0), []⟩
def LNS_OUT_LOCAL_BASE : Fld := ⟨531, 16, 32, .rw, (.const 0), []⟩
def LNS_OUT_LOCAL_LAST : Fld := ⟨532, 80, 32, .rw, (.const 0), []⟩
def LNS_OUT_NODE : Fld := ⟨533, 128, 12, .rw, (.const 0), []⟩
def LNS_OUT_REMOTE_BASE : Fld := ⟨534, 144, 32, .rw, (.const 0), []⟩
def LNS_OUT_NAK_CNT : Fld := ⟨535, 208, 16, .ro, (.const 0), []⟩
def LNS_OUT_LAST_REASON : Fld := ⟨536, 224, 4, .ro, (.const 0), []⟩
def LNS_WR_DRAIN_GO : Fld := ⟨537, 0, 1, .wo, (.const 0), []⟩
def LNS_WR_DRAIN_DONE : Fld := ⟨538, 1, 1, .ro, (.const 1), []⟩
def LNS_IN_EN : Fld := ⟨539, 0, 1, .rw, (.const 0), []⟩
def LNS_IN_RD : Fld := ⟨540, 1, 1, .rw, (.const 0), []⟩
def LNS_IN_WR : Fld := ⟨541, 2, 1, .rw, (.const 0), []⟩
def LNS_IN_SRC_NODE : Fld := ⟨542, 16, 12, .rw, (.const 0), []⟩
def LNS_IN_SRC_MASK : Fld := ⟨543, 28, 12, .rw, (.const 0), []⟩
def LNS_IN_OFF_BASE : Fld := ⟨544, 80, 32, .rw, (.const 0), []⟩
def LNS_IN_OFF_LAST : Fld := ⟨545, 144, 32, .rw, (.const 0), []⟩
def LNS_IN_INT_BASE : Fld := ⟨546, 208, 32, .rw, (.const 0), []⟩
def LNS_COMMIT_GO : Fld := ⟨547, 0, 1, .wo, (.const 0), []⟩
def LNS_COMMIT_REFUSED : Fld := ⟨548, 1, 1, .ro, (.const 0), []⟩
def LNS_STATUS_EPOCH : Fld := ⟨549, 0, 16, .ro, (.const 0), []⟩
def LNS_STATUS_COMMIT_DONE : Fld := ⟨550, 16, 1, .ro, (.const 1), []⟩
def LNS_STATUS_OLD_PENDING : Fld := ⟨551, 32, 16, .ro, (.const 0), []⟩
def LNS_CNT_MISSES : Fld := ⟨552, 0, 32, .rw, (.const 0), []⟩
def LNS_CNT_FORCED : Fld := ⟨553, 32, 32, .rw, (.const 0), []⟩
def LHS_FLT_STAT_GUARANTEE : Fld := ⟨554, 0, 1, .ro, (.const 0), []⟩
def LHS_FLT_STAT_C_ENV : Fld := ⟨555, 1, 1, .rw1c, (.const 0), []⟩
def LHS_FLT_STAT_C_SCRUB : Fld := ⟨556, 2, 1, .ro, (.const 0), []⟩
def LHS_FLT_STAT_C_TEST : Fld := ⟨557, 3, 1, .ro, (.const 0), []⟩
def LHS_FLT_STAT_C_FW : Fld := ⟨558, 4, 1, .ro, (.const 0), []⟩
def LHS_FLT_STAT_C_MARGIN : Fld := ⟨559, 5, 1, .ro, (.const 0), []⟩
def LHS_FLT_STAT_DEGRADED : Fld := ⟨560, 6, 1, .ro, (.const 0), []⟩
def LHS_FLT_STAT_COUNT : Fld := ⟨561, 8, 9, .ro, (.const 0), []⟩
def LHS_FLT_STAT_OVF : Fld := ⟨562, 17, 1, .rw1c, (.const 0), []⟩
def LHS_FLT_STAT_MERGED : Fld := ⟨563, 32, 16, .ro, (.const 0), []⟩
def LHS_UNIT_STAT_ROLE : Fld := ⟨564, 0, 2, .ro, .unitRole, []⟩
def LHS_UNIT_STAT_POWER : Fld := ⟨565, 2, 2, .ro, (.const 2), []⟩
def LHS_UNIT_STAT_EPOCH : Fld := ⟨566, 4, 8, .ro, (.const 0), []⟩
def LHS_UNIT_STAT_LOGICAL : Fld := ⟨567, 12, 11, .ro, .unitLogical, []⟩
def LHS_UNIT_STAT_DEGRADED : Fld := ⟨568, 23, 1, .ro, (.const 0), []⟩
def LHS_UNIT_STAT_TRANSIENTS : Fld := ⟨569, 24, 8, .ro, (.const 0), []⟩
def LHS_UNIT_STAT_PERM_CNT : Fld := ⟨570, 32, 8, .ro, (.const 0), []⟩
def LHS_FLT_HEAD_WORD0 : Fld := ⟨571, 0, 64, .ro, (.const 0), []⟩
def LHS_FLT_HEAD_WORD1 : Fld := ⟨572, 64, 64, .ro, (.const 0), []⟩
def LHS_FLT_POP_TIME_LO : Fld := ⟨573, 0, 16, .wo, (.const 0), []⟩
def LHS_FLT_POP_POP : Fld := ⟨574, 16, 1, (.wol .safety), (.const 0), []⟩
def LHS_NOTICE_CFG_CLUSTER : Fld := ⟨575, 0, 4, (.rwl .safety), (.const 0), [(0, 11)]⟩
def LHS_NOTICE_CFG_CORE : Fld := ⟨576, 4, 3, (.rwl .safety), (.const 0), []⟩
def LHS_NOTICE_CFG_EN : Fld := ⟨577, 7, 1, (.rwl .safety), (.const 0), []⟩
def LHS_NOTICE_CFG_MGR_VEC : Fld := ⟨578, 8, 11, (.rwl .safety), (.const 0), []⟩
def LHS_NOTICE_CFG_MGR_EN : Fld := ⟨579, 19, 1, (.rwl .safety), (.const 0), []⟩
def LHS_FLT_CFG_RETRY_MAX : Fld := ⟨580, 0, 3, (.rwl .safety), (.const 3), [(1, 7)]⟩
def LHS_FENCE_CNT_DROPPED : Fld := ⟨581, 0, 32, .rw, (.const 0), []⟩
def LHS_TEST_SCHED_PERIOD_H : Fld := ⟨582, 0, 8, (.rwl .safety), (.const 24), [(1, 168)]⟩
def LHS_TEST_SCHED_EN : Fld := ⟨583, 8, 1, (.rwl .safety), (.const 1), []⟩
def LHS_TEST_REQ_UNIT : Fld := ⟨584, 0, 16, .rw, (.const 0), []⟩
def LHS_TEST_REQ_DEADLINE_S : Fld := ⟨585, 16, 8, .rw, (.const 10), [(1, 255)]⟩
def LHS_TEST_REQ_GO : Fld := ⟨586, 24, 1, .wo, (.const 0), []⟩
def LHS_TEST_STAT_STATE : Fld := ⟨587, 0, 3, .ro, (.const 0), []⟩
def LHS_TEST_STAT_RESULT : Fld := ⟨588, 3, 3, .ro, (.const 0), []⟩
def LHS_FADE_SLACK_PS : Fld := ⟨589, 0, 12, .ro, (.const 0), []⟩
def LHS_FADE_RO_MHZ : Fld := ⟨590, 12, 12, .ro, (.const 0), []⟩
def LHS_FADE_BASE_SLACK : Fld := ⟨591, 24, 12, .ro, (.const 0), []⟩
def LHS_FADE_BASE_RO : Fld := ⟨592, 36, 12, .ro, (.const 0), []⟩
def LHS_FADE_HOURS : Fld := ⟨593, 48, 16, .ro, (.const 0), []⟩
def LHS_PLAN_VSET_MV : Fld := ⟨594, 0, 10, .ro, (.const 0), []⟩
def LHS_PLAN_VFLOOR_MV : Fld := ⟨595, 10, 10, .ro, (.const 0), []⟩
def LHS_PLAN_FMAX : Fld := ⟨596, 20, 8, .ro, (.const 0), []⟩
def LHS_PLAN_STATE : Fld := ⟨597, 28, 2, .ro, (.const 0), []⟩
def LHS_PLAN_RESET_PLAN : Fld := ⟨598, 30, 1, (.wol .maker), (.const 0), []⟩
def LHS_FADE_CFG_GUARD_PS : Fld := ⟨599, 0, 8, (.rwl .safety), (.const 25), [(10, 100)]⟩
def LHS_FADE_CFG_HYST_PS : Fld := ⟨600, 8, 8, (.rwl .safety), (.const 20), [(10, 100)]⟩
def LHS_FADE_CFG_RUN : Fld := ⟨601, 16, 1, .wo, (.const 0), []⟩
def LUM_CTL_EVENT : Fld := ⟨602, 0, 8, .rw, (.const 0), []⟩
def LUM_CTL_EN : Fld := ⟨603, 8, 1, .rw, (.const 0), []⟩
def LUM_CTL_CHAIN : Fld := ⟨604, 9, 1, .rw, (.const 0), []⟩
def LUM_CTL_OVF_IE : Fld := ⟨605, 10, 1, .rw, (.const 0), []⟩
def LUM_CTL_PL0 : Fld := ⟨606, 11, 1, .rw, (.const 1), []⟩
def LUM_CTL_PL1 : Fld := ⟨607, 12, 1, .rw, (.const 1), []⟩
def LUM_CTL_FILTER : Fld := ⟨608, 16, 8, .rw, (.const 255), []⟩
def LUM_CTL_SUB : Fld := ⟨609, 24, 3, .rw, (.const 0), []⟩
def LUM_VAL_VALUE : Fld := ⟨610, 0, 48, .rw, (.const 0), []⟩
def LUM_VAL_PERR : Fld := ⟨611, 62, 1, .ro, (.const 0), []⟩
def LUM_VAL_SAT : Fld := ⟨612, 63, 1, .rw1c, (.const 0), []⟩
def LUM_BLK_CTL_FREEZE : Fld := ⟨613, 0, 1, .rw, (.const 0), []⟩
def LUM_BLK_CTL_USER : Fld := ⟨614, 1, 1, .rw, (.const 0), []⟩
def LUM_BLK_CTL_CLEAR : Fld := ⟨615, 2, 1, .wo, (.const 0), []⟩
def LUM_BLK_SAT_SAT : Fld := ⟨616, 0, 8, .ro, (.const 0), []⟩
def LUM_BLK_SAT_WRAP : Fld := ⟨617, 8, 8, .rw1c, (.const 0), []⟩
def LUM_SNAP_CTL_GO : Fld := ⟨618, 0, 1, .wo, (.const 0), []⟩
def LUM_SNAP_CTL_BUSY : Fld := ⟨619, 1, 1, .ro, (.const 0), []⟩
def LUM_SNAP_CTL_REFUSED : Fld := ⟨620, 2, 1, .ro, (.const 0), []⟩
def LUM_SNAP_CTL_SEQ : Fld := ⟨621, 4, 12, .ro, (.const 0), []⟩
def LUM_SNAP_CTL_PERIOD_US : Fld := ⟨622, 16, 16, .rw, (.const 0), []⟩
def LUM_SNAP_TIME_T : Fld := ⟨623, 0, 64, .ro, (.const 0), []⟩
def LUM_GLOBAL_CTL_FREEZE_ALL : Fld := ⟨624, 0, 1, .rw, (.const 0), []⟩
def LUM_GLOBAL_CTL_CLEAR_ALL : Fld := ⟨625, 1, 1, .wo, (.const 0), []⟩
def LHS_RIGHTS_RIGHTS : Fld := ⟨626, 0, 6, .ro, (.const 63), []⟩
def LHS_REFUSED_COUNT : Fld := ⟨627, 0, 16, .rw, (.const 0), []⟩
def LHS_REFUSED_LAST_ACC : Fld := ⟨628, 16, 4, .ro, (.const 0), []⟩
def LHS_REFUSED_LAST_OFF : Fld := ⟨629, 24, 32, .ro, (.const 0), []⟩
def LHS_OTP_STAT_WRITTEN : Fld := ⟨630, 0, 4, .ro, (.const 0), []⟩
def LHS_OTP_STAT_VALID : Fld := ⟨631, 4, 4, .ro, (.const 0), []⟩
def LHS_OTP_STAT_WINNER : Fld := ⟨632, 8, 2, .ro, (.const 0), []⟩
def LHS_OTP_STAT_NONE : Fld := ⟨633, 10, 1, .ro, (.const 0), []⟩
def LHS_OTP_STAT_COUNT : Fld := ⟨634, 12, 12, .ro, (.const 0), []⟩
def LHS_MBOX_CTL_LEN : Fld := ⟨635, 0, 17, .rw, (.const 0), [(0, 65536)]⟩
def LHS_MBOX_CTL_GO : Fld := ⟨636, 17, 1, .wo, (.const 0), []⟩
def LHS_MBOX_CTL_BUSY : Fld := ⟨637, 18, 1, .ro, (.const 0), []⟩
def LHS_MBOX_CTL_REFUSED : Fld := ⟨638, 19, 1, .ro, (.const 0), []⟩
def LHS_MBOX_CTL_RESULT : Fld := ⟨639, 20, 4, .ro, (.const 0), []⟩
def LHS_MBOX_CTL_OP_INDEX : Fld := ⟨640, 24, 8, .ro, (.const 0), []⟩
def LHS_LOG_STAT_SEAL : Fld := ⟨641, 0, 1, .wo, (.const 0), []⟩
def LHS_LOG_STAT_SEAL_BUSY : Fld := ⟨642, 1, 1, .ro, (.const 0), []⟩
def LHS_LOG_STAT_NEAR_FULL : Fld := ⟨643, 2, 1, .ro, (.const 0), []⟩
def LHS_LOG_STAT_FULL : Fld := ⟨644, 3, 1, .ro, (.const 0), []⟩
def LHS_LOG_STAT_BROKEN : Fld := ⟨645, 4, 1, .ro, (.const 0), []⟩
def LHS_LOG_STAT_COUNT : Fld := ⟨646, 16, 12, .ro, (.const 0), []⟩
def LHS_LOG_STAT_SEQ : Fld := ⟨647, 28, 36, .ro, (.const 0), []⟩
def LHS_KEY_CMD_SLOT : Fld := ⟨648, 0, 4, .rw, (.const 0), []⟩
def LHS_KEY_CMD_OP : Fld := ⟨649, 4, 3, .rw, (.const 0), [(0, 4)]⟩
def LHS_KEY_CMD_WRAP_SLOT : Fld := ⟨650, 7, 4, .rw, (.const 0), []⟩
def LHS_KEY_CMD_PERSIST : Fld := ⟨651, 11, 1, .rw, (.const 0), []⟩
def LHS_KEY_CMD_GO : Fld := ⟨652, 12, 1, (.wol .keys), (.const 0), []⟩
def LHS_KEY_CMD_BUSY : Fld := ⟨653, 13, 1, .ro, (.const 0), []⟩
def LHS_KEY_CMD_STATUS : Fld := ⟨654, 14, 4, .ro, (.const 0), []⟩
def LHS_FW_CTL_OP : Fld := ⟨655, 0, 2, .rw, (.const 0), []⟩
def LHS_FW_CTL_GO : Fld := ⟨656, 2, 1, (.wol .manager), (.const 0), []⟩
def LHS_FW_CTL_LIVE : Fld := ⟨657, 3, 1, .rw, (.const 1), []⟩
def LHS_FW_CTL_YIELD : Fld := ⟨658, 4, 1, .wo, (.const 0), []⟩
def LHS_FW_CTL_OPEN : Fld := ⟨659, 5, 1, .wo, (.const 0), []⟩
def LHS_FW_CTL_REFUSED : Fld := ⟨660, 6, 1, .ro, (.const 0), []⟩
def LHS_FW_CTL_ADDR : Fld := ⟨661, 12, 36, .rw, (.const 0), []⟩
def LHS_FW_CTL_YIELD_10MS : Fld := ⟨662, 48, 8, .rw, (.const 50), [(1, 80)]⟩
def LHS_FW_CTL_CONFIRM_S : Fld := ⟨663, 56, 8, .rw, (.const 10), [(1, 255)]⟩
def LHS_FW_STAT_STATE : Fld := ⟨664, 0, 3, .ro, (.const 0), []⟩
def LHS_FW_STAT_RESULT : Fld := ⟨665, 3, 4, .ro, (.const 0), []⟩
def LHS_FW_STAT_BANK : Fld := ⟨666, 7, 1, .ro, (.const 0), []⟩
def LHS_FW_STAT_SVN : Fld := ⟨667, 16, 32, .ro, (.const 0), []⟩
def LHS_FW_HANDOVER_ADDR : Fld := ⟨668, 0, 48, .rw, (.const 0), []⟩
def PWR_BLK_CFG_FLOOR : Fld := ⟨669, 0, 2, .rw, (.const 0), [(0, 2)]⟩
def PWR_BLK_CFG_DARK_MS : Fld := ⟨670, 8, 8, .rw, (.const 10), []⟩
def PWR_BLK_STAT_POWER : Fld := ⟨671, 0, 2, .ro, (.const 2), []⟩
def PWR_BLK_STAT_ENTERING : Fld := ⟨672, 2, 1, .ro, (.const 0), []⟩
def PWR_BLK_STAT_WAKING : Fld := ⟨673, 3, 1, .ro, (.const 0), []⟩
def PWR_BLK_STAT_WAKE_DIM : Fld := ⟨674, 16, 16, .rw, (.const 0), []⟩
def PWR_BLK_STAT_WAKE_DARK : Fld := ⟨675, 32, 16, .rw, (.const 0), []⟩
def PWR_PLL_STAT_RUNNING : Fld := ⟨676, 0, 6, .ro, (.const 0), []⟩
def PWR_PLL_STAT_LOCKED : Fld := ⟨677, 8, 6, .ro, (.const 0), []⟩
def PWR_PLL_STAT_LOSS : Fld := ⟨678, 16, 6, .rw1c, (.const 0), []⟩
def PWR_TB_CFG_STEER_EN : Fld := ⟨679, 0, 1, .rw, (.const 1), []⟩
def PWR_TB_CFG_PTM_LINK : Fld := ⟨680, 1, 2, .rw, (.const 0), []⟩
def PWR_TB_CFG_MAX_PPM : Fld := ⟨681, 8, 8, .rw, (.const 100), [(1, 200)]⟩
def PWR_TB_STAT_RATE_PPB : Fld := ⟨682, 0, 24, .ro, (.const 0), []⟩
def PWR_TB_STAT_LOCKED : Fld := ⟨683, 24, 1, .ro, (.const 0), []⟩
def PWR_TB_OFS_OFFSET : Fld := ⟨684, 0, 64, .ro, (.const 0), []⟩
def PWR_DEV_RST_GO : Fld := ⟨685, 0, 1, (.wol .manager), (.const 0), []⟩
def PWR_RST_CAUSE_LAST : Fld := ⟨686, 0, 3, .ro, (.const 0), []⟩
def PWR_RST_CAUSE_SOFT_CNT : Fld := ⟨687, 8, 16, .ro, (.const 0), []⟩
def PWR_VID_CODE : Fld := ⟨688, 0, 8, .ro, (.const 60), []⟩
def PWR_VID_VR_READY : Fld := ⟨689, 8, 1, .ro, (.const 0), []⟩
def PWR_VID_VR_TMO : Fld := ⟨690, 9, 1, .rw1c, (.const 0), []⟩
def PWR_THERM_CFG_THROTTLE_C : Fld := ⟨691, 0, 8, (.rwl .safety), (.const 100), [(85, 104)]⟩
def PWR_ENV_STAT_TJ_C : Fld := ⟨692, 0, 8, .ro, (.const 0), []⟩
def PWR_ENV_STAT_HOT_ISLAND : Fld := ⟨693, 8, 6, .ro, (.const 0), []⟩
def PWR_ENV_STAT_THROTTLE : Fld := ⟨694, 14, 1, .ro, (.const 0), []⟩
def PWR_ENV_STAT_TRIP : Fld := ⟨695, 15, 1, .ro, (.const 0), []⟩
def PWR_ENV_STAT_STEPS : Fld := ⟨696, 16, 4, .ro, (.const 0), []⟩
def PWR_ENV_STAT_RAIL : Fld := ⟨697, 24, 8, .rw1c, (.const 0), []⟩
def LTN_CL_MAP_MAP : Fld := ⟨698, 0, 32, .ro, (.const 1985229328), []⟩
def LTN_GRP_MEMBERS_M0 : Fld := ⟨699, 1, 7, .rw, (.const 0), []⟩
def LTN_GRP_MEMBERS_M1 : Fld := ⟨700, 9, 7, .rw, (.const 0), []⟩
def LTN_GRP_MEMBERS_M2 : Fld := ⟨701, 17, 7, .rw, (.const 0), []⟩
def LTN_GRP_MEMBERS_M3 : Fld := ⟨702, 25, 7, .rw, (.const 0), []⟩
def LTN_GRP_MEMBERS_M4 : Fld := ⟨703, 33, 7, .rw, (.const 0), []⟩
def LTN_GRP_MEMBERS_M5 : Fld := ⟨704, 41, 7, .rw, (.const 0), []⟩
def LTN_GRP_MEMBERS_M6 : Fld := ⟨705, 49, 7, .rw, (.const 0), []⟩
def LTN_GRP_MEMBERS_M7 : Fld := ⟨706, 57, 7, .rw, (.const 0), []⟩
def LTN_CL_IRQ_LATCH_LATCH : Fld := ⟨707, 0, 32, .rw1c, (.const 0), []⟩
def LTN_CL_IRQ_SET_SET : Fld := ⟨708, 0, 32, .wo, (.const 0), []⟩
def LTN_CORE_FLTQ_POP_POP : Fld := ⟨709, 0, 32, .wo, (.const 0), []⟩
def LTN_CORE_HB_HB : Fld := ⟨710, 0, 32, .wo, (.const 0), []⟩
def LTN_DBG_BP_EN : Fld := ⟨711, 0, 1, (.rwl .debug), (.const 0), []⟩
def LTN_DBG_BP_ADDR : Fld := ⟨712, 2, 62, (.rwl .debug), (.const 0), []⟩
def LTN_THR_PC_PC : Fld := ⟨713, 0, 64, .rw, (.const 0), []⟩
def LTN_THR_EVPEND_PEND : Fld := ⟨714, 0, 32, .rw1c, (.const 0), []⟩
def LTN_THR_EVOVR_OVR : Fld := ⟨715, 0, 32, .rw1c, (.const 0), []⟩
def LTN_THR_WAITMASK_MASK : Fld := ⟨716, 0, 32, .ro, (.const 0), []⟩
def LTN_THR_TIMER_TIMER : Fld := ⟨717, 0, 64, .rw, (.const 0), []⟩
def LTN_THR_DBGSEL_SEL : Fld := ⟨718, 0, 6, (.rwl .debug), (.const 0), []⟩
def LTN_THR_DBGDATA_DATA : Fld := ⟨719, 0, 64, (.rwl .debug), (.const 0), []⟩
def PSM_PROF_MISS_REC : Fld := ⟨720, 0, 128, .rw, (.const 0), []⟩
def PSM_RDDATA_DATA : Fld := ⟨721, 0, 64, .ro, (.const 0), []⟩
def PSM_UPD_OP_DATA : Fld := ⟨722, 0, 64, .rw, (.const 0), []⟩
def FWD_FLOW_OP_DATA : Fld := ⟨723, 0, 64, .rw, (.const 0), []⟩
def TM_IND_DATA_DATA : Fld := ⟨724, 0, 64, .rw, (.const 0), []⟩
def LUM_SNAP_VALUE : Fld := ⟨725, 0, 48, .ro, (.const 0), []⟩
def LUM_SNAP_SAT : Fld := ⟨726, 62, 1, .ro, (.const 0), []⟩
def LUM_SNAP_PERR : Fld := ⟨727, 63, 1, .ro, (.const 0), []⟩
def LHS_NONCE_NONCE : Fld := ⟨728, 0, 64, .ro, (.const 0), []⟩
def LHS_MEAS_MEAS : Fld := ⟨729, 0, 64, .ro, (.const 0), []⟩
def LHS_IDENT_IDENT : Fld := ⟨730, 0, 64, .ro, (.const 0), []⟩
def LHS_MBOX_BUF_DATA : Fld := ⟨731, 0, 64, .rw, (.const 0), []⟩
def LHS_LOG_WIN_DATA : Fld := ⟨732, 0, 64, .ro, (.const 0), []⟩
def LNS_ACT_OUT_EN : Fld := ⟨733, 0, 1, .ro, (.const 0), []⟩
def LNS_ACT_OUT_RD : Fld := ⟨734, 1, 1, .ro, (.const 0), []⟩
def LNS_ACT_OUT_WR : Fld := ⟨735, 2, 1, .ro, (.const 0), []⟩
def LNS_ACT_OUT_LOCAL_BASE : Fld := ⟨736, 16, 32, .ro, (.const 0), []⟩
def LNS_ACT_OUT_LOCAL_LAST : Fld := ⟨737, 80, 32, .ro, (.const 0), []⟩
def LNS_ACT_OUT_NODE : Fld := ⟨738, 128, 12, .ro, (.const 0), []⟩
def LNS_ACT_OUT_REMOTE_BASE : Fld := ⟨739, 144, 32, .ro, (.const 0), []⟩
def LNS_ACT_OUT_NAK_CNT : Fld := ⟨740, 208, 16, .ro, (.const 0), []⟩
def LNS_ACT_OUT_LAST_REASON : Fld := ⟨741, 224, 4, .ro, (.const 0), []⟩
def LNS_ACT_IN_EN : Fld := ⟨742, 0, 1, .ro, (.const 0), []⟩
def LNS_ACT_IN_RD : Fld := ⟨743, 1, 1, .ro, (.const 0), []⟩
def LNS_ACT_IN_WR : Fld := ⟨744, 2, 1, .ro, (.const 0), []⟩
def LNS_ACT_IN_SRC_NODE : Fld := ⟨745, 16, 12, .ro, (.const 0), []⟩
def LNS_ACT_IN_SRC_MASK : Fld := ⟨746, 28, 12, .ro, (.const 0), []⟩
def LNS_ACT_IN_OFF_BASE : Fld := ⟨747, 80, 32, .ro, (.const 0), []⟩
def LNS_ACT_IN_OFF_LAST : Fld := ⟨748, 144, 32, .ro, (.const 0), []⟩
def LNS_ACT_IN_INT_BASE : Fld := ⟨749, 208, 32, .ro, (.const 0), []⟩

end R

/-! The registers. -/
namespace Reg

/-- ETH_GRP_CFG of 01_architecture.md, offset 0xE000000 (R25). -/
def ETH_GRP_CFG : RegD := ⟨0, 0xE000000, [(0x100, 4)], 32,
  [R.ETH_GRP_CFG_MODE, R.ETH_GRP_CFG_CFG_ERR]⟩
/-- ETH_PORT_CFG of 01_architecture.md, offset 0xE001000 (R27). -/
def ETH_PORT_CFG : RegD := ⟨1, 0xE001000, [(0x40, 16)], 32,
  [R.ETH_PORT_CFG_EN, R.ETH_PORT_CFG_FEC, R.ETH_PORT_CFG_MAX_FRAME, R.ETH_PORT_CFG_LOOPBACK, R.ETH_PORT_CFG_AN_EN]⟩
/-- ETH_PORT_STAT of 01_architecture.md, offset 0xE001008 (R27). -/
def ETH_PORT_STAT : RegD := ⟨2, 0xE001008, [(0x40, 16)], 64,
  [R.ETH_PORT_STAT_LINK_UP, R.ETH_PORT_STAT_BLOCK_LOCK, R.ETH_PORT_STAT_AM_LOCK, R.ETH_PORT_STAT_LOCAL_FAULT, R.ETH_PORT_STAT_REMOTE_FAULT, R.ETH_PORT_STAT_HI_SER, R.ETH_PORT_STAT_RATE, R.ETH_PORT_STAT_DOWN_CNT]⟩
/-- ETH_PORT_CNT of 01_architecture.md, offset 0xE001010 (R27). -/
def ETH_PORT_CNT : RegD := ⟨3, 0xE001010, [(0x40, 16)], 64,
  [R.ETH_PORT_CNT_FCS_ERR, R.ETH_PORT_CNT_UNDERSIZE, R.ETH_PORT_CNT_OVERSIZE, R.ETH_PORT_CNT_TX_ABORT]⟩
/-- LTN_CL_CHLEASE of 02_lantern_cores.md, offset 0x10000008 (R70). -/
def LTN_CL_CHLEASE : RegD := ⟨4, 0x10000008, [(0x1000000, 12)], 32,
  [R.LTN_CL_CHLEASE_LEASE_US]⟩
/-- LTN_CORE_ISSUE of 02_lantern_cores.md, offset 0x10100000 (R77). -/
def LTN_CORE_ISSUE : RegD := ⟨5, 0x10100000, [(0x1000000, 12), (0x10000, 8)], 32,
  [R.LTN_CORE_ISSUE_HP_THR, R.LTN_CORE_ISSUE_HP_EN, R.LTN_CORE_ISSUE_RP]⟩
/-- LTN_EVBIND of 02_lantern_cores.md, offset 0x10101080 (R79). -/
def LTN_EVBIND : RegD := ⟨6, 0x10101080, [(0x1000000, 12), (0x10000, 8), (0x100, 8), (0x4, 32)], 32,
  [R.LTN_EVBIND_SRC_TYPE, R.LTN_EVBIND_SCOPE, R.LTN_EVBIND_GROUP, R.LTN_EVBIND_SRC_ID]⟩
/-- LTN_CL_IRQMAP of 02_lantern_cores.md, offset 0x10002000 (R93). -/
def LTN_CL_IRQMAP : RegD := ⟨7, 0x10002000, [(0x1000000, 12), (0x4, 256)], 32,
  [R.LTN_CL_IRQMAP_THREAD, R.LTN_CL_IRQMAP_CORE, R.LTN_CL_IRQMAP_EN]⟩
/-- LTN_THR_IRQ of 02_lantern_cores.md, offset 0x1010101C (R93). -/
def LTN_THR_IRQ : RegD := ⟨8, 0x1010101C, [(0x1000000, 12), (0x10000, 8), (0x100, 8)], 32,
  [R.LTN_THR_IRQ_PENDING, R.LTN_THR_IRQ_IE]⟩
/-- LTN_CH_CFG of 02_lantern_cores.md, offset 0x10010000 (R95). -/
def LTN_CH_CFG : RegD := ⟨9, 0x10010000, [(0x1000000, 12), (0x10, 256)], 64,
  [R.LTN_CH_CFG_ENABLE, R.LTN_CH_CFG_CFG_ERR, R.LTN_CH_CFG_SIZE_LOG2, R.LTN_CH_CFG_SCOPE, R.LTN_CH_CFG_GROUP, R.LTN_CH_CFG_BASE_SLOT, R.LTN_CH_CFG_READER]⟩
/-- LTN_CH_STAT of 02_lantern_cores.md, offset 0x10010008 (R97). -/
def LTN_CH_STAT : RegD := ⟨10, 0x10010008, [(0x1000000, 12), (0x10, 256)], 64,
  [R.LTN_CH_STAT_VISIBLE, R.LTN_CH_STAT_RESERVED, R.LTN_CH_STAT_VOIDCNT, R.LTN_CH_STAT_NEXT_SEQ]⟩
/-- LTN_CORE_FLTQ_STAT of 02_lantern_cores.md, offset 0x10100010 (R110). -/
def LTN_CORE_FLTQ_STAT : RegD := ⟨11, 0x10100010, [(0x1000000, 12), (0x10000, 8)], 32,
  [R.LTN_CORE_FLTQ_STAT_COUNT, R.LTN_CORE_FLTQ_STAT_OVF, R.LTN_CORE_FLTQ_STAT_LOST]⟩
/-- LTN_CORE_FLTQ_HEAD of 02_lantern_cores.md, offset 0x10100018 (R110). -/
def LTN_CORE_FLTQ_HEAD : RegD := ⟨12, 0x10100018, [(0x1000000, 12), (0x10000, 8)], 64,
  [R.LTN_CORE_FLTQ_HEAD_CLASS, R.LTN_CORE_FLTQ_HEAD_THREAD, R.LTN_CORE_FLTQ_HEAD_INFO]⟩
/-- LTN_CORE_HBCTL of 02_lantern_cores.md, offset 0x1010002C (R112). -/
def LTN_CORE_HBCTL : RegD := ⟨13, 0x1010002C, [(0x1000000, 12), (0x10000, 8)], 32,
  [R.LTN_CORE_HBCTL_PERIOD_US]⟩
/-- LTN_CORE_ECL of 02_lantern_cores.md, offset 0x10100008 (R115). -/
def LTN_CORE_ECL : RegD := ⟨14, 0x10100008, [(0x1000000, 12), (0x10000, 8)], 32,
  [R.LTN_CORE_ECL_COUNT, R.LTN_CORE_ECL_CENSUS, R.LTN_CORE_ECL_ARMED, R.LTN_CORE_ECL_WAITING]⟩
/-- LTN_GRP_CTL of 02_lantern_cores.md, offset 0x10001008 (R119). -/
def LTN_GRP_CTL : RegD := ⟨15, 0x10001008, [(0x1000000, 12), (0x10, 16)], 32,
  [R.LTN_GRP_CTL_EN, R.LTN_GRP_CTL_SUP_CORE, R.LTN_GRP_CTL_COUNT, R.LTN_GRP_CTL_CENSUS, R.LTN_GRP_CTL_ARMED]⟩
/-- LTN_THR_CTL of 02_lantern_cores.md, offset 0x10101000 (R119). -/
def LTN_THR_CTL : RegD := ⟨16, 0x10101000, [(0x1000000, 12), (0x10000, 8), (0x100, 8)], 32,
  [R.LTN_THR_CTL_START, R.LTN_THR_CTL_KILL, R.LTN_THR_CTL_STATE, R.LTN_THR_CTL_LEASE_LOST, R.LTN_THR_CTL_RESV_HELD, R.LTN_THR_CTL_STAGE_CNT, R.LTN_THR_CTL_DBG_CAUSE]⟩
/-- LTN_DBG_CTL of 02_lantern_cores.md, offset 0x10100040 (R121). -/
def LTN_DBG_CTL : RegD := ⟨17, 0x10100040, [(0x1000000, 12), (0x10000, 8)], 32,
  [R.LTN_DBG_CTL_HALT_REQ, R.LTN_DBG_CTL_RESUME, R.LTN_DBG_CTL_STEP, R.LTN_DBG_CTL_HB_PAUSE_ON_HALT, R.LTN_DBG_CTL_BP_EN]⟩
/-- LTN_DMA_RING_CFG of 03_lantern_isa.md, offset 0x10003000 (R170). -/
def LTN_DMA_RING_CFG : RegD := ⟨18, 0x10003000, [(0x1000000, 12), (0x20, 256)], 64,
  [R.LTN_DMA_RING_CFG_ENABLE, R.LTN_DMA_RING_CFG_CFG_ERR, R.LTN_DMA_RING_CFG_SIZE_LOG2, R.LTN_DMA_RING_CFG_OWNER]⟩
/-- LTN_DMA_RING_BASE of 03_lantern_isa.md, offset 0x10003008 (R170). -/
def LTN_DMA_RING_BASE : RegD := ⟨19, 0x10003008, [(0x1000000, 12), (0x20, 256)], 64,
  [R.LTN_DMA_RING_BASE_BASE]⟩
/-- LTN_DMA_RING_STAT of 03_lantern_isa.md, offset 0x10003010 (R170). -/
def LTN_DMA_RING_STAT : RegD := ⟨20, 0x10003010, [(0x1000000, 12), (0x20, 256)], 64,
  [R.LTN_DMA_RING_STAT_INFLIGHT, R.LTN_DMA_RING_STAT_UNACKED, R.LTN_DMA_RING_STAT_NEXT_SEQ]⟩
/-- MEM_SCRUB_CTL of 04_memory_translation.md, offset 0xC000000 (R209). -/
def MEM_SCRUB_CTL : RegD := ⟨21, 0xC000000, [], 32,
  [R.MEM_SCRUB_CTL_HBM_PASS_H, R.MEM_SCRUB_CTL_SRAM_PASS_MS, R.MEM_SCRUB_CTL_HBM_EN, R.MEM_SCRUB_CTL_SRAM_EN]⟩
/-- MEM_ECC_CNT of 04_memory_translation.md, offset 0xC000008 (R209). -/
def MEM_ECC_CNT : RegD := ⟨22, 0xC000008, [], 64,
  [R.MEM_ECC_CNT_CORRECTED, R.MEM_ECC_CNT_UNCORRECTABLE, R.MEM_ECC_CNT_POISON_READS]⟩
/-- MEM_ECC_LOG of 04_memory_translation.md, offset 0xC000010 (R209). -/
def MEM_ECC_LOG : RegD := ⟨23, 0xC000010, [], 64,
  [R.MEM_ECC_LOG_ADDR, R.MEM_ECC_LOG_VALID]⟩
/-- MEM_TLBI_ARG of 04_memory_translation.md, offset 0xC000100 (R220). -/
def MEM_TLBI_ARG : RegD := ⟨24, 0xC000100, [], 64,
  [R.MEM_TLBI_ARG_ARG]⟩
/-- MEM_TLBI_CTL of 04_memory_translation.md, offset 0xC000108 (R220). -/
def MEM_TLBI_CTL : RegD := ⟨25, 0xC000108, [], 64,
  [R.MEM_TLBI_CTL_SCOPE, R.MEM_TLBI_CTL_CLUSTERS, R.MEM_TLBI_CTL_GO, R.MEM_TLBI_CTL_BUSY, R.MEM_TLBI_CTL_REFUSED, R.MEM_TLBI_CTL_ASID]⟩
/-- MEM_PRI_TMO of 04_memory_translation.md, offset 0xC000300 (R225). -/
def MEM_PRI_TMO : RegD := ⟨26, 0xC000300, [], 32,
  [R.MEM_PRI_TMO_TMO_MS]⟩
/-- MEM_XLF_CFG of 04_memory_translation.md, offset 0xC000200 (R229). -/
def MEM_XLF_CFG : RegD := ⟨27, 0xC000200, [(0x8, 12)], 32,
  [R.MEM_XLF_CFG_CHAN, R.MEM_XLF_CFG_EN, R.MEM_XLF_CFG_TMO_MS]⟩
/-- MEM_XLF_RESP of 04_memory_translation.md, offset 0xC000280 (R229). -/
def MEM_XLF_RESP : RegD := ⟨28, 0xC000280, [], 32,
  [R.MEM_XLF_RESP_CLUSTER, R.MEM_XLF_RESP_HOLD, R.MEM_XLF_RESP_FAIL]⟩
/-- PRS_PROF of 05_prism_parse_classify.md, offset 0x5000000 (R240). -/
def PRS_PROF : RegD := ⟨29, 0x5000000, [(0x400000, 4), (0x8, 64)], 64,
  [R.PRS_PROF_EN, R.PRS_PROF_DEPTH, R.PRS_PROF_WINDOW, R.PRS_PROF_START, R.PRS_PROF_RECIRC_PROF, R.PRS_PROF_LEN_ACT, R.PRS_PROF_EXCQ, R.PRS_PROF_PF_MODE, R.PRS_PROF_PF_CONST, R.PRS_PROF_PF_BIT]⟩
/-- PRS_SRC_PROF of 05_prism_parse_classify.md, offset 0x5000400 (R240). -/
def PRS_SRC_PROF : RegD := ⟨30, 0x5000400, [(0x400000, 4), (0x4, 32)], 32,
  [R.PRS_SRC_PROF_PROFILE]⟩
/-- PRS_NODE_LEN of 05_prism_parse_classify.md, offset 0x5001000 (R241). -/
def PRS_NODE_LEN : RegD := ⟨31, 0x5001000, [(0x400000, 4), (0x10, 128)], 64,
  [R.PRS_NODE_LEN_V, R.PRS_NODE_LEN_MIN_LEN, R.PRS_NODE_LEN_LEN_MODE, R.PRS_NODE_LEN_LEN_BIT, R.PRS_NODE_LEN_LEN_W, R.PRS_NODE_LEN_LEN_SH, R.PRS_NODE_LEN_LEN_ADD]⟩
/-- PRS_NODE_NXT of 05_prism_parse_classify.md, offset 0x5001008 (R241). -/
def PRS_NODE_NXT : RegD := ⟨32, 0x5001008, [(0x400000, 4), (0x10, 128)], 64,
  [R.PRS_NODE_NXT_NXT_EN, R.PRS_NODE_NXT_NXT_BIT, R.PRS_NODE_NXT_NXT_W, R.PRS_NODE_NXT_CLM_EN, R.PRS_NODE_NXT_CLM_BIT, R.PRS_NODE_NXT_CLM_W, R.PRS_NODE_NXT_CLM_SH, R.PRS_NODE_NXT_CLM_ADD]⟩
/-- PRS_TRANS of 05_prism_parse_classify.md, offset 0x5002000 (R241). -/
def PRS_TRANS : RegD := ⟨33, 0x5002000, [(0x400000, 4), (0x8, 1024)], 64,
  [R.PRS_TRANS_V, R.PRS_TRANS_FROM, R.PRS_TRANS_NEXT, R.PRS_TRANS_VALUE, R.PRS_TRANS_MASK]⟩
/-- PRS_KEYX of 05_prism_parse_classify.md, offset 0x5010000 (R248). -/
def PRS_KEYX : RegD := ⟨34, 0x5010000, [(0x400000, 4), (0x80, 64), (0x8, 16)], 64,
  [R.PRS_KEYX_EN, R.PRS_KEYX_NODE, R.PRS_KEYX_OCC, R.PRS_KEYX_SRC_BIT, R.PRS_KEYX_WIDTH, R.PRS_KEYX_DST_BIT]⟩
/-- PSM_BANK_CFG of 05_prism_parse_classify.md, offset 0x6000000 (R250). -/
def PSM_BANK_CFG : RegD := ⟨35, 0x6000000, [(0x400000, 4), (0x4, 32)], 32,
  [R.PSM_BANK_CFG_WIDTH, R.PSM_BANK_CFG_KSEL, R.PSM_BANK_CFG_EN, R.PSM_BANK_CFG_SHIFT_LIMIT, R.PSM_BANK_CFG_DUP_VALID, R.PSM_BANK_CFG_DUP_BANK, R.PSM_BANK_CFG_PHYS]⟩
/-- PSM_RG of 05_prism_parse_classify.md, offset 0x6000100 (R253). -/
def PSM_RG : RegD := ⟨36, 0x6000100, [(0x400000, 4), (0x40, 32), (0x4, 16)], 32,
  [R.PSM_RG_VALUE, R.PSM_RG_MASK, R.PSM_RG_EN]⟩
/-- PSM_PROF_BANKS of 05_prism_parse_classify.md, offset 0x6001000 (R253). -/
def PSM_PROF_BANKS : RegD := ⟨37, 0x6001000, [(0x400000, 4), (0x4, 64)], 32,
  [R.PSM_PROF_BANKS_BANKS]⟩
/-- PRS_EXCQ of 05_prism_parse_classify.md, offset 0x5000480 (R257). -/
def PRS_EXCQ : RegD := ⟨38, 0x5000480, [(0x400000, 4), (0x4, 16)], 32,
  [R.PRS_EXCQ_CHAN, R.PRS_EXCQ_EN]⟩
/-- PRS_CNT_A of 05_prism_parse_classify.md, offset 0x5000500 (R257). -/
def PRS_CNT_A : RegD := ⟨39, 0x5000500, [(0x400000, 4)], 64,
  [R.PRS_CNT_A_TRUNC, R.PRS_CNT_A_LENC]⟩
/-- PRS_CNT_B of 05_prism_parse_classify.md, offset 0x5000508 (R257). -/
def PRS_CNT_B : RegD := ⟨40, 0x5000508, [(0x400000, 4)], 64,
  [R.PRS_CNT_B_EXC_DROP, R.PRS_CNT_B_NOPROF]⟩
/-- PSM_VERIFY_STAT of 05_prism_parse_classify.md, offset 0x6002018 (R262). -/
def PSM_VERIFY_STAT : RegD := ⟨41, 0x6002018, [(0x400000, 4)], 64,
  [R.PSM_VERIFY_STAT_FALSE_HITS, R.PSM_VERIFY_STAT_SHADOW_UE, R.PSM_VERIFY_STAT_LIMIT]⟩
/-- PSM_SCRUB_STAT of 05_prism_parse_classify.md, offset 0x6002020 (R265). -/
def PSM_SCRUB_STAT : RegD := ⟨42, 0x6002020, [(0x400000, 4)], 64,
  [R.PSM_SCRUB_STAT_REPAIRS, R.PSM_SCRUB_STAT_PASSES]⟩
/-- PSM_UPD_CTL of 05_prism_parse_classify.md, offset 0x6002000 (R270). -/
def PSM_UPD_CTL : RegD := ⟨43, 0x6002000, [(0x400000, 4)], 32,
  [R.PSM_UPD_CTL_COUNT, R.PSM_UPD_CTL_GO, R.PSM_UPD_CTL_BUSY, R.PSM_UPD_CTL_HOLD_GATE, R.PSM_UPD_CTL_ERR, R.PSM_UPD_CTL_ERR_OP, R.PSM_UPD_CTL_STAGED, R.PSM_UPD_CTL_REFUSED]⟩
/-- PSM_PLACE of 05_prism_parse_classify.md, offset 0x6002008 (R273). -/
def PSM_PLACE : RegD := ⟨44, 0x6002008, [(0x400000, 4)], 32,
  [R.PSM_PLACE_BANK, R.PSM_PLACE_BAND, R.PSM_PLACE_GO, R.PSM_PLACE_DONE, R.PSM_PLACE_ROW, R.PSM_PLACE_FULL]⟩
/-- PSM_HOLD_STAT of 05_prism_parse_classify.md, offset 0x6002010 (R276). -/
def PSM_HOLD_STAT : RegD := ⟨45, 0x6002010, [(0x400000, 4)], 64,
  [R.PSM_HOLD_STAT_DROPS, R.PSM_HOLD_STAT_MAX_FILL, R.PSM_HOLD_STAT_HOLDS]⟩
/-- PSM_RDSEL of 05_prism_parse_classify.md, offset 0x6002030 (R279). -/
def PSM_RDSEL : RegD := ⟨46, 0x6002030, [(0x400000, 4)], 32,
  [R.PSM_RDSEL_BANK, R.PSM_RDSEL_ROW, R.PSM_RDSEL_UE, R.PSM_RDSEL_SUSPECT, R.PSM_RDSEL_DEAD]⟩
/-- FWD_PSEL of 06_forwarding_learning.md, offset 0x7100100 (R283). -/
def FWD_PSEL : RegD := ⟨47, 0x7100100, [(0x10000, 4), (0x8, 64)], 64,
  [R.FWD_PSEL_DA_BIT, R.FWD_PSEL_SA_BIT, R.FWD_PSEL_IP_BIT, R.FWD_PSEL_DA_PI, R.FWD_PSEL_SA_PI, R.FWD_PSEL_IP_PI, R.FWD_PSEL_LEARN, R.FWD_PSEL_MISS]⟩
/-- FWD_CNT of 06_forwarding_learning.md, offset 0x7008008 (R289). -/
def FWD_CNT : RegD := ⟨48, 0x7008008, [], 64,
  [R.FWD_CNT_UE, R.FWD_CNT_NH_BAD]⟩
/-- FWD_VRF of 06_forwarding_learning.md, offset 0x7000000 (R295). -/
def FWD_VRF : RegD := ⟨49, 0x7000000, [(0x8, 4096)], 64,
  [R.FWD_VRF_V4_EN, R.FWD_VRF_V4_ROOT, R.FWD_VRF_V6_EN, R.FWD_VRF_V6_ROOT]⟩
/-- FWD_LPM_DRAIN of 06_forwarding_learning.md, offset 0x7008000 (R301). -/
def FWD_LPM_DRAIN : RegD := ⟨50, 0x7008000, [], 32,
  [R.FWD_LPM_DRAIN_GO, R.FWD_LPM_DRAIN_DONE]⟩
/-- FWD_FLOW_CFG of 06_forwarding_learning.md, offset 0x7010800 (R308). -/
def FWD_FLOW_CFG : RegD := ⟨51, 0x7010800, [], 64,
  [R.FWD_FLOW_CFG_EN, R.FWD_FLOW_CFG_CFG_ERR, R.FWD_FLOW_CFG_SIZE_LOG2, R.FWD_FLOW_CFG_MAX_PATH, R.FWD_FLOW_CFG_BASE]⟩
/-- FWD_FLOW_SEED of 06_forwarding_learning.md, offset 0x7010808 (R309). -/
def FWD_FLOW_SEED : RegD := ⟨52, 0x7010808, [], 64,
  [R.FWD_FLOW_SEED_SEED_1, R.FWD_FLOW_SEED_SEED_2]⟩
/-- FWD_FPROF of 06_forwarding_learning.md, offset 0x7010000 (R310). -/
def FWD_FPROF : RegD := ⟨53, 0x7010000, [(0x8, 256)], 64,
  [R.FWD_FPROF_OFF_0, R.FWD_FPROF_OFF_1, R.FWD_FPROF_OFF_2, R.FWD_FPROF_OFF_3, R.FWD_FPROF_OFF_4, R.FWD_FPROF_EN_0, R.FWD_FPROF_EN_1, R.FWD_FPROF_EN_2, R.FWD_FPROF_EN_3, R.FWD_FPROF_EN_4, R.FWD_FPROF_MISS]⟩
/-- FWD_FLOW_CTL of 06_forwarding_learning.md, offset 0x7010810 (R313). -/
def FWD_FLOW_CTL : RegD := ⟨54, 0x7010810, [], 32,
  [R.FWD_FLOW_CTL_COUNT, R.FWD_FLOW_CTL_GO, R.FWD_FLOW_CTL_BUSY, R.FWD_FLOW_CTL_REFUSED]⟩
/-- FWD_FLOW_RES of 06_forwarding_learning.md, offset 0x7012400 (R313). -/
def FWD_FLOW_RES : RegD := ⟨55, 0x7012400, [(0x8, 64)], 64,
  [R.FWD_FLOW_RES_STATUS, R.FWD_FLOW_RES_MOVES, R.FWD_FLOW_RES_BUCKET, R.FWD_FLOW_RES_WAY]⟩
/-- FWD_FLOW_STAT of 06_forwarding_learning.md, offset 0x7010818 (R313). -/
def FWD_FLOW_STAT : RegD := ⟨56, 0x7010818, [], 64,
  [R.FWD_FLOW_STAT_ENTRIES, R.FWD_FLOW_STAT_RELOCS]⟩
/-- FWD_MAC_CFG of 06_forwarding_learning.md, offset 0x7100000 (R323). -/
def FWD_MAC_CFG : RegD := ⟨57, 0x7100000, [(0x10000, 4)], 64,
  [R.FWD_MAC_CFG_FLAP_WIN, R.FWD_MAC_CFG_SWEEP_S, R.FWD_MAC_CFG_AGE_SWEEPS, R.FWD_MAC_CFG_MAX_PATH, R.FWD_MAC_CFG_NOTIFY_CHAN, R.FWD_MAC_CFG_NOTIFY_EN, R.FWD_MAC_CFG_RECON_MS]⟩
/-- FWD_MAC_SEED of 06_forwarding_learning.md, offset 0x7100008 (R323). -/
def FWD_MAC_SEED : RegD := ⟨58, 0x7100008, [(0x10000, 4)], 64,
  [R.FWD_MAC_SEED_SEED_1, R.FWD_MAC_SEED_SEED_2]⟩
/-- FWD_MAC_CMD of 06_forwarding_learning.md, offset 0x7100010 (R324). -/
def FWD_MAC_CMD : RegD := ⟨59, 0x7100010, [(0x10000, 4)], 64,
  [R.FWD_MAC_CMD_OP, R.FWD_MAC_CMD_GO, R.FWD_MAC_CMD_BUSY, R.FWD_MAC_CMD_REFUSED, R.FWD_MAC_CMD_STATUS, R.FWD_MAC_CMD_REMOVED]⟩
/-- FWD_MAC_CMD_DATA of 06_forwarding_learning.md, offset 0x7100018 (R324). -/
def FWD_MAC_CMD_DATA : RegD := ⟨60, 0x7100018, [(0x10000, 4)], 128,
  [R.FWD_MAC_CMD_DATA_DATA]⟩
/-- FWD_MAC_STAT of 06_forwarding_learning.md, offset 0x7100028 (R326). -/
def FWD_MAC_STAT : RegD := ⟨61, 0x7100028, [(0x10000, 4)], 64,
  [R.FWD_MAC_STAT_ENTRIES, R.FWD_MAC_STAT_RELOCS]⟩
/-- FWD_MAC_CNT of 06_forwarding_learning.md, offset 0x7100030 (R326). -/
def FWD_MAC_CNT : RegD := ⟨62, 0x7100030, [(0x10000, 4)], 64,
  [R.FWD_MAC_CNT_LEARN_DROP, R.FWD_MAC_CNT_NO_ROOM, R.FWD_MAC_CNT_FLAPS, R.FWD_MAC_CNT_NOTIFY_LOST]⟩
/-- TM_OMAP of 07_traffic_management.md, offset 0x8000000 (R332). -/
def TM_OMAP : RegD := ⟨63, 0x8000000, [(0x8, 32)], 64,
  [R.TM_OMAP_LEAF_BASE, R.TM_OMAP_TC_SH, R.TM_OMAP_FLOW_BITS, R.TM_OMAP_EN, R.TM_OMAP_LEN_ADJ]⟩
/-- TM_IND_CTL of 07_traffic_management.md, offset 0x8000100 (R334). -/
def TM_IND_CTL : RegD := ⟨64, 0x8000100, [], 32,
  [R.TM_IND_CTL_TARGET, R.TM_IND_CTL_INDEX, R.TM_IND_CTL_WRITE, R.TM_IND_CTL_GO, R.TM_IND_CTL_BUSY, R.TM_IND_CTL_ERR, R.TM_IND_CTL_REFUSED]⟩
/-- TM_CMAP_CTL of 07_traffic_management.md, offset 0x8100000 (R339). -/
def TM_CMAP_CTL : RegD := ⟨65, 0x8100000, [(0x10000, 4), (0x20, 64)], 64,
  [R.TM_CMAP_CTL_BIT, R.TM_CMAP_CTL_WIDTH, R.TM_CMAP_CTL_PI, R.TM_CMAP_CTL_EN]⟩
/-- TM_CMAP_MAP of 07_traffic_management.md, offset 0x8100008 (R339). -/
def TM_CMAP_MAP : RegD := ⟨66, 0x8100008, [(0x10000, 4), (0x20, 64)], 128,
  [R.TM_CMAP_MAP_MAP]⟩
/-- TM_BUF_STAT of 07_traffic_management.md, offset 0x8000208 (R344). -/
def TM_BUF_STAT : RegD := ⟨67, 0x8000208, [], 64,
  [R.TM_BUF_STAT_FREE, R.TM_BUF_STAT_LOW, R.TM_BUF_STAT_LOW_RST]⟩
/-- TM_DROP_CNT of 07_traffic_management.md, offset 0x8000210 (R344). -/
def TM_DROP_CNT : RegD := ⟨68, 0x8000210, [], 64,
  [R.TM_DROP_CNT_NO_OUTPUT, R.TM_DROP_CNT_RED]⟩
/-- TM_WHEEL_STAT of 07_traffic_management.md, offset 0x8000200 (R355). -/
def TM_WHEEL_STAT : RegD := ⟨69, 0x8000200, [], 64,
  [R.TM_WHEEL_STAT_LATE, R.TM_WHEEL_STAT_MAX_FILL, R.TM_WHEEL_STAT_CLAMPS]⟩
/-- TM_PKT_CMD of 07_traffic_management.md, offset 0x8000300 (R358). -/
def TM_PKT_CMD : RegD := ⟨70, 0x8000300, [], 64,
  [R.TM_PKT_CMD_HANDLE, R.TM_PKT_CMD_OP, R.TM_PKT_CMD_GO, R.TM_PKT_CMD_BUSY, R.TM_PKT_CMD_STATUS, R.TM_PKT_CMD_INJ_OUT, R.TM_PKT_CMD_INJ_TC, R.TM_PKT_CMD_KEEP, R.TM_PKT_CMD_INJ_PROF]⟩
/-- TM_PKT_ADDR of 07_traffic_management.md, offset 0x8000308 (R358). -/
def TM_PKT_ADDR : RegD := ⟨71, 0x8000308, [], 64,
  [R.TM_PKT_ADDR_ADDR]⟩
/-- TM_PKT_STAT of 07_traffic_management.md, offset 0x8000310 (R358). -/
def TM_PKT_STAT : RegD := ⟨72, 0x8000310, [], 64,
  [R.TM_PKT_STAT_EXPIRED, R.TM_PKT_STAT_HELD]⟩
/-- TM_PKT_CFG of 07_traffic_management.md, offset 0x8000318 (R358). -/
def TM_PKT_CFG : RegD := ⟨73, 0x8000318, [], 32,
  [R.TM_PKT_CFG_HOLD_MS]⟩
/-- GLT_CFG of 08_glint_cipher.md, offset 0x9000000 (R364). -/
def GLT_CFG : RegD := ⟨74, 0x9000000, [], 32,
  [R.GLT_CFG_IDLE_DIM_US, R.GLT_CFG_IDLE_DARK_MS, R.GLT_CFG_MIN_LIT, R.GLT_CFG_CHAN_TMO_MS]⟩
/-- GLT_CL_STAT of 08_glint_cipher.md, offset 0x9000200 (R364). -/
def GLT_CL_STAT : RegD := ⟨75, 0x9000200, [(0x4, 32)], 32,
  [R.GLT_CL_STAT_PHYS, R.GLT_CL_STAT_POWER, R.GLT_CL_STAT_OUT, R.GLT_CL_STAT_JOBS]⟩
/-- GLT_ROOT of 08_glint_cipher.md, offset 0x9000100 (R369). -/
def GLT_ROOT : RegD := ⟨76, 0x9000100, [(0x8, 16)], 64,
  [R.GLT_ROOT_STATE, R.GLT_ROOT_DISABLE, R.GLT_ROOT_ALLOW_PL0, R.GLT_ROOT_ALLOW_PL1, R.GLT_ROOT_ALLOW_INLINE, R.GLT_ROOT_ALLOW_PF, R.GLT_ROOT_ALLOW_VF, R.GLT_ROOT_PF_MASK, R.GLT_ROOT_BIND, R.GLT_ROOT_GEN]⟩
/-- GLT_RNG_STAT of 08_glint_cipher.md, offset 0x9000018 (R378). -/
def GLT_RNG_STAT : RegD := ⟨77, 0x9000018, [], 32,
  [R.GLT_RNG_STAT_ES_OK, R.GLT_RNG_STAT_ES_FAIL, R.GLT_RNG_STAT_SVC_FAIL, R.GLT_RNG_STAT_FAILS]⟩
/-- GLT_CTX_BASE of 08_glint_cipher.md, offset 0x9000008 (R379). -/
def GLT_CTX_BASE : RegD := ⟨78, 0x9000008, [], 64,
  [R.GLT_CTX_BASE_EN, R.GLT_CTX_BASE_CFG_ERR, R.GLT_CTX_BASE_BASE]⟩
/-- GLT_CTX_CMD of 08_glint_cipher.md, offset 0x9000010 (R382). -/
def GLT_CTX_CMD : RegD := ⟨79, 0x9000010, [], 32,
  [R.GLT_CTX_CMD_INDEX, R.GLT_CTX_CMD_OP, R.GLT_CTX_CMD_GO, R.GLT_CTX_CMD_BUSY, R.GLT_CTX_CMD_REFUSED, R.GLT_CTX_CMD_STATUS]⟩
/-- GLT_INLINE_CNT of 08_glint_cipher.md, offset 0x9000020 (R394). -/
def GLT_INLINE_CNT : RegD := ⟨80, 0x9000020, [], 64,
  [R.GLT_INLINE_CNT_TAG_FAIL, R.GLT_INLINE_CNT_REPLAY, R.GLT_INLINE_CNT_OTHER]⟩
/-- NVM_CTRL_CFG of 09_storage_frontend.md, offset 0x4000000 (R411). -/
def NVM_CTRL_CFG : RegD := ⟨81, 0x4000000, [(0x8, 4096)], 64,
  [R.NVM_CTRL_CFG_EN, R.NVM_CTRL_CFG_MAXQ, R.NVM_CTRL_CFG_WEIGHT, R.NVM_CTRL_CFG_ACTIVE]⟩
/-- NVM_CFG of 09_storage_frontend.md, offset 0x4010000 (R411). -/
def NVM_CFG : RegD := ⟨82, 0x4010000, [], 32,
  [R.NVM_CFG_EN, R.NVM_CFG_CFG_ERR]⟩
/-- NVM_NSMAP_BASE of 09_storage_frontend.md, offset 0x4010008 (R412). -/
def NVM_NSMAP_BASE : RegD := ⟨83, 0x4010008, [], 64,
  [R.NVM_NSMAP_BASE_BASE]⟩
/-- NVM_SLOT_BASE of 09_storage_frontend.md, offset 0x4010010 (R412). -/
def NVM_SLOT_BASE : RegD := ⟨84, 0x4010010, [], 64,
  [R.NVM_SLOT_BASE_BASE]⟩
/-- NVM_STAGE of 09_storage_frontend.md, offset 0x4010018 (R412). -/
def NVM_STAGE : RegD := ⟨85, 0x4010018, [], 64,
  [R.NVM_STAGE_BASE, R.NVM_STAGE_SIZE_LOG2]⟩
/-- NVM_SVC_CHAN of 09_storage_frontend.md, offset 0x4010100 (R412). -/
def NVM_SVC_CHAN : RegD := ⟨86, 0x4010100, [(0x4, 16)], 32,
  [R.NVM_SVC_CHAN_CHAN, R.NVM_SVC_CHAN_EN]⟩
/-- NVM_STAT of 09_storage_frontend.md, offset 0x4010030 (R412). -/
def NVM_STAT : RegD := ⟨87, 0x4010030, [], 64,
  [R.NVM_STAT_DB_BAD, R.NVM_STAT_STALE_DONE, R.NVM_STAT_CID_CONFLICT]⟩
/-- NVM_DONE of 09_storage_frontend.md, offset 0x4010020 (R423). -/
def NVM_DONE : RegD := ⟨88, 0x4010020, [], 64,
  [R.NVM_DONE_SLOT, R.NVM_DONE_RAW, R.NVM_DONE_STATUS, R.NVM_DONE_SC, R.NVM_DONE_SCT, R.NVM_DONE_DNR, R.NVM_DONE_DW0_V]⟩
/-- NVM_FWACT of 09_storage_frontend.md, offset 0x4010028 (R442). -/
def NVM_FWACT : RegD := ⟨89, 0x4010028, [], 32,
  [R.NVM_FWACT_PAUSE, R.NVM_FWACT_RESUME, R.NVM_FWACT_STATE]⟩
/-- HIF_PORT_CFG of 10_host_interface.md, offset 0x2000000 (R449). -/
def HIF_PORT_CFG : RegD := ⟨90, 0x2000000, [(0x8, 2)], 32,
  [R.HIF_PORT_CFG_BIFUR, R.HIF_PORT_CFG_MAX_RATE, R.HIF_PORT_CFG_FLIT_EN]⟩
/-- HIF_LINK_STAT of 10_host_interface.md, offset 0x2000010 (R451). -/
def HIF_LINK_STAT : RegD := ⟨91, 0x2000010, [(0x8, 4)], 32,
  [R.HIF_LINK_STAT_UP, R.HIF_LINK_STAT_RATE, R.HIF_LINK_STAT_WIDTH, R.HIF_LINK_STAT_FLIT, R.HIF_LINK_STAT_DOWN_CNT]⟩
/-- HIF_PF_LINK of 10_host_interface.md, offset 0x2000040 (R451). -/
def HIF_PF_LINK : RegD := ⟨92, 0x2000040, [(0x4, 8)], 32,
  [R.HIF_PF_LINK_LINK, R.HIF_PF_LINK_EN]⟩
/-- HIF_SLICE of 10_host_interface.md, offset 0x2001000 (R458). -/
def HIF_SLICE : RegD := ⟨93, 0x2001000, [(0x40, 8), (0x4, 12)], 32,
  [R.HIF_SLICE_BASE, R.HIF_SLICE_EN, R.HIF_SLICE_WR]⟩
/-- HIF_APERTURE of 10_host_interface.md, offset 0x2000080 (R459). -/
def HIF_APERTURE : RegD := ⟨94, 0x2000080, [], 32,
  [R.HIF_APERTURE_BASE_GIB]⟩
/-- HIF_FN_STAT of 10_host_interface.md, offset 0x2010000 (R479). -/
def HIF_FN_STAT : RegD := ⟨95, 0x2010000, [(0x8, 4096)], 64,
  [R.HIF_FN_STAT_BME_LOST, R.HIF_FN_STAT_LATE_CPL, R.HIF_FN_STAT_BAD_ACCESS, R.HIF_FN_STAT_DSTATE, R.HIF_FN_STAT_FLR_BUSY, R.HIF_FN_STAT_TORN]⟩
/-- HIF_WAKE_CFG of 10_host_interface.md, offset 0x2000088 (R486). -/
def HIF_WAKE_CFG : RegD := ⟨96, 0x2000088, [], 32,
  [R.HIF_WAKE_CFG_ETH_GRP, R.HIF_WAKE_CFG_MGMT, R.HIF_WAKE_CFG_GPIO, R.HIF_WAKE_CFG_GPIO_SEL, R.HIF_WAKE_CFG_WAKE_EN]⟩
/-- QM_CFG of 11_queues.md, offset 0x3000000 (R496). -/
def QM_CFG : RegD := ⟨97, 0x3000000, [], 64,
  [R.QM_CFG_EN, R.QM_CFG_CFG_ERR, R.QM_CFG_SPILL_BASE]⟩
/-- QM_SQ of 11_queues.md, offset 0x3100000 (R497). -/
def QM_SQ : RegD := ⟨98, 0x3100000, [(0x20, 65536)], 256,
  [R.QM_SQ_EN, R.QM_SQ_CFG_ERR, R.QM_SQ_SIZE_LOG2, R.QM_SQ_KIND, R.QM_SQ_FUNC, R.QM_SQ_LOCAL, R.QM_SQ_CQ, R.QM_SQ_WEIGHT, R.QM_SQ_BURST_M1, R.QM_SQ_BASE, R.QM_SQ_PAIR, R.QM_SQ_PAIR_V, R.QM_SQ_CHAN, R.QM_SQ_ROUTE, R.QM_SQ_ROUTE_EN, R.QM_SQ_PASID, R.QM_SQ_PV, R.QM_SQ_PMR, R.QM_SQ_PI, R.QM_SQ_CI, R.QM_SQ_DB_BAD, R.QM_SQ_RX_OVERSIZE, R.QM_SQ_GEN]⟩
/-- QM_CQ of 11_queues.md, offset 0x3300000 (R498). -/
def QM_CQ : RegD := ⟨99, 0x3300000, [(0x20, 16384)], 256,
  [R.QM_CQ_EN, R.QM_CQ_CFG_ERR, R.QM_CQ_SIZE_LOG2, R.QM_CQ_FUNC, R.QM_CQ_VECTOR, R.QM_CQ_IRQ_EN, R.QM_CQ_COAL_CNT, R.QM_CQ_COAL_US, R.QM_CQ_BASE, R.QM_CQ_PASID, R.QM_CQ_PV, R.QM_CQ_PMR, R.QM_CQ_LOCAL, R.QM_CQ_DB_BAD, R.QM_CQ_HEAD, R.QM_CQ_TAIL, R.QM_CQ_SPILLED, R.QM_CQ_OVERFLOW, R.QM_CQ_BACKPRESSURE, R.QM_CQ_OUTSTANDING]⟩
/-- QM_FW_CPL_CTL of 11_queues.md, offset 0x3000010 (R520). -/
def QM_FW_CPL_CTL : RegD := ⟨100, 0x3000010, [], 32,
  [R.QM_FW_CPL_CTL_SQ, R.QM_FW_CPL_CTL_GEN, R.QM_FW_CPL_CTL_GO, R.QM_FW_CPL_CTL_RESULT]⟩
/-- QM_FW_CPL_DATA of 11_queues.md, offset 0x3000018 (R520). -/
def QM_FW_CPL_DATA : RegD := ⟨101, 0x3000018, [(0x8, 4)], 64,
  [R.QM_FW_CPL_DATA_DATA]⟩
/-- QM_PF_EVT of 11_queues.md, offset 0x3000100 (R527). -/
def QM_PF_EVT : RegD := ⟨102, 0x3000100, [(0x8, 8)], 64,
  [R.QM_PF_EVT_VEC, R.QM_PF_EVT_EN, R.QM_PF_EVT_CQ_OVF, R.QM_PF_EVT_SQ_DB_BAD, R.QM_PF_EVT_CQ_DB_BAD, R.QM_PF_EVT_LAST_CQ, R.QM_PF_EVT_LAST_SQ]⟩
/-- HIF_PF_VF of 12_virtualization.md, offset 0x2000100 (R533). -/
def HIF_PF_VF : RegD := ⟨103, 0x2000100, [(0x8, 8)], 64,
  [R.HIF_PF_VF_FIRST, R.HIF_PF_VF_COUNT, R.HIF_PF_VF_ACT_FIRST, R.HIF_PF_VF_ACT_COUNT, R.HIF_PF_VF_APPLY_ERR]⟩
/-- HIF_FN_CFG of 12_virtualization.md, offset 0x2020000 (R536). -/
def HIF_FN_CFG : RegD := ⟨104, 0x2020000, [(0x10, 4096)], 64,
  [R.HIF_FN_CFG_SQ_COUNT, R.HIF_FN_CFG_CQ_COUNT, R.HIF_FN_CFG_VEC_BASE, R.HIF_FN_CFG_VEC_M1]⟩
/-- HIF_FN_ACT of 12_virtualization.md, offset 0x2020008 (R536). -/
def HIF_FN_ACT : RegD := ⟨105, 0x2020008, [(0x10, 4096)], 64,
  [R.HIF_FN_ACT_SQ_COUNT, R.HIF_FN_ACT_CQ_COUNT, R.HIF_FN_ACT_VEC_BASE, R.HIF_FN_ACT_VEC_M1, R.HIF_FN_ACT_APPLY_ERR]⟩
/-- HIF_PF_QRANGE of 12_virtualization.md, offset 0x2000140 (R538). -/
def HIF_PF_QRANGE : RegD := ⟨106, 0x2000140, [(0x8, 8)], 64,
  [R.HIF_PF_QRANGE_SQ_FIRST, R.HIF_PF_QRANGE_SQ_NUM, R.HIF_PF_QRANGE_CQ_FIRST, R.HIF_PF_QRANGE_CQ_NUM]⟩
/-- HIF_NOTICE_CFG of 12_virtualization.md, offset 0x2000180 (R540). -/
def HIF_NOTICE_CFG : RegD := ⟨107, 0x2000180, [], 32,
  [R.HIF_NOTICE_CFG_CHAN, R.HIF_NOTICE_CFG_EN, R.HIF_NOTICE_CFG_DEV_EV]⟩
/-- HIF_NOTICE_STAT of 12_virtualization.md, offset 0x2000188 (R540). -/
def HIF_NOTICE_STAT : RegD := ⟨108, 0x2000188, [], 32,
  [R.HIF_NOTICE_STAT_WAITING, R.HIF_NOTICE_STAT_OVF, R.HIF_NOTICE_STAT_LOST]⟩
/-- HIF_FN_QCTL of 12_virtualization.md, offset 0x2030000 (R544). -/
def HIF_FN_QCTL : RegD := ⟨109, 0x2030000, [(0x4, 4096)], 32,
  [R.HIF_FN_QCTL_QUIESCE, R.HIF_FN_QCTL_RX_RETURN, R.HIF_FN_QCTL_QUIESCED, R.HIF_FN_QCTL_JOBS, R.HIF_FN_QCTL_RX_DROP]⟩
/-- HIF_MIR_CFG of 12_virtualization.md, offset 0x2040000 (R550). -/
def HIF_MIR_CFG : RegD := ⟨110, 0x2040000, [(0x40, 64)], 64,
  [R.HIF_MIR_CFG_FUNC, R.HIF_MIR_CFG_EN, R.HIF_MIR_CFG_CFG_ERR, R.HIF_MIR_CFG_GRAN, R.HIF_MIR_CFG_SIZE_LOG2]⟩
/-- HIF_MIR_BUF of 12_virtualization.md, offset 0x2040008 (R550). -/
def HIF_MIR_BUF : RegD := ⟨111, 0x2040008, [(0x40, 64), (0x8, 2)], 64,
  [R.HIF_MIR_BUF_BASE]⟩
/-- HIF_MIR_FLUSH of 12_virtualization.md, offset 0x2040018 (R550). -/
def HIF_MIR_FLUSH : RegD := ⟨112, 0x2040018, [(0x40, 64)], 64,
  [R.HIF_MIR_FLUSH_ADDR]⟩
/-- HIF_MIR_CTL of 12_virtualization.md, offset 0x2040020 (R550). -/
def HIF_MIR_CTL : RegD := ⟨113, 0x2040020, [(0x40, 64)], 32,
  [R.HIF_MIR_CTL_HARVEST, R.HIF_MIR_CTL_BUSY, R.HIF_MIR_CTL_ACTIVE, R.HIF_MIR_CTL_REFUSED, R.HIF_MIR_CTL_RESULT]⟩
/-- HIF_MIR_STAT of 12_virtualization.md, offset 0x2040028 (R550). -/
def HIF_MIR_STAT : RegD := ⟨114, 0x2040028, [(0x40, 64)], 64,
  [R.HIF_MIR_STAT_HARVESTED, R.HIF_MIR_STAT_LIVE, R.HIF_MIR_STAT_FULL]⟩
/-- BCN_CFG of 13_beacon_fabric.md, offset 0xA000000 (R551). -/
def BCN_CFG : RegD := ⟨115, 0xA000000, [], 64,
  [R.BCN_CFG_PREF_ID, R.BCN_CFG_PREF_V, R.BCN_CFG_PRIORITY, R.BCN_CFG_EN, R.BCN_CFG_RETRY_MAX, R.BCN_CFG_TTL, R.BCN_CFG_NOTIFY_EN, R.BCN_CFG_NOTIFY_CHAN, R.BCN_CFG_FABRIC_ID]⟩
/-- BCN_TMO of 13_beacon_fabric.md, offset 0xA000010 (R551). -/
def BCN_TMO : RegD := ⟨116, 0xA000010, [], 32,
  [R.BCN_TMO_REQ_TMO_MS, R.BCN_TMO_STALL_MS, R.BCN_TMO_ID_HOLD_S]⟩
/-- BCN_CNT of 13_beacon_fabric.md, offset 0xA000018 (R551). -/
def BCN_CNT : RegD := ⟨117, 0xA000018, [], 64,
  [R.BCN_CNT_NO_ROUTE, R.BCN_CNT_TTL_DROP, R.BCN_CNT_LATE_RSP, R.BCN_CNT_TIMEOUTS]⟩
/-- BCN_PORT_STAT of 13_beacon_fabric.md, offset 0xA000108 (R555). -/
def BCN_PORT_STAT : RegD := ⟨118, 0xA000108, [(0x20, 8)], 64,
  [R.BCN_PORT_STAT_STATE, R.BCN_PORT_STAT_WIDTH, R.BCN_PORT_STAT_LANES_OK, R.BCN_PORT_STAT_DIR, R.BCN_PORT_STAT_PEER_NODE, R.BCN_PORT_STAT_PEER_NODE_V, R.BCN_PORT_STAT_PEER_PORT, R.BCN_PORT_STAT_PEER_LEVEL]⟩
/-- BCN_PORT_ERR of 13_beacon_fabric.md, offset 0xA000110 (R555). -/
def BCN_PORT_ERR : RegD := ⟨119, 0xA000110, [(0x20, 8)], 64,
  [R.BCN_PORT_ERR_REPLAYS, R.BCN_PORT_ERR_BAD_FLITS, R.BCN_PORT_ERR_RETRAINS]⟩
/-- BCN_PORT_CFG of 13_beacon_fabric.md, offset 0xA000100 (R559). -/
def BCN_PORT_CFG : RegD := ⟨120, 0xA000100, [(0x20, 8)], 32,
  [R.BCN_PORT_CFG_EN, R.BCN_PORT_CFG_VC0_BUF, R.BCN_PORT_CFG_VC1_BUF, R.BCN_PORT_CFG_VC2_BUF, R.BCN_PORT_CFG_VC3_BUF]⟩
/-- BCN_NODE of 13_beacon_fabric.md, offset 0xA000008 (R576). -/
def BCN_NODE : RegD := ⟨121, 0xA000008, [], 64,
  [R.BCN_NODE_NODE, R.BCN_NODE_NODE_V, R.BCN_NODE_IS_COORD, R.BCN_NODE_COORD_V, R.BCN_NODE_COORD, R.BCN_NODE_LEVEL, R.BCN_NODE_TERM]⟩
/-- BCN_ROUTE of 13_beacon_fabric.md, offset 0xA010000 (R578). -/
def BCN_ROUTE : RegD := ⟨122, 0xA010000, [(0x8, 4096)], 64,
  [R.BCN_ROUTE_V, R.BCN_ROUTE_LOCK, R.BCN_ROUTE_HOPS, R.BCN_ROUTE_PORT_0, R.BCN_ROUTE_PORT_1, R.BCN_ROUTE_PORT_2, R.BCN_ROUTE_PORT_3, R.BCN_ROUTE_VU_0, R.BCN_ROUTE_VU_1, R.BCN_ROUTE_VU_2, R.BCN_ROUTE_VU_3, R.BCN_ROUTE_VD_0, R.BCN_ROUTE_VD_1, R.BCN_ROUTE_VD_2, R.BCN_ROUTE_VD_3]⟩
/-- BCN_GEN of 13_beacon_fabric.md, offset 0xA000020 (R582). -/
def BCN_GEN : RegD := ⟨123, 0xA000020, [], 32,
  [R.BCN_GEN_ROUTE_GEN]⟩
/-- LNS_OUT of 13_beacon_fabric.md, offset 0xB000000 (R583). -/
def LNS_OUT : RegD := ⟨124, 0xB000000, [(0x20, 256)], 256,
  [R.LNS_OUT_EN, R.LNS_OUT_RD, R.LNS_OUT_WR, R.LNS_OUT_LOCAL_BASE, R.LNS_OUT_LOCAL_LAST, R.LNS_OUT_NODE, R.LNS_OUT_REMOTE_BASE, R.LNS_OUT_NAK_CNT, R.LNS_OUT_LAST_REASON]⟩
/-- LNS_WR_DRAIN of 13_beacon_fabric.md, offset 0xB200010 (R586). -/
def LNS_WR_DRAIN : RegD := ⟨125, 0xB200010, [], 32,
  [R.LNS_WR_DRAIN_GO, R.LNS_WR_DRAIN_DONE]⟩
/-- LNS_IN of 13_beacon_fabric.md, offset 0xB010000 (R586). -/
def LNS_IN : RegD := ⟨126, 0xB010000, [(0x20, 1024)], 256,
  [R.LNS_IN_EN, R.LNS_IN_RD, R.LNS_IN_WR, R.LNS_IN_SRC_NODE, R.LNS_IN_SRC_MASK, R.LNS_IN_OFF_BASE, R.LNS_IN_OFF_LAST, R.LNS_IN_INT_BASE]⟩
/-- LNS_COMMIT of 13_beacon_fabric.md, offset 0xB200000 (R592). -/
def LNS_COMMIT : RegD := ⟨127, 0xB200000, [], 32,
  [R.LNS_COMMIT_GO, R.LNS_COMMIT_REFUSED]⟩
/-- LNS_STATUS of 13_beacon_fabric.md, offset 0xB200008 (R592). -/
def LNS_STATUS : RegD := ⟨128, 0xB200008, [], 64,
  [R.LNS_STATUS_EPOCH, R.LNS_STATUS_COMMIT_DONE, R.LNS_STATUS_OLD_PENDING]⟩
/-- LNS_CNT of 13_beacon_fabric.md, offset 0xB200018 (R592). -/
def LNS_CNT : RegD := ⟨129, 0xB200018, [], 64,
  [R.LNS_CNT_MISSES, R.LNS_CNT_FORCED]⟩
/-- LHS_FLT_STAT of 14_reliability.md, offset 0x1008 (R596). -/
def LHS_FLT_STAT : RegD := ⟨130, 0x1008, [], 64,
  [R.LHS_FLT_STAT_GUARANTEE, R.LHS_FLT_STAT_C_ENV, R.LHS_FLT_STAT_C_SCRUB, R.LHS_FLT_STAT_C_TEST, R.LHS_FLT_STAT_C_FW, R.LHS_FLT_STAT_C_MARGIN, R.LHS_FLT_STAT_DEGRADED, R.LHS_FLT_STAT_COUNT, R.LHS_FLT_STAT_OVF, R.LHS_FLT_STAT_MERGED]⟩
/-- LHS_UNIT_STAT of 14_reliability.md, offset 0x100000 (R599). -/
def LHS_UNIT_STAT : RegD := ⟨131, 0x100000, [(0x8, 65536)], 64,
  [R.LHS_UNIT_STAT_ROLE, R.LHS_UNIT_STAT_POWER, R.LHS_UNIT_STAT_EPOCH, R.LHS_UNIT_STAT_LOGICAL, R.LHS_UNIT_STAT_DEGRADED, R.LHS_UNIT_STAT_TRANSIENTS, R.LHS_UNIT_STAT_PERM_CNT]⟩
/-- LHS_FLT_HEAD of 14_reliability.md, offset 0x1010 (R603). -/
def LHS_FLT_HEAD : RegD := ⟨132, 0x1010, [], 128,
  [R.LHS_FLT_HEAD_WORD0, R.LHS_FLT_HEAD_WORD1]⟩
/-- LHS_FLT_POP of 14_reliability.md, offset 0x1020 (R603). -/
def LHS_FLT_POP : RegD := ⟨133, 0x1020, [], 32,
  [R.LHS_FLT_POP_TIME_LO, R.LHS_FLT_POP_POP]⟩
/-- LHS_NOTICE_CFG of 14_reliability.md, offset 0x1028 (R605). -/
def LHS_NOTICE_CFG : RegD := ⟨134, 0x1028, [], 32,
  [R.LHS_NOTICE_CFG_CLUSTER, R.LHS_NOTICE_CFG_CORE, R.LHS_NOTICE_CFG_EN, R.LHS_NOTICE_CFG_MGR_VEC, R.LHS_NOTICE_CFG_MGR_EN]⟩
/-- LHS_FLT_CFG of 14_reliability.md, offset 0x1000 (R607). -/
def LHS_FLT_CFG : RegD := ⟨135, 0x1000, [], 32,
  [R.LHS_FLT_CFG_RETRY_MAX]⟩
/-- LHS_FENCE_CNT of 14_reliability.md, offset 0x1030 (R617). -/
def LHS_FENCE_CNT : RegD := ⟨136, 0x1030, [], 32,
  [R.LHS_FENCE_CNT_DROPPED]⟩
/-- LHS_TEST_SCHED of 14_reliability.md, offset 0x2010 (R617). -/
def LHS_TEST_SCHED : RegD := ⟨137, 0x2010, [], 32,
  [R.LHS_TEST_SCHED_PERIOD_H, R.LHS_TEST_SCHED_EN]⟩
/-- LHS_TEST_REQ of 14_reliability.md, offset 0x2000 (R617). -/
def LHS_TEST_REQ : RegD := ⟨138, 0x2000, [], 32,
  [R.LHS_TEST_REQ_UNIT, R.LHS_TEST_REQ_DEADLINE_S, R.LHS_TEST_REQ_GO]⟩
/-- LHS_TEST_STAT of 14_reliability.md, offset 0x2008 (R617). -/
def LHS_TEST_STAT : RegD := ⟨139, 0x2008, [], 32,
  [R.LHS_TEST_STAT_STATE, R.LHS_TEST_STAT_RESULT]⟩
/-- LHS_FADE of 14_reliability.md, offset 0x3000 (R625). -/
def LHS_FADE : RegD := ⟨140, 0x3000, [(0x10, 40)], 64,
  [R.LHS_FADE_SLACK_PS, R.LHS_FADE_RO_MHZ, R.LHS_FADE_BASE_SLACK, R.LHS_FADE_BASE_RO, R.LHS_FADE_HOURS]⟩
/-- LHS_PLAN of 14_reliability.md, offset 0x3008 (R625). -/
def LHS_PLAN : RegD := ⟨141, 0x3008, [(0x10, 40)], 64,
  [R.LHS_PLAN_VSET_MV, R.LHS_PLAN_VFLOOR_MV, R.LHS_PLAN_FMAX, R.LHS_PLAN_STATE, R.LHS_PLAN_RESET_PLAN]⟩
/-- LHS_FADE_CFG of 14_reliability.md, offset 0x2800 (R625). -/
def LHS_FADE_CFG : RegD := ⟨142, 0x2800, [], 32,
  [R.LHS_FADE_CFG_GUARD_PS, R.LHS_FADE_CFG_HYST_PS, R.LHS_FADE_CFG_RUN]⟩
/-- LUM_CTL of 15_lumen_counters.md, offset 0xD000000 (R630). -/
def LUM_CTL : RegD := ⟨143, 0xD000000, [(0x100, 71), (0x10, 8)], 32,
  [R.LUM_CTL_EVENT, R.LUM_CTL_EN, R.LUM_CTL_CHAIN, R.LUM_CTL_OVF_IE, R.LUM_CTL_PL0, R.LUM_CTL_PL1, R.LUM_CTL_FILTER, R.LUM_CTL_SUB]⟩
/-- LUM_VAL of 15_lumen_counters.md, offset 0xD000008 (R631). -/
def LUM_VAL : RegD := ⟨144, 0xD000008, [(0x100, 71), (0x10, 8)], 64,
  [R.LUM_VAL_VALUE, R.LUM_VAL_PERR, R.LUM_VAL_SAT]⟩
/-- LUM_BLK_CTL of 15_lumen_counters.md, offset 0xD000080 (R631). -/
def LUM_BLK_CTL : RegD := ⟨145, 0xD000080, [(0x100, 71)], 32,
  [R.LUM_BLK_CTL_FREEZE, R.LUM_BLK_CTL_USER, R.LUM_BLK_CTL_CLEAR]⟩
/-- LUM_BLK_SAT of 15_lumen_counters.md, offset 0xD000088 (R631). -/
def LUM_BLK_SAT : RegD := ⟨146, 0xD000088, [(0x100, 71)], 32,
  [R.LUM_BLK_SAT_SAT, R.LUM_BLK_SAT_WRAP]⟩
/-- LUM_SNAP_CTL of 15_lumen_counters.md, offset 0xD020000 (R639). -/
def LUM_SNAP_CTL : RegD := ⟨147, 0xD020000, [], 32,
  [R.LUM_SNAP_CTL_GO, R.LUM_SNAP_CTL_BUSY, R.LUM_SNAP_CTL_REFUSED, R.LUM_SNAP_CTL_SEQ, R.LUM_SNAP_CTL_PERIOD_US]⟩
/-- LUM_SNAP_TIME of 15_lumen_counters.md, offset 0xD020008 (R639). -/
def LUM_SNAP_TIME : RegD := ⟨148, 0xD020008, [], 64,
  [R.LUM_SNAP_TIME_T]⟩
/-- LUM_GLOBAL_CTL of 15_lumen_counters.md, offset 0xD020010 (R640). -/
def LUM_GLOBAL_CTL : RegD := ⟨149, 0xD020010, [], 32,
  [R.LUM_GLOBAL_CTL_FREEZE_ALL, R.LUM_GLOBAL_CTL_CLEAR_ALL]⟩
/-- LHS_RIGHTS of 16_security_lifecycle.md, offset 0x4000 (R654). -/
def LHS_RIGHTS : RegD := ⟨150, 0x4000, [(0x8, 11)], 64,
  [R.LHS_RIGHTS_RIGHTS]⟩
/-- LHS_REFUSED of 16_security_lifecycle.md, offset 0x41C0 (R655). -/
def LHS_REFUSED : RegD := ⟨151, 0x41C0, [], 64,
  [R.LHS_REFUSED_COUNT, R.LHS_REFUSED_LAST_ACC, R.LHS_REFUSED_LAST_OFF]⟩
/-- LHS_OTP_STAT of 16_security_lifecycle.md, offset 0x4600 (R660). -/
def LHS_OTP_STAT : RegD := ⟨152, 0x4600, [(0x8, 64)], 64,
  [R.LHS_OTP_STAT_WRITTEN, R.LHS_OTP_STAT_VALID, R.LHS_OTP_STAT_WINNER, R.LHS_OTP_STAT_NONE, R.LHS_OTP_STAT_COUNT]⟩
/-- LHS_MBOX_CTL of 16_security_lifecycle.md, offset 0x4080 (R670). -/
def LHS_MBOX_CTL : RegD := ⟨153, 0x4080, [], 32,
  [R.LHS_MBOX_CTL_LEN, R.LHS_MBOX_CTL_GO, R.LHS_MBOX_CTL_BUSY, R.LHS_MBOX_CTL_REFUSED, R.LHS_MBOX_CTL_RESULT, R.LHS_MBOX_CTL_OP_INDEX]⟩
/-- LHS_LOG_STAT of 16_security_lifecycle.md, offset 0x4188 (R678). -/
def LHS_LOG_STAT : RegD := ⟨154, 0x4188, [], 64,
  [R.LHS_LOG_STAT_SEAL, R.LHS_LOG_STAT_SEAL_BUSY, R.LHS_LOG_STAT_NEAR_FULL, R.LHS_LOG_STAT_FULL, R.LHS_LOG_STAT_BROKEN, R.LHS_LOG_STAT_COUNT, R.LHS_LOG_STAT_SEQ]⟩
/-- LHS_KEY_CMD of 16_security_lifecycle.md, offset 0x40C0 (R681). -/
def LHS_KEY_CMD : RegD := ⟨155, 0x40C0, [], 32,
  [R.LHS_KEY_CMD_SLOT, R.LHS_KEY_CMD_OP, R.LHS_KEY_CMD_WRAP_SLOT, R.LHS_KEY_CMD_PERSIST, R.LHS_KEY_CMD_GO, R.LHS_KEY_CMD_BUSY, R.LHS_KEY_CMD_STATUS]⟩
/-- LHS_FW_CTL of 16_security_lifecycle.md, offset 0x4100 (R686). -/
def LHS_FW_CTL : RegD := ⟨156, 0x4100, [], 64,
  [R.LHS_FW_CTL_OP, R.LHS_FW_CTL_GO, R.LHS_FW_CTL_LIVE, R.LHS_FW_CTL_YIELD, R.LHS_FW_CTL_OPEN, R.LHS_FW_CTL_REFUSED, R.LHS_FW_CTL_ADDR, R.LHS_FW_CTL_YIELD_10MS, R.LHS_FW_CTL_CONFIRM_S]⟩
/-- LHS_FW_STAT of 16_security_lifecycle.md, offset 0x4108 (R686). -/
def LHS_FW_STAT : RegD := ⟨157, 0x4108, [], 64,
  [R.LHS_FW_STAT_STATE, R.LHS_FW_STAT_RESULT, R.LHS_FW_STAT_BANK, R.LHS_FW_STAT_SVN]⟩
/-- LHS_FW_HANDOVER of 16_security_lifecycle.md, offset 0x4110 (R686). -/
def LHS_FW_HANDOVER : RegD := ⟨158, 0x4110, [], 64,
  [R.LHS_FW_HANDOVER_ADDR]⟩
/-- PWR_BLK_CFG of 17_power_clocks_reset.md, offset 0x1000000 (R699). -/
def PWR_BLK_CFG : RegD := ⟨159, 0x1000000, [(0x8, 323)], 32,
  [R.PWR_BLK_CFG_FLOOR, R.PWR_BLK_CFG_DARK_MS]⟩
/-- PWR_BLK_STAT of 17_power_clocks_reset.md, offset 0x1001000 (R699). -/
def PWR_BLK_STAT : RegD := ⟨160, 0x1001000, [(0x8, 323)], 64,
  [R.PWR_BLK_STAT_POWER, R.PWR_BLK_STAT_ENTERING, R.PWR_BLK_STAT_WAKING, R.PWR_BLK_STAT_WAKE_DIM, R.PWR_BLK_STAT_WAKE_DARK]⟩
/-- PWR_PLL_STAT of 17_power_clocks_reset.md, offset 0x1002010 (R704). -/
def PWR_PLL_STAT : RegD := ⟨161, 0x1002010, [], 32,
  [R.PWR_PLL_STAT_RUNNING, R.PWR_PLL_STAT_LOCKED, R.PWR_PLL_STAT_LOSS]⟩
/-- PWR_TB_CFG of 17_power_clocks_reset.md, offset 0x1002018 (R706). -/
def PWR_TB_CFG : RegD := ⟨162, 0x1002018, [], 32,
  [R.PWR_TB_CFG_STEER_EN, R.PWR_TB_CFG_PTM_LINK, R.PWR_TB_CFG_MAX_PPM]⟩
/-- PWR_TB_STAT of 17_power_clocks_reset.md, offset 0x1002020 (R706). -/
def PWR_TB_STAT : RegD := ⟨163, 0x1002020, [], 64,
  [R.PWR_TB_STAT_RATE_PPB, R.PWR_TB_STAT_LOCKED]⟩
/-- PWR_TB_OFS of 17_power_clocks_reset.md, offset 0x1002028 (R706). -/
def PWR_TB_OFS : RegD := ⟨164, 0x1002028, [], 64,
  [R.PWR_TB_OFS_OFFSET]⟩
/-- PWR_DEV_RST of 17_power_clocks_reset.md, offset 0x1002000 (R711). -/
def PWR_DEV_RST : RegD := ⟨165, 0x1002000, [], 32,
  [R.PWR_DEV_RST_GO]⟩
/-- PWR_RST_CAUSE of 17_power_clocks_reset.md, offset 0x1002008 (R711). -/
def PWR_RST_CAUSE : RegD := ⟨166, 0x1002008, [], 32,
  [R.PWR_RST_CAUSE_LAST, R.PWR_RST_CAUSE_SOFT_CNT]⟩
/-- PWR_VID of 18_electrical_package.md, offset 0x1002100 (R720). -/
def PWR_VID : RegD := ⟨167, 0x1002100, [], 32,
  [R.PWR_VID_CODE, R.PWR_VID_VR_READY, R.PWR_VID_VR_TMO]⟩
/-- PWR_THERM_CFG of 18_electrical_package.md, offset 0x1002108 (R728). -/
def PWR_THERM_CFG : RegD := ⟨168, 0x1002108, [], 32,
  [R.PWR_THERM_CFG_THROTTLE_C]⟩
/-- PWR_ENV_STAT of 18_electrical_package.md, offset 0x1002110 (R728). -/
def PWR_ENV_STAT : RegD := ⟨169, 0x1002110, [], 64,
  [R.PWR_ENV_STAT_TJ_C, R.PWR_ENV_STAT_HOT_ISLAND, R.PWR_ENV_STAT_THROTTLE, R.PWR_ENV_STAT_TRIP, R.PWR_ENV_STAT_STEPS, R.PWR_ENV_STAT_RAIL]⟩
/-- LTN_CL_MAP of 02_lantern_cores.md, offset 0x10000000 (R70). -/
def LTN_CL_MAP : RegD := ⟨170, 0x10000000, [(0x1000000, 12)], 32,
  [R.LTN_CL_MAP_MAP]⟩
/-- LTN_GRP_MEMBERS of 02_lantern_cores.md, offset 0x10001000 (R70). -/
def LTN_GRP_MEMBERS : RegD := ⟨171, 0x10001000, [(0x1000000, 12), (0x10, 16)], 64,
  [R.LTN_GRP_MEMBERS_M0, R.LTN_GRP_MEMBERS_M1, R.LTN_GRP_MEMBERS_M2, R.LTN_GRP_MEMBERS_M3, R.LTN_GRP_MEMBERS_M4, R.LTN_GRP_MEMBERS_M5, R.LTN_GRP_MEMBERS_M6, R.LTN_GRP_MEMBERS_M7]⟩
/-- LTN_CL_IRQ_LATCH of 02_lantern_cores.md, offset 0x10002400 (R70). -/
def LTN_CL_IRQ_LATCH : RegD := ⟨172, 0x10002400, [(0x1000000, 12), (0x4, 8)], 32,
  [R.LTN_CL_IRQ_LATCH_LATCH]⟩
/-- LTN_CL_IRQ_SET of 02_lantern_cores.md, offset 0x10002420 (R70). -/
def LTN_CL_IRQ_SET : RegD := ⟨173, 0x10002420, [(0x1000000, 12), (0x4, 8)], 32,
  [R.LTN_CL_IRQ_SET_SET]⟩
/-- LTN_CORE_FLTQ_POP of 02_lantern_cores.md, offset 0x10100020 (R70). -/
def LTN_CORE_FLTQ_POP : RegD := ⟨174, 0x10100020, [(0x1000000, 12), (0x10000, 8)], 32,
  [R.LTN_CORE_FLTQ_POP_POP]⟩
/-- LTN_CORE_HB of 02_lantern_cores.md, offset 0x10100028 (R70). -/
def LTN_CORE_HB : RegD := ⟨175, 0x10100028, [(0x1000000, 12), (0x10000, 8)], 32,
  [R.LTN_CORE_HB_HB]⟩
/-- LTN_DBG_BP of 02_lantern_cores.md, offset 0x10100048 (R70). -/
def LTN_DBG_BP : RegD := ⟨176, 0x10100048, [(0x1000000, 12), (0x10000, 8), (0x8, 4)], 64,
  [R.LTN_DBG_BP_EN, R.LTN_DBG_BP_ADDR]⟩
/-- LTN_THR_PC of 02_lantern_cores.md, offset 0x10101008 (R70). -/
def LTN_THR_PC : RegD := ⟨177, 0x10101008, [(0x1000000, 12), (0x10000, 8), (0x100, 8)], 64,
  [R.LTN_THR_PC_PC]⟩
/-- LTN_THR_EVPEND of 02_lantern_cores.md, offset 0x10101010 (R70). -/
def LTN_THR_EVPEND : RegD := ⟨178, 0x10101010, [(0x1000000, 12), (0x10000, 8), (0x100, 8)], 32,
  [R.LTN_THR_EVPEND_PEND]⟩
/-- LTN_THR_EVOVR of 02_lantern_cores.md, offset 0x10101014 (R70). -/
def LTN_THR_EVOVR : RegD := ⟨179, 0x10101014, [(0x1000000, 12), (0x10000, 8), (0x100, 8)], 32,
  [R.LTN_THR_EVOVR_OVR]⟩
/-- LTN_THR_WAITMASK of 02_lantern_cores.md, offset 0x10101018 (R70). -/
def LTN_THR_WAITMASK : RegD := ⟨180, 0x10101018, [(0x1000000, 12), (0x10000, 8), (0x100, 8)], 32,
  [R.LTN_THR_WAITMASK_MASK]⟩
/-- LTN_THR_TIMER of 02_lantern_cores.md, offset 0x10101020 (R70). -/
def LTN_THR_TIMER : RegD := ⟨181, 0x10101020, [(0x1000000, 12), (0x10000, 8), (0x100, 8)], 64,
  [R.LTN_THR_TIMER_TIMER]⟩
/-- LTN_THR_DBGSEL of 02_lantern_cores.md, offset 0x10101040 (R70). -/
def LTN_THR_DBGSEL : RegD := ⟨182, 0x10101040, [(0x1000000, 12), (0x10000, 8), (0x100, 8)], 32,
  [R.LTN_THR_DBGSEL_SEL]⟩
/-- LTN_THR_DBGDATA of 02_lantern_cores.md, offset 0x10101048 (R70). -/
def LTN_THR_DBGDATA : RegD := ⟨183, 0x10101048, [(0x1000000, 12), (0x10000, 8), (0x100, 8)], 64,
  [R.LTN_THR_DBGDATA_DATA]⟩
/-- PSM_PROF_MISS of 05_prism_parse_classify.md, offset 0x6001100 (R249). -/
def PSM_PROF_MISS : RegD := ⟨184, 0x6001100, [(0x400000, 4), (0x10, 64)], 128,
  [R.PSM_PROF_MISS_REC]⟩
/-- PSM_RDDATA of 05_prism_parse_classify.md, offset 0x6002040 (R249). -/
def PSM_RDDATA : RegD := ⟨185, 0x6002040, [(0x400000, 4), (0x8, 8)], 64,
  [R.PSM_RDDATA_DATA]⟩
/-- PSM_UPD_OP of 05_prism_parse_classify.md, offset 0x6004000 (R249). -/
def PSM_UPD_OP : RegD := ⟨186, 0x6004000, [(0x400000, 4), (0x40, 256), (0x8, 8)], 64,
  [R.PSM_UPD_OP_DATA]⟩
/-- FWD_FLOW_OP of 06_forwarding_learning.md, offset 0x7011000 (R282). -/
def FWD_FLOW_OP : RegD := ⟨187, 0x7011000, [(0x50, 64), (0x8, 10)], 64,
  [R.FWD_FLOW_OP_DATA]⟩
/-- TM_IND_DATA of 07_traffic_management.md, offset 0x8000108 (R330). -/
def TM_IND_DATA : RegD := ⟨188, 0x8000108, [(0x8, 4)], 64,
  [R.TM_IND_DATA_DATA]⟩
/-- LUM_SNAP of 15_lumen_counters.md, offset 0xD010000 (R629). -/
def LUM_SNAP : RegD := ⟨189, 0xD010000, [(0x40, 71), (0x8, 8)], 64,
  [R.LUM_SNAP_VALUE, R.LUM_SNAP_SAT, R.LUM_SNAP_PERR]⟩
/-- LHS_NONCE of 16_security_lifecycle.md, offset 0x4088 (R655). -/
def LHS_NONCE : RegD := ⟨190, 0x4088, [(0x8, 4)], 64,
  [R.LHS_NONCE_NONCE]⟩
/-- LHS_MEAS of 16_security_lifecycle.md, offset 0x4200 (R655). -/
def LHS_MEAS : RegD := ⟨191, 0x4200, [(0x40, 9), (0x8, 8)], 64,
  [R.LHS_MEAS_MEAS]⟩
/-- LHS_IDENT of 16_security_lifecycle.md, offset 0x4800 (R655). -/
def LHS_IDENT : RegD := ⟨192, 0x4800, [(0x8, 8)], 64,
  [R.LHS_IDENT_IDENT]⟩
/-- LHS_MBOX_BUF of 16_security_lifecycle.md, offset 0x10000 (R655). -/
def LHS_MBOX_BUF : RegD := ⟨193, 0x10000, [(0x8, 8192)], 64,
  [R.LHS_MBOX_BUF_DATA]⟩
/-- LHS_LOG_WIN of 16_security_lifecycle.md, offset 0x20000 (R655). -/
def LHS_LOG_WIN : RegD := ⟨194, 0x20000, [(0x8, 32768)], 64,
  [R.LHS_LOG_WIN_DATA]⟩
/-- LNS_ACT_OUT of 13_beacon_fabric.md, offset 0xB100000 (R583). -/
def LNS_ACT_OUT : RegD := ⟨195, 0xB100000, [(0x20, 256)], 256,
  [R.LNS_ACT_OUT_EN, R.LNS_ACT_OUT_RD, R.LNS_ACT_OUT_WR, R.LNS_ACT_OUT_LOCAL_BASE, R.LNS_ACT_OUT_LOCAL_LAST, R.LNS_ACT_OUT_NODE, R.LNS_ACT_OUT_REMOTE_BASE, R.LNS_ACT_OUT_NAK_CNT, R.LNS_ACT_OUT_LAST_REASON]⟩
/-- LNS_ACT_IN of 13_beacon_fabric.md, offset 0xB110000 (R586). -/
def LNS_ACT_IN : RegD := ⟨196, 0xB110000, [(0x20, 1024)], 256,
  [R.LNS_ACT_IN_EN, R.LNS_ACT_IN_RD, R.LNS_ACT_IN_WR, R.LNS_ACT_IN_SRC_NODE, R.LNS_ACT_IN_SRC_MASK, R.LNS_ACT_IN_OFF_BASE, R.LNS_ACT_IN_OFF_LAST, R.LNS_ACT_IN_INT_BASE]⟩

end Reg

/-- The ETH_ registers. -/
def regsEth : List RegD :=
  [Reg.ETH_GRP_CFG, Reg.ETH_PORT_CFG, Reg.ETH_PORT_STAT, Reg.ETH_PORT_CNT]

/-- The LTN_ registers. -/
def regsLtn : List RegD :=
  [Reg.LTN_CL_CHLEASE, Reg.LTN_CORE_ISSUE, Reg.LTN_EVBIND, Reg.LTN_CL_IRQMAP, Reg.LTN_THR_IRQ, Reg.LTN_CH_CFG, Reg.LTN_CH_STAT, Reg.LTN_CORE_FLTQ_STAT, Reg.LTN_CORE_FLTQ_HEAD, Reg.LTN_CORE_HBCTL, Reg.LTN_CORE_ECL, Reg.LTN_GRP_CTL, Reg.LTN_THR_CTL, Reg.LTN_DBG_CTL, Reg.LTN_DMA_RING_CFG, Reg.LTN_DMA_RING_BASE, Reg.LTN_DMA_RING_STAT, Reg.LTN_CL_MAP, Reg.LTN_GRP_MEMBERS, Reg.LTN_CL_IRQ_LATCH, Reg.LTN_CL_IRQ_SET, Reg.LTN_CORE_FLTQ_POP, Reg.LTN_CORE_HB, Reg.LTN_DBG_BP, Reg.LTN_THR_PC, Reg.LTN_THR_EVPEND, Reg.LTN_THR_EVOVR, Reg.LTN_THR_WAITMASK, Reg.LTN_THR_TIMER, Reg.LTN_THR_DBGSEL, Reg.LTN_THR_DBGDATA]

/-- The MEM_ registers. -/
def regsMem : List RegD :=
  [Reg.MEM_SCRUB_CTL, Reg.MEM_ECC_CNT, Reg.MEM_ECC_LOG, Reg.MEM_TLBI_ARG, Reg.MEM_TLBI_CTL, Reg.MEM_PRI_TMO, Reg.MEM_XLF_CFG, Reg.MEM_XLF_RESP]

/-- The PRS_ registers. -/
def regsPrs : List RegD :=
  [Reg.PRS_PROF, Reg.PRS_SRC_PROF, Reg.PRS_NODE_LEN, Reg.PRS_NODE_NXT, Reg.PRS_TRANS, Reg.PRS_KEYX, Reg.PRS_EXCQ, Reg.PRS_CNT_A, Reg.PRS_CNT_B]

/-- The PSM_ registers. -/
def regsPsm : List RegD :=
  [Reg.PSM_BANK_CFG, Reg.PSM_RG, Reg.PSM_PROF_BANKS, Reg.PSM_VERIFY_STAT, Reg.PSM_SCRUB_STAT, Reg.PSM_UPD_CTL, Reg.PSM_PLACE, Reg.PSM_HOLD_STAT, Reg.PSM_RDSEL, Reg.PSM_PROF_MISS, Reg.PSM_RDDATA, Reg.PSM_UPD_OP]

/-- The FWD_ registers. -/
def regsFwd : List RegD :=
  [Reg.FWD_PSEL, Reg.FWD_CNT, Reg.FWD_VRF, Reg.FWD_LPM_DRAIN, Reg.FWD_FLOW_CFG, Reg.FWD_FLOW_SEED, Reg.FWD_FPROF, Reg.FWD_FLOW_CTL, Reg.FWD_FLOW_RES, Reg.FWD_FLOW_STAT, Reg.FWD_MAC_CFG, Reg.FWD_MAC_SEED, Reg.FWD_MAC_CMD, Reg.FWD_MAC_CMD_DATA, Reg.FWD_MAC_STAT, Reg.FWD_MAC_CNT, Reg.FWD_FLOW_OP]

/-- The TM_ registers. -/
def regsTm : List RegD :=
  [Reg.TM_OMAP, Reg.TM_IND_CTL, Reg.TM_CMAP_CTL, Reg.TM_CMAP_MAP, Reg.TM_BUF_STAT, Reg.TM_DROP_CNT, Reg.TM_WHEEL_STAT, Reg.TM_PKT_CMD, Reg.TM_PKT_ADDR, Reg.TM_PKT_STAT, Reg.TM_PKT_CFG, Reg.TM_IND_DATA]

/-- The GLT_ registers. -/
def regsGlt : List RegD :=
  [Reg.GLT_CFG, Reg.GLT_CL_STAT, Reg.GLT_ROOT, Reg.GLT_RNG_STAT, Reg.GLT_CTX_BASE, Reg.GLT_CTX_CMD, Reg.GLT_INLINE_CNT]

/-- The NVM_ registers. -/
def regsNvm : List RegD :=
  [Reg.NVM_CTRL_CFG, Reg.NVM_CFG, Reg.NVM_NSMAP_BASE, Reg.NVM_SLOT_BASE, Reg.NVM_STAGE, Reg.NVM_SVC_CHAN, Reg.NVM_STAT, Reg.NVM_DONE, Reg.NVM_FWACT]

/-- The HIF_ registers. -/
def regsHif : List RegD :=
  [Reg.HIF_PORT_CFG, Reg.HIF_LINK_STAT, Reg.HIF_PF_LINK, Reg.HIF_SLICE, Reg.HIF_APERTURE, Reg.HIF_FN_STAT, Reg.HIF_WAKE_CFG, Reg.HIF_PF_VF, Reg.HIF_FN_CFG, Reg.HIF_FN_ACT, Reg.HIF_PF_QRANGE, Reg.HIF_NOTICE_CFG, Reg.HIF_NOTICE_STAT, Reg.HIF_FN_QCTL, Reg.HIF_MIR_CFG, Reg.HIF_MIR_BUF, Reg.HIF_MIR_FLUSH, Reg.HIF_MIR_CTL, Reg.HIF_MIR_STAT]

/-- The QM_ registers. -/
def regsQm : List RegD :=
  [Reg.QM_CFG, Reg.QM_SQ, Reg.QM_CQ, Reg.QM_FW_CPL_CTL, Reg.QM_FW_CPL_DATA, Reg.QM_PF_EVT]

/-- The BCN_ registers. -/
def regsBcn : List RegD :=
  [Reg.BCN_CFG, Reg.BCN_TMO, Reg.BCN_CNT, Reg.BCN_PORT_STAT, Reg.BCN_PORT_ERR, Reg.BCN_PORT_CFG, Reg.BCN_NODE, Reg.BCN_ROUTE, Reg.BCN_GEN]

/-- The LNS_ registers. -/
def regsLns : List RegD :=
  [Reg.LNS_OUT, Reg.LNS_WR_DRAIN, Reg.LNS_IN, Reg.LNS_COMMIT, Reg.LNS_STATUS, Reg.LNS_CNT, Reg.LNS_ACT_OUT, Reg.LNS_ACT_IN]

/-- The LHS_ registers. -/
def regsLhs : List RegD :=
  [Reg.LHS_FLT_STAT, Reg.LHS_UNIT_STAT, Reg.LHS_FLT_HEAD, Reg.LHS_FLT_POP, Reg.LHS_NOTICE_CFG, Reg.LHS_FLT_CFG, Reg.LHS_FENCE_CNT, Reg.LHS_TEST_SCHED, Reg.LHS_TEST_REQ, Reg.LHS_TEST_STAT, Reg.LHS_FADE, Reg.LHS_PLAN, Reg.LHS_FADE_CFG, Reg.LHS_RIGHTS, Reg.LHS_REFUSED, Reg.LHS_OTP_STAT, Reg.LHS_MBOX_CTL, Reg.LHS_LOG_STAT, Reg.LHS_KEY_CMD, Reg.LHS_FW_CTL, Reg.LHS_FW_STAT, Reg.LHS_FW_HANDOVER, Reg.LHS_NONCE, Reg.LHS_MEAS, Reg.LHS_IDENT, Reg.LHS_MBOX_BUF, Reg.LHS_LOG_WIN]

/-- The LUM_ registers. -/
def regsLum : List RegD :=
  [Reg.LUM_CTL, Reg.LUM_VAL, Reg.LUM_BLK_CTL, Reg.LUM_BLK_SAT, Reg.LUM_SNAP_CTL, Reg.LUM_SNAP_TIME, Reg.LUM_GLOBAL_CTL, Reg.LUM_SNAP]

/-- The PWR_ registers. -/
def regsPwr : List RegD :=
  [Reg.PWR_BLK_CFG, Reg.PWR_BLK_STAT, Reg.PWR_PLL_STAT, Reg.PWR_TB_CFG, Reg.PWR_TB_STAT, Reg.PWR_TB_OFS, Reg.PWR_DEV_RST, Reg.PWR_RST_CAUSE, Reg.PWR_VID, Reg.PWR_THERM_CFG, Reg.PWR_ENV_STAT]

/-- Every register of the device register space. -/
def allRegs : List RegD :=
  regsEth ++ regsLtn ++ regsMem ++ regsPrs ++ regsPsm ++ regsFwd ++ regsTm ++ regsGlt ++ regsNvm ++ regsHif ++ regsQm ++ regsBcn ++ regsLns ++ regsLhs ++ regsLum ++ regsPwr

end Sys2Proof.Machine
end

