-- ==== Sys2Proof/Machine/State.lean ====
section
/-!
DEFINITION. The state of the device: plain data, one structure per chapter of the spec. Every field that a register table
gives lives in `State.regs`, the register file, under its field descriptor of Machine/Registers.lean; the structures below
hold what the spec gives the device beside its registers. Arrays are sparse canonical lists (`KMap`).
-/

namespace Sys2Proof.Machine

/-- Why a step stops with a fault. No meaning of this model ends in a fault: every command the spec lists has an effect. The one
constructor is kept for an access the spec says cannot exist; nobody raises it, which is safe. -/
inductive Fault where
  | noSuchAccess
  deriving DecidableEq, Repr

/-- Why a step is refused. `notModelled` is raised only by an arm of the dispatch that has no meaning yet (safe). -/
inductive Refusal where
  | notModelled (mnemonic : String)
  deriving DecidableEq, Repr

/-! ### Lantern cores (02, 03) -/

/-- The thread states of R68. -/
inductive TState where
  | off | run | wait | halt | faulted
  deriving DecidableEq, Repr

/-- The state code of R68. -/
def TState.code : TState → Nat
  | .off => 0 | .run => 1 | .wait => 2 | .halt => 3 | .faulted => 4

/-- A reservation held by a thread (R104, R105): channel ID and the timebase at which its lease expires. -/
structure Resv where
  chan  : Nat
  till  : Nat
  deriving DecidableEq, Repr

/-- A load of a thread from the Lens outbound region, waiting for its fabric answer (R152): request, RD, width in bytes, sign
extension, and the address the instruction used. -/
structure LensLoad where
  req  : Nat
  rd   : Reg5
  n    : Nat
  sext : Bool
  va   : Nat
  deriving DecidableEq, Repr

/-- A hardware thread (R66, R131). The event registers LTN_THR_EVPEND, LTN_THR_EVOVR, LTN_THR_WAITMASK and LTN_THR_TIMER
and DBG_CAUSE lie in the register file. -/
structure Thread where
  /-- Thread state (R68). -/
  st       : TState
  /-- General registers g0 to g31 (R129); g0 is never read from here. -/
  g        : Vector Word 32
  /-- Program counter (R130). -/
  pc       : Word
  /-- TSTAT.PL: PL1. -/
  pl1      : Bool
  /-- TSTAT.IE, the same bit as LTN_THR_IRQ.IE. -/
  ie       : Bool
  /-- TSTAT.EXA. -/
  exa      : Bool
  /-- TSTAT.XLATE. -/
  xlate    : Bool
  /-- LTN_THR_CTL.LEASE_LOST, mirrored in TSTAT (R106). -/
  leaseLost : Bool
  /-- The channel whose reservation was lost (EINFO of CH_LEASE_LOST). -/
  lostChan : Nat
  estat    : BitVec 32
  epc      : Word
  ecause   : Nat
  einfo    : Word
  evec     : Word
  escratch : Word
  prg      : Word
  eprg     : Word
  dmactx   : Word
  uperm    : Nat
  ptbr     : Word
  asid     : Nat
  /-- Staged words (R99), at most 8. -/
  stage    : List Word
  /-- Receive buffer (R159): the words of the last message received. -/
  rx       : List Word
  /-- The reservation held (R104). -/
  resv     : Option Resv
  /-- RD of the WAIT in which the thread is suspended. -/
  waitRd   : Reg5
  /-- A debug STEP is in force: the thread halts after one instruction (R122). -/
  stepping : Bool
  /-- A block instruction in progress: QFN, RD, RA, RB, RC (R191). -/
  blk      : Option (Nat × Reg5 × Reg5 × Reg5 × Reg5)
  /-- A load or block read from the Lens outbound region waits for the fabric. -/
  lens     : Option LensLoad
  /-- What the reads of a block instruction's present step have returned from the fabric, in order. -/
  lensIn   : List Bytes
  deriving DecidableEq, Repr

/-- A message of a channel (R95): data words, header bits and writer. -/
structure ChMsg where
  words   : List Word
  taint   : Bool
  tagFail : Bool
  writer  : Nat
  deriving DecidableEq, Repr

/-- The state of a slot of a channel ring: held by the reservation of a thread and unfilled (R104); committed and in flight to
its reader (R737); visible (R100); released unfilled (R106). -/
inductive SlotSt where
  | held (gtid : Nat) | flight | visible | void
  deriving DecidableEq, Repr

/-- A slot in use of a channel ring (R95). -/
structure Slot where
  seq : Nat
  st  : SlotSt
  msg : ChMsg
  deriving DecidableEq, Repr

/-- A record of a core's fault queue (R109). -/
structure FltRec where
  cls    : Nat
  thread : Nat
  info   : Nat
  deriving DecidableEq, Repr

/-- A cached translation of a thread MMU (R218). -/
structure TlbEnt where
  asid   : Nat
  glob   : Bool
  /-- Virtual page number at the size of the leaf: VA >> shift. -/
  vpn    : Nat
  /-- 12, 21 or 30 (R215). -/
  shift  : Nat
  /-- Physical address of the page. -/
  pa     : Nat
  r      : Bool
  w      : Bool
  x      : Bool
  u      : Bool
  deriving DecidableEq, Repr

/-- A logical core beside its registers and threads. -/
structure Core where
  /-- The core's fault queue (R110), oldest first, at most 16 records. -/
  fltq    : List FltRec
  /-- The core stopped issuing after a fault of t0's own handler (R111). -/
  failed  : Bool
  /-- Lighthouse holds the outputs of the unit that serves the core: it issues nothing (R613). -/
  gated   : Bool
  /-- Timebase at which the present heartbeat period began, while the check runs (R112). -/
  hbStart : Option Nat
  /-- PERIOD_US in force for the present period (R112). -/
  hbPeriod : Nat
  /-- Translations cached by the core's TLBs (R218). -/
  tlb     : List TlbEnt
  deriving DecidableEq, Repr

/-- An entry of the address translation cache (R222). -/
structure AtcEnt where
  pg    : HPage
  /-- Size as a power of two of bytes, 12 to 30. -/
  size  : Nat
  /-- Translated address of the page. -/
  base  : Nat
  r     : Bool
  w     : Bool
  deriving DecidableEq, Repr

/-- What a job's data movement waits for at the host side (R224, R225). -/
inductive TWait where
  | transReq | pageReq | pageSlot
  deriving DecidableEq, Repr

/-- A translation or page request outstanding or waiting for a slot (R224, R225). -/
structure TReq where
  pg     : HPage
  /-- Permissions that the waiting requests need. -/
  needR  : Bool
  needW  : Bool
  wait   : TWait
  /-- A page request has already been answered Success for this page (R224). -/
  again  : Bool
  /-- An invalidation overlapped while the request was outstanding: its completion is discarded (R226). -/
  stale  : Bool
  /-- Tag of the translation request, and the timebase at which the request in progress was issued. -/
  tag    : Nat
  since  : Nat
  deriving DecidableEq, Repr

/-- Where a job's completion goes (R61): an SQ with the ring index of its descriptor, a DMA completion ring of a cluster with
the sequence number, or an NVMe command slot. The others name data movements of the queue manager itself: the write of a
completion entry (R521) with its IRQ_NOW, that of an NVMe controller for a command by its number (R419), the delivery of a frame to a receive queue (R516) with the ring index of its buffer, and
the flush read of a Mirror log (R549). -/
inductive Origin where
  | sq (q idx : Nat)
  | ring (cluster ring seq : Nat)
  | slot (n : Nat)
  | cpl (c : Nat) (now : Bool)
  | ncpl (c id : Nat)
  | rx (q idx : Nat)
  | flush (m : Nat)
  deriving DecidableEq, Repr

/-- One side of a job's data movement: nothing, host memory under the job's function and PASID, or internal addresses of the
submitter, each as a list of ranges in order (R504, R168, R384), or a channel (R399). -/
inductive Side where
  | none_
  | host (l : List (Nat × Nat))
  | inner (l : List (Nat × Nat))
  | chan (c : Nat)
  deriving DecidableEq, Repr

/-- A job, DMA transfer or other data movement in the device (R58, R61, R168, R384). Bytes are read from `src` into `input`, and
`output` is written to `dst`, each in order (R227). -/
structure Job where
  origin  : Origin
  /-- OPC of the descriptor; 0xFE for DMAQ (R522). -/
  opc     : Nat
  /-- The 64 descriptor bytes; for DMAQ, empty. -/
  desc    : Bytes
  /-- Function whose host addresses the job uses, with PASID and privileged-mode attribute. -/
  fn      : Option Nat
  pasid   : Option Nat
  pmr     : Bool
  /-- Submitting thread, for DMAQ and CRYPT JOB. -/
  gtid    : Option Nat
  /-- The submitter's XLATE, PL1, PTBR and ASID at submission (R232). -/
  xlate   : Bool
  pl1     : Bool
  ptbr    : Word
  asid    : Nat
  /-- ORDER of the control word (R168), and USER_TAG. -/
  order   : Bool
  userTag : Nat
  /-- CRYPT JOB: output channel (R167). -/
  outChan : Option Nat
  src     : Side
  dst     : Side
  /-- The transfer has started (R168 ORDER). -/
  started : Bool
  /-- Source bytes asked for so far, and the data read, by offset. -/
  got     : Nat
  input   : Bytes
  /-- The job's output so far, and the destination bytes written in order (R229). -/
  output  : Bytes
  done    : Nat
  /-- From this offset of the output on, data is sent poisoned (R55). -/
  badFrom : Option Nat
  /-- A host request has been issued (R477). -/
  issued  : Bool
  /-- Torn by a clear of Bus Master Enable (R477). -/
  torn    : Bool
  /-- Status found first (R59); `none` while no condition arose. -/
  status  : Option Nat
  /-- AUX of the completion entry (R396, R516). -/
  aux     : Nat
  /-- Local-side hold number and the reason, when the transfer is held (R230). -/
  hold    : Option Nat
  /-- The output written is being zeroed, and the status posted after that (R396, R402); zeroing writes left out set `incomplete`
  (R397). -/
  scrub   : Option Nat
  zeroed  : Nat
  incomplete : Bool
  /-- Glint: the pass over the input that is in progress (R398), the bytes that an OK job writes, whether the tag has been found good
  (or none is checked), whether segments to a channel carry TAINT (R399), and since when the channel has had no room (R401). -/
  pass    : Nat
  total   : Nat
  passed  : Bool
  taint   : Bool
  stall   : Option Nat
  /-- Logical Glint cluster that works on the job (R386). -/
  cluster : Option Nat
  /-- The frame that a receive-queue delivery carries. -/
  frame   : Option Nat
  /-- The source is the fragment table of a CRYPT JOB's descriptor, not yet read (R384, R504). -/
  table   : Bool
  deriving DecidableEq, Repr

/-- Why the completion of a host read is to be discarded: Bus Master Enable was cleared (R477), or the request timed out or its
function was reset (R475, R480). -/
inductive Dead where
  | no | bme | late
  deriving DecidableEq, Repr

/-- A host read outstanding (R474): job, place in its buffer, length, function, the translation it was issued with, and when. -/
structure HRead where
  job   : Nat
  off   : Nat
  len   : Nat
  fn    : Nat
  via   : Option HPage
  since : Nat
  dead  : Dead
  deriving DecidableEq, Repr


/-! ### Frames and the packet buffer (01, 05, 06, 07) -/

/-- Where forwarding sends a frame (R286, R290, R331). -/
inductive Dest where
  | eth (lane : Nat) | hostq (q : Nat) | fabric (node : Nat)
  deriving DecidableEq, Repr

/-- A frame in the device: its bytes without FCS (R235), and what the passes through Prism, forwarding and metering found. -/
structure Pkt where
  /-- Packet handle (R356). -/
  handle  : Nat
  /-- Pipeline of the present pass. -/
  pipe    : Nat
  /-- Source code of the first pass (R234). -/
  src     : Nat
  data    : Bytes
  /-- KIND and DEST of the learned location (R317); KIND 0 where nothing is learned. -/
  locKind : Nat
  locDest : Nat
  /-- Passes through Glint so far (R248). -/
  recirc  : Nat
  /-- Profile of the last pass. -/
  prof    : Nat
  /-- Profile that the next pass takes in place of PRS_SRC_PROF: RECIRC_PROF or INJ_PROF (R240, R358). -/
  forced  : Option Nat
  /-- The frame returns by a REPARSE command that is still BUSY (R358). -/
  reparse : Bool
  /-- Header records: node and byte offset (R233). -/
  hdrs    : List (Nat × Nat)
  /-- The 640-bit key, with the metadata word (R248). -/
  key     : Nat
  /-- Pre-filter byte (R250). -/
  pf      : Nat
  /-- Logical bank and row of the winning entry (R233). -/
  win     : Option (Nat × Nat)
  /-- The action record in force (R255). -/
  act     : Nat
  dest    : Option Dest
  /-- Destination MAC to write at egress (R290). -/
  rewrite : Option Nat
  /-- EGRESS_PROF of the next hop (R290). -/
  egress  : Nat
  /-- First flow hash (R291). -/
  h       : Nat
  /-- 0 green, 1 yellow, 2 red (R339). -/
  colour  : Nat
  /-- First carry segment whose carry check mismatches, once found (R56). -/
  badSeg  : Option Nat
  deriving DecidableEq, Repr

/-- A frame with no result of a pass. -/
def Pkt.fresh : Pkt where
  handle := 0
  pipe := 0
  src := 0
  data := []
  locKind := 0
  locDest := 0
  recirc := 0
  prof := 0
  forced := none
  reparse := false
  hdrs := []
  key := 0
  pf := 0
  win := none
  act := 0
  dest := none
  rewrite := none
  egress := 0
  h := 0
  colour := 0
  badSeg := none

/-- A frame held for firmware (R357). -/
structure HeldPkt where
  pkt   : Pkt
  since : Nat
  deriving DecidableEq, Repr

/-- The packet buffer. -/
structure PktBuf where
  /-- Generation of each cell (R356). -/
  gen    : KMap Nat
  /-- First cells of the frames in the buffer. -/
  used   : KMap Bool
  /-- Frames at the input of each pipeline, not yet in its input queue (R275). -/
  arrive : KMap (List Pkt)
  /-- Frames held for firmware, by packet handle (R357). -/
  held   : KMap HeldPkt
  deriving DecidableEq, Repr

/-- The packet buffer after reset. -/
def PktBuf.fresh : PktBuf := ⟨[], [], [], []⟩

/-! ### Prism (05) -/

/-- A row of the associative array: one unit of value and mask, and the VALID bit (R251). -/
structure PsmRow where
  value : Nat
  mask  : Nat
  valid : Bool
  deriving DecidableEq, Repr

/-- A row of the shadow store (R258); `bad`: it reads poisoned. -/
structure PsmShadow where
  value : Nat
  mask  : Nat
  valid : Bool
  band  : Nat
  act   : Nat
  bad   : Bool
  deriving DecidableEq, Repr

/-- The Prism of one pipeline beside its registers. -/
structure Prism where
  /-- The associative array, by 2,048 × physical bank + row. -/
  arr     : KMap PsmRow
  /-- The shadow store, by 2,048 × logical bank + row. -/
  shadow  : KMap PsmShadow
  /-- Dead and suspect entries, by 2,048 × logical bank + first row (R259, R262). -/
  dead    : KMap Bool
  suspect : KMap Bool
  /-- The staged registers' values in force, by `Fld.key` (R266). -/
  cfg     : KMap Nat
  /-- The staged state taken at the moment the hold began (R266). -/
  next    : KMap Nat
  hold    : Bool
  /-- Operations of the batch in progress (R270). -/
  batch   : Option Nat
  /-- A placement search in progress (R273). -/
  placing : Bool
  /-- Logical banks out of service for a test (R278). -/
  outOf   : List Nat
  /-- Row that the scrubber visits next (R263). -/
  scrub   : Nat
  /-- The input queue (R275), frames parsed and not searched, and frames searched that forwarding has not decided. -/
  inq     : List Pkt
  parsed  : List Pkt
  acted   : List Pkt
  deriving DecidableEq, Repr

/-- The Prism of a pipeline after reset. -/
def Prism.fresh : Prism where
  arr := []
  shadow := []
  dead := []
  suspect := []
  cfg := []
  next := []
  hold := false
  batch := none
  placing := false
  outOf := []
  scrub := 0
  inq := []
  parsed := []
  acted := []

/-! ### Forwarding (06) -/

/-- A whole-entry write of a cuckoo chain not yet performed: slot, entry bytes, and whether it is a move (R305). -/
structure ChainStep where
  slot : Nat
  data : Bytes
  from_ : Option Nat
  deriving DecidableEq, Repr

/-- An item of a learn queue (R318): a learn record (MAC and FD, KIND, DEST) or a command (OP, data). -/
inductive LearnItem where
  | learn (key kind dest : Nat)
  | cmd (op data : Nat)
  deriving DecidableEq, Repr

/-- The learn engine of one pipeline. -/
structure LearnEng where
  queue   : List LearnItem
  /-- Writes of the insertion in progress (R305). -/
  chain   : List ChainStep
  /-- The command whose insertion is in progress. -/
  cmdBusy : Bool
  /-- Hit array, by slot (R315). -/
  hits    : KMap Bool
  /-- Timebase of the last sweep and of the last tick (R322, R326). -/
  sweepAt : Nat
  reconAt : Nat
  deriving DecidableEq, Repr

/-- The forwarding block. -/
structure Fwd where
  /-- Lower halves of next-hop entries held by a store (R292). -/
  nhHeld  : KMap Bytes
  learn   : KMap LearnEng
  /-- The flow engine: the next operation of the batch, its number of operations, and the chain in progress (R313, R305). -/
  flowOp  : Option (Nat × Nat)
  flowChain : List ChainStep
  /-- A drain is in progress (R300). -/
  drain   : Bool
  deriving DecidableEq, Repr

/-- The learn engine after reset. -/
def LearnEng.fresh : LearnEng := ⟨[], [], false, [], 0, 0⟩

/-- Forwarding after reset. -/
def Fwd.fresh : Fwd := ⟨[], [], none, [], false⟩

/-! ### Traffic manager (07) -/

/-- A meter record (R337, R338). Tokens in 1/65,536 byte, with the remainder in 1/15,625 of that grain. -/
structure Meter where
  w0     : Nat
  w1     : Nat
  tc     : Nat
  te     : Nat
  remC   : Nat
  remE   : Nat
  last   : Nat
  green  : Nat
  yellow : Nat
  red    : Nat
  /-- A write with EN = 1 has been made. -/
  filled : Bool
  bad    : Bool
  deriving DecidableEq, Repr

/-- Where an ineligible entity waits (R353): fine slot, coarse slot, or on no wheel. -/
inductive Wheel where
  | fine (slot : Nat) | coarse (slot : Nat) | none_
  deriving DecidableEq, Repr

/-- An entity of the scheduling hierarchy (R345, R351). Credit in 1/65,536 byte. -/
structure Ent where
  w0      : Nat
  w1      : Nat
  credit  : Int
  rem     : Nat
  last    : Nat
  deficit : Nat
  drops   : Nat
  /-- Ineligible: the shaper does not permit selection (R351), and its eligibility time. -/
  wait    : Option Nat
  bad     : Bool
  /-- Leaf: frames, oldest first, and cells held. -/
  frames  : List Pkt
  fill    : Nat
  deriving DecidableEq, Repr

/-- A ring of the enabled children of one PRIO: the children in fixed order, and the one the pointer is on (R346). -/
structure Ring where
  kids : List Nat
  cur  : Nat
  deriving DecidableEq, Repr

/-- An entity on a wheel, in the order of placement: entity and place. -/
structure OnWheel where
  ent   : Nat
  place : Wheel
  deriving DecidableEq, Repr

/-- A held-frame command in progress (R358): done with a status, or waiting for its frame to be placed. -/
inductive PktCmd where
  | done (status : Nat) | placing
  deriving DecidableEq, Repr

/-- The traffic manager. -/
structure Tm where
  /-- Frames that forwarding has handed over, per pipeline (R330). -/
  inq    : KMap (List Pkt)
  meters : KMap Meter
  /-- Entities, by 2^20 × level + index; level 0 root, 4 leaf. -/
  ents   : KMap Ent
  /-- Rings, by 8 × parent entity + PRIO. -/
  rings  : KMap Ring
  wheel  : List OnWheel
  /-- The next fine slot that has not been reached (R354). -/
  fineAt : Nat
  cmd    : Option PktCmd
  /-- Frames handed over to the host interface, by receive queue (R347). -/
  rxq    : KMap (List Pkt)
  deriving DecidableEq, Repr

/-- A meter record never written. -/
def Meter.fresh : Meter := ⟨0, 0, 0, 0, 0, 0, 0, 0, 0, 0, false, false⟩

/-- A hierarchy record never written. -/
def Ent.fresh : Ent := ⟨0, 0, 0, 0, 0, 0, 0, none, false, [], 0⟩

/-- The traffic manager after reset. -/
def Tm.fresh : Tm := ⟨[], [], [], [], [], 0, none, []⟩

/-! ### Beacon fabric and Lens (13) -/

/-- The content of a management packet of Beacon (R572 to R576, R580); its byte layout is not laid down (log entry 40). -/
inductive Mgmt where
  | hello (h : Hello)
  | beat (term prio serial seq : Nat)
  | idReq (serial : Nat) (pref : Option Nat) (reg : Bool) (path : List Nat)
  | idReply (serial : Nat) (id : Option Nat) (path : List Nat)
  | dist (first : Nat) (dn any : List Nat)
  deriving DecidableEq, Repr

/-- A fabric packet (R563 to R565). -/
structure FPkt where
  ptype  : Nat
  ttl    : Nat
  down   : Bool
  src    : Nat
  dst    : Nat
  hash   : Nat
  tag    : Nat
  reason : Nat
  off    : Nat
  rlen   : Nat
  data   : Bytes
  /-- Poison mask: bit i marks carry segment i (R565). -/
  poison : Nat
  /-- Content, for a management packet that this device sends. -/
  mgmt   : Option Mgmt
  deriving DecidableEq, Repr

/-- A packet waiting on an output port, and whether it has been routed again under R558. -/
structure FOut where
  pkt   : FPkt
  again : Bool
  deriving DecidableEq, Repr

/-- A PAYLOAD flit sent and not acknowledged (R557). -/
structure TxFlit where
  seq   : Nat
  sent  : Nat
  tries : Nat
  deriving DecidableEq, Repr

/-- A packet received on a port and not yet handled, with the window epoch in which it arrived (R589). -/
structure FIn where
  pkt   : FPkt
  epoch : Nat
  deriving DecidableEq, Repr

/-- A fabric port beside its registers. -/
structure FPort where
  /-- Packets waiting per virtual channel, oldest first. -/
  outq   : KMap (List FOut)
  /-- Credit held per virtual channel, in 64-byte units, and credit owed to the peer (R553, R561). -/
  credit : KMap Nat
  owed   : KMap Nat
  /-- The next SEQ, the flits unacknowledged, and the bytes of the flit being filled (R554, R557). -/
  seq    : Nat
  unack  : List TxFlit
  fill   : Nat
  /-- The SEQ awaited, and the time of the last NAK of an episode (R556). -/
  expect : Nat
  nakAt  : Option Nat
  /-- VC0 or VC2 had the last turn (R561). -/
  last2  : Bool
  /-- Packets received per virtual channel. -/
  inq    : KMap (List FIn)
  /-- When training began (R558). -/
  since  : Nat
  /-- The link has been trained since it last was DOWN. -/
  linked : Bool
  /-- Since when a virtual channel has held no credit, and those reported (R562). -/
  empty  : KMap Nat
  told   : KMap Bool
  /-- Good lanes of the peer. -/
  peerLanes : Nat
  /-- The peer's last HELLO since training, and the HELLO last sent with its time (R572). -/
  peer   : Option Hello
  mine   : Option Hello
  mineAt : Nat
  /-- The peer's distances by destination (R580); an unlisted destination is unreachable. -/
  dn     : KMap Nat
  any    : KMap Nat
  deriving DecidableEq, Repr

/-- A port that is DOWN. -/
def FPort.fresh : FPort where
  outq := []
  credit := []
  owed := []
  seq := 0
  unack := []
  fill := 0
  expect := 0
  nakAt := none
  last2 := false
  inq := []
  since := 0
  linked := false
  empty := []
  told := []
  peerLanes := 15
  peer := none
  mine := none
  mineAt := 0
  dn := []
  any := []

/-- Who waits on a fabric request: a thread's load, a posted store, or a job with the place of the data in its buffer. -/
inductive FOrig where
  | load (gtid : Nat)
  | store
  | job (j off : Nat)
  deriving DecidableEq, Repr

/-- A request outstanding (R567). -/
structure FReq where
  write : Bool
  dst   : Nat
  /-- Outbound window that translated it (R584, R586). -/
  win   : Nat
  len   : Nat
  orig  : FOrig
  time  : Nat
  deriving DecidableEq, Repr

/-- A node ID granted by this coordinator (R576): its device, since when it is not reachable, and the port and path by which its
request came; `none` for the coordinator itself. -/
structure IdGrant where
  serial : Nat
  gone   : Option Nat
  via    : Option (Nat × List Nat)
  deriving DecidableEq, Repr

/-- The fabric. -/
structure Fabric where
  /-- Ports 0 to 7; index 8 holds the requests that the device sends to itself (R585). -/
  ports   : KMap FPort
  /-- Best candidate known, as PRIORITY and serial number, and since when (R573). -/
  cand    : Option (Nat × Nat)
  candAt  : Nat
  /-- The newest term heard (R573). -/
  heard   : Nat
  /-- Key of the accepted coordinator, and when its last heartbeat was accepted (R574). -/
  coord   : Option (Nat × Nat)
  beatAt  : Nat
  /-- As coordinator: sequence number of the next heartbeat and when the last was sent. -/
  beatSeq : Nat
  sentAt  : Nat
  /-- The newest heartbeat seen, by serial number: term and sequence number. -/
  seen    : KMap (Nat × Nat)
  /-- IDs granted, as coordinator. -/
  grants  : KMap IdGrant
  /-- The node ID last held (R576), kept in the Ember domain. -/
  lastId  : Option Nat
  /-- A request for an ID, or a registration, is owed; when the last refusal came (R576). -/
  wantId  : Bool
  refused : Option Nat
  /-- Own distances (R580). -/
  dn      : KMap Nat
  any     : KMap Nat
  /-- Distances changed since they were last sent, and when they were last sent in full. -/
  dirty   : Bool
  distAt  : Nat
  /-- Requests outstanding by tag, and tags that may not be used again before a time (R569). -/
  reqs    : KMap FReq
  tagHold : KMap Nat
  /-- Old window set, by `Fld.key`, kept since the last commit, and when that was (R588, R590). -/
  old     : KMap Nat
  commitAt : Nat
  /-- Writes that the last drain waits for (R586). -/
  drain   : List Nat
  deriving DecidableEq, Repr

/-- The fabric after power-on reset. -/
def Fabric.fresh : Fabric where
  ports := []
  cand := none
  candAt := 0
  heard := 0
  coord := none
  beatAt := 0
  beatSeq := 0
  sentAt := 0
  seen := []
  grants := []
  lastId := none
  wantId := false
  refused := none
  dn := []
  any := []
  dirty := false
  distAt := 0
  reqs := []
  tagHold := []
  old := []
  commitAt := 0
  drain := []
/-! ### Host interface (10), queues (11), virtual functions (12) -/

/-- The configuration-space settings of a function that the device acts on (R460, R466 to R474, R477, R484 to R490). -/
structure FnCfg where
  /-- Bus Master Enable. -/
  bme      : Bool
  /-- Memory Space Enable of the function; for a VF the governing bit is `vfMse` of its PF (R457). -/
  mse      : Bool
  vfMse    : Bool
  msixEn   : Bool
  /-- Function Mask of MSI-X (R466). -/
  fnMask   : Bool
  /-- Interrupt Disable (R468). -/
  intxDis  : Bool
  pasidEn  : Bool
  privEn   : Bool
  atsEn    : Bool
  /-- Smallest Translation Unit, as a power of two of 4 KiB (R470). -/
  stu      : Nat
  priEn    : Bool
  /-- PRI stopped by a Response Failure (R225). -/
  priStop  : Bool
  /-- Outstanding Page Request Allocation (R225). -/
  priAlloc : Nat
  pmeEn    : Bool
  pmeStat  : Bool
  /-- Completion Timeout Value (R474). -/
  cplTo    : Nat
  /-- Enable Relaxed Ordering (R463). -/
  ro       : Bool
  /-- Max_Payload_Size and Max_Read_Request_Size, as powers of two of 128 bytes. -/
  mps      : Nat
  mrrs     : Nat
  /-- SR-IOV VF Enable and NumVFs (PFs). -/
  vfEn     : Bool
  numVfs   : Nat
  /-- NumVFs when VF Enable was last set (R448). -/
  vfNums   : Nat
  /-- PTM Enable and ASPM L1 enable (function 0 of a link). -/
  ptmEn    : Bool
  aspmL1   : Bool
  /-- Vectors masked by INTMS of an NVMe controller (R469). -/
  intms    : List Nat
  /-- AER status bits recorded (R476), by condition number of the rows of R476; sticky over FLR (R480). -/
  aer      : List Nat
  deriving DecidableEq, Repr

/-- An MSI-X table entry (R465). -/
structure MsixEnt where
  addr : Nat
  data : Nat
  mask : Bool
  deriving DecidableEq, Repr

/-- An Invalidate Request not yet answered (R226): function, tag, and the reads issued with removed translations. -/
structure Inval where
  fn    : Nat
  tag   : Nat
  reads : List Nat
  deriving DecidableEq, Repr

/-- Power state of a host link (R488). -/
inductive LinkPm where
  | l0 | l1 | l0pHalf
  deriving DecidableEq, Repr

/-- A descriptor fetched for an SQ and not yet completed (R510). -/
structure FDesc where
  /-- Free-running ring index of the descriptor. -/
  idx    : Nat
  bytes  : Bytes
  /-- The read of the descriptor failed with this status (R506). -/
  bad    : Option Nat
  /-- The checks of R505 have passed and the descriptor waits to be handed on. -/
  passed : Bool
  /-- Fragments of its data after the checks (R504). -/
  frags  : List (Nat × Nat)
  deriving DecidableEq, Repr

/-- What the queue manager keeps for an SQ beside its record. -/
structure SqRun where
  /-- Descriptors fetched and not handed on, in ring order. -/
  fetched : List FDesc
  /-- RECV: RX_POST descriptors posted and not consumed, oldest first (R517). -/
  posted  : List FDesc
  /-- WRR credit of the present round (R514). -/
  credit  : Nat
  /-- FW: a commit to the queue's channel returned FULL and is retried (R519). -/
  waiting : Bool
  /-- FW: descriptors delivered to firmware and not yet completed. -/
  fwOut   : Nat
  deriving DecidableEq, Repr

/-- What the queue manager keeps for a CQ beside its record. -/
structure CqRun where
  /-- Spilled entries written to the spill area so far, modulo 1,024: place of the next one (R524). -/
  spillAt : Nat
  /-- Entries written to the ring since the last message, and when the first was (R523). -/
  since   : Nat
  first   : Option Nat
  /-- IRQ_NOW of the entries in the spill area, oldest first. -/
  nows    : List Bool
  deriving DecidableEq, Repr

/-- What a Mirror log keeps beside its registers (R548): the granules recorded last, newest first. -/
structure MirRun where
  filter : List (Nat × Option Nat)
  /-- The harvested buffer overflowed; the flush read of the harvest in progress, and when that began (R549). -/
  full   : Bool
  job    : Option Nat
  began  : Nat
  deriving DecidableEq, Repr

/-- The host interface. -/
structure Hif where
  fns     : KMap FnCfg
  /-- MSI-X entries, keyed 2,048 × function + vector. -/
  msix    : KMap MsixEnt
  /-- Pending bits, by the same key. -/
  pend    : KMap Bool
  /-- PFs with an Assert_INTA outstanding (R468). -/
  intx    : List Nat
  /-- HIF_PORT_CFG in force per port: BIFUR, MAX_RATE, FLIT_EN (R449). -/
  portAct : KMap (Nat × Nat × Nat)
  /-- HIF_PF_LINK in force per PF: link code, EN (R451). -/
  pfAct   : KMap (Nat × Nat)
  /-- Link power state per link (R488). -/
  pm      : KMap LinkPm
  /-- Last LTR value reported per link, in µs (R489). -/
  ltr     : KMap Nat
  atc     : List AtcEnt
  treqs   : List TReq
  invals  : List Inval
  reads   : KMap HRead
  nextTag : Nat
  /-- Function-reset notices waiting for room in the channel (R540): two words each. -/
  notices : List (Nat × Nat)
  /-- WAKE# asserted (R486), and the PME messages owed after power returns. -/
  wake    : Bool
  pmeOwed : Bool
  mir     : KMap MirRun
  deriving DecidableEq, Repr

/-- The queue manager. -/
structure Qm where
  sq   : KMap SqRun
  cq   : KMap CqRun
  /-- Next SQ considered by the fetch arbiter of each link (R514). -/
  ptr  : KMap Nat
  deriving DecidableEq, Repr

/-- The address of a host request: function, address, whether it is a translated one, PASID and privileged-mode attribute (R222,
R223, R471). -/
structure HAddr where
  fn     : Nat
  addr   : Nat
  xlated : Bool
  pasid  : Option Nat
  pmr    : Bool
  deriving DecidableEq, Repr

/-- What the device puts on its outside: every message, request, frame and pin event, in the order it is issued (log
entry 7). -/
inductive Out where
  /-- Answer of a register read or of a BAR read. -/
  | readData (v : Nat)
  /-- Answer of a read of poisoned memory: the completion is marked poisoned. -/
  | readEp (v : Nat)
  /-- A frame on the wire of Ethernet port `e`, FCS included; `aborted` when it ended with the inverted FCS and an error
  control code (R55). -/
  | ethFrame (e : Nat) (bytes : Bytes) (aborted : Bool)
  /-- A host memory write of a function; `ro`: Relaxed Ordering, `ep`: poisoned. -/
  | hostWrite (a : HAddr) (data : Bytes) (ro ep : Bool)
  /-- A host memory read request. -/
  | hostRead (a : HAddr) (len tag : Nat)
  /-- A read of descriptors, commands or fragment tables, whose outcome the command that makes it carries. -/
  | ringRead (a : HAddr) (len : Nat)
  /-- An MSI-X message: function, vector, address and data of its table entry. -/
  | msix (fn vec addr data : Nat)
  | assertIntx (pf : Nat)
  | deassertIntx (pf : Nat)
  /-- Answers to BAR and configuration requests. -/
  | unsupportedRequest (fn : Nat)
  | requestRetry (fn : Nat)
  | pme (fn : Nat)
  | pmeToAck (link : Nat)
  | ltr (link us : Nat)
  | transRequest (pg : HPage) (tag : Nat)
  | pageRequest (pg : HPage) (write : Bool)
  | invalidateDone (fn tag : Nat)
  | enterL1 (link : Nat)
  | l0pWidth (link : Nat) (full : Bool)
  /-- A flit put on fabric port `p`, by its link header (R553); a packet put on it, by its bytes; the content of a management
  packet; the lane set of a CONTROL flit (R583); and the buffer shares advertised at a training, in 4 KiB units (R560). -/
  | flit (p header : Nat)
  | fabric (p : Nat) (bytes : Bytes)
  | mgmt (p : Nat) (m : Mgmt)
  | lanes (p mask : Nat)
  | shares (p : Nat) (units : List Nat)
  /-- WAKE#, THERMTRIP# and the VID code. -/
  | wakePin (on : Bool)
  | thermTrip
  | vid (code : Nat)
  /-- An SPDM or role-command response on a transport. -/
  | response (transport code : Nat) (data : Bytes)
  deriving DecidableEq, Repr


/-! ### Security (16) -/

/-- A slot of a one-time-programmable field (R656): value, WRITTEN and CHECK. -/
structure OtpSlot where
  value   : Nat
  written : Bool
  check   : Nat
  deriving DecidableEq, Repr

/-- A record of the change log (R673). DETAIL is held as the list of its items. -/
structure LogRec where
  seq    : Nat
  ty     : Nat
  actor  : Nat
  anchor : Nat
  time   : Nat
  detail : List Nat
  link   : Bytes
  deriving DecidableEq, Repr

/-- A copy of the key store in flash (R681): version, the ANCHOR value at its writing, and the persistent keys by slot. -/
structure KeyStore where
  version : Nat
  anchor  : Nat
  keys    : KMap Bytes
  deriving DecidableEq, Repr

/-- The SPDM state of a transport (R690 to R692): how far the connection has come (0 none, 1 version, 2 capabilities, 3 algorithms),
the request that arrives in chunks with its handle and next sequence number, and the response that leaves in chunks with the bytes
sent so far. -/
structure SpdmConn where
  stage  : Nat
  inBuf  : Bytes
  inSize : Nat
  inNext : Nat
  inHnd  : Nat
  out    : Bytes
  outAt  : Nat
  outNext : Nat
  outHnd : Nat
  deriving DecidableEq, Repr

/-- What Lighthouse keeps for security beside its registers. -/
structure Sec where
  /-- OTP slots, by 4 × field number + slot (R656). -/
  otp      : KMap OtpSlot
  /-- Unary counters, by field number (R659). -/
  ctr      : KMap Nat
  /-- The change log, oldest first, at most 2,048 records (R673). -/
  log      : List LogRec
  /-- SEQ of the next record, and LINK of the newest one, kept through COMPACT (R678). -/
  logSeq   : Nat
  logLink  : Bytes
  /-- Refused writes since the last REFUSED record, and the time of that record (R652). -/
  refused  : Nat
  refusedAt : Option Nat
  /-- FW queues are not ready: a live activation is in progress and OPEN has not come (R683, R684). -/
  fwHeld   : Bool
  /-- Objects in the boot flash (R664): 0 and 1 the LHS_FW banks A and B, 2 and 3 the DEV_FW banks, 4 and 5 the copies of the installer
  blob, 6 and 7 those of the operator blob. -/
  flash    : KMap Bytes
  /-- The valid directory copies, by number (R665): SEQ and the preference bits. -/
  dir      : KMap (Nat × Nat)
  /-- Bank of an LHS_FW that has been staged and that the directory is to prefer at the next reset (R682). -/
  lhsNew   : Option Nat
  /-- The copies of the key store (R681), and the certificate chain (R688). -/
  store    : KMap KeyStore
  certs    : Bytes
  /-- The running LHS_FW and DEV_FW: bank and object (R666). -/
  lhs      : Option (Nat × Bytes)
  dev      : Option (Nat × Bytes)
  /-- FLOOR_LHS is still to be burned for the running LHS_FW (R682). -/
  lhsFirst : Bool
  /-- The staged DEV_FW: bank and object (R682); that of a live activation, and what ran before it (R683, R685). -/
  staged   : Option (Nat × Bytes)
  act      : Option (Nat × Bytes)
  prev     : Option (Nat × Bytes)
  /-- When the wait of NOTIFIED or TRIAL ends (R683). -/
  deadline : Nat
  /-- YIELD has come while a switch-over was in progress (R683, R686). -/
  yielded  : Bool
  /-- Status of the root-key operation in progress (R679). -/
  keyJob   : Option Nat
  /-- Measurements 1 to 4 and 6 (R689), by number; an unlisted one is 64 zero bytes. -/
  meas     : KMap Bytes
  /-- SPDM connections by transport (R692): 0 to 3 DOE of a link, 4 MCTP over SMBus, 8 + link MCTP over PCIe VDM. -/
  conns    : KMap SpdmConn
  deriving DecidableEq, Repr

/-- Security state of a part with blank fuses and an empty log (log entry 9). -/
def Sec.fresh : Sec where
  otp := []
  ctr := []
  log := []
  logSeq := 0
  logLink := zeros 64
  refused := 0
  refusedAt := none
  fwHeld := false
  flash := []
  dir := []
  lhsNew := none
  store := []
  certs := []
  lhs := none
  dev := none
  lhsFirst := false
  staged := none
  act := none
  prev := none
  deadline := 0
  yielded := false
  keyJob := none
  meas := []
  conns := []

/-! ### Lumen (15) -/

/-- What the central reader keeps beside its registers. -/
structure Lum where
  /-- The instant T of a snapshot that has been started and not taken (R638). -/
  snapAt   : Option Nat
  /-- The instant of a snapshot taken and not done. -/
  taken    : Option Nat
  /-- Where the snapshot period is counted from (R639). -/
  base     : Nat
  /-- A freeze or restart that has been written, and its instant (R640). -/
  freezeAt : Option (Nat × Bool)
  /-- The instant of a CLEAR_ALL that has been written (R640). -/
  clearAt  : Option Nat
  /-- FREEZE_ALL is in force. -/
  frozen   : Bool
  deriving DecidableEq, Repr

/-- The central reader after reset. -/
def Lum.fresh : Lum := ⟨none, none, 0, none, none, false⟩
/-! ### Glint (08) -/

/-- The key that a look-aside job took when it started (R375): ALG, the 64 derived bytes, and the context record it uses. -/
structure GKey where
  alg : Nat
  z   : Bytes
  ctx : Option Nat
  deriving DecidableEq, Repr

/-- An inline frame in its home cluster (R390): the frame as it entered, its record, the number it was given or carries, and what it
becomes if its ICV passes; or the reason of R394 for which it fails. -/
structure Inline where
  cl     : Nat
  ctx    : Nat
  pkt    : Pkt
  seq    : Nat
  data   : Bytes
  reason : Option Nat
  /-- The ICV verifies. -/
  good   : Bool
  deriving DecidableEq, Repr

/-- Glint beside its registers. -/
structure Glint where
  /-- Root keys in the key store, by slot (R369). -/
  roots   : KMap Bytes
  /-- Keys that running jobs have taken, by job. -/
  keys    : KMap GKey
  /-- Inline frames in progress, oldest first. -/
  inl     : List Inline
  /-- Context records that home clusters hold (R381), by index, as 128 bytes; and those that are frozen (R382). -/
  copies  : KMap Bytes
  frozen  : KMap Bool
  /-- The context command in progress (R382): OP and INDEX. -/
  cmd     : Option (Nat × Nat)
  /-- Derived-key cache per cluster (R374), the least recently used first: label, binding, GEN. -/
  cache   : KMap (List (Bytes × Nat × Nat))
  /-- Clusters that start no new work, their reseed being due without entropy (R378). -/
  stopped : List Nat
  deriving DecidableEq, Repr

/-- Glint after power-on reset. -/
def Glint.fresh : Glint := ⟨[], [], [], [], [], none, [], []⟩

/-! ### The storage front-end (09) -/

/-- A submission queue of an NVMe controller (R407): the admin queue has ID 0. -/
structure NSq where
  fn   : Nat
  id   : Nat
  base : Nat
  size : Nat
  head : Nat
  tail : Nat
  /-- The completion queue, by its number in the device's pool. -/
  cq   : Nat
  /-- QPRIO (R420). -/
  prio : Nat
  /-- A Delete waits for the queue's fetched commands; nothing more is fetched. -/
  del  : Bool
  deriving DecidableEq, Repr

/-- A completion queue of an NVMe controller (R407, R408). -/
structure NCq where
  fn      : Nat
  id      : Nat
  base    : Nat
  size    : Nat
  head    : Nat
  tail    : Nat
  /-- Phase Tag of the next entry. -/
  phase   : Bool
  ien     : Bool
  vec     : Nat
  /-- Place of the next spilled entry, the entries in the spill area by the command they end, oldest first, and OVERFLOW (R524,
  R527). -/
  spillAt : Nat
  spilled : List Nat
  ovf     : Bool
  deriving DecidableEq, Repr

/-- Shutdown of a controller (R440): none, or requested, normal or abrupt. -/
inductive Shut where
  | none_ | normal | abrupt
  deriving DecidableEq, Repr

/-- An NVMe controller (R405, R406, R420, R434). -/
structure NCtl where
  /-- CC as the host wrote it; CSTS.RDY and CSTS.SHST. -/
  cc    : Nat
  rdy   : Bool
  shst  : Nat
  shut  : Shut
  /-- The flush of a normal shutdown has been begun. -/
  flushed : Bool
  aqa   : Nat
  asq   : Nat
  acq   : Nat
  /-- The Arbitration feature. -/
  ab    : Nat
  hpw   : Nat
  mpw   : Nat
  lpw   : Nat
  /-- Credits of the high, medium and low classes, the class visit pointer, and the round-robin pointers: SQID last served, by class
  (0 urgent, 1 high, 2 medium, 3 low, 4 all). -/
  cred  : Nat × Nat × Nat
  cls   : Nat
  rr    : KMap Nat
  /-- Power state in force, the most recent operational one, and the entry in progress with the Set Features that wait for it. -/
  ps    : Nat
  opPs  : Nat
  want  : Option Nat
  waits : List Nat
  /-- I/O submission and completion queues granted. -/
  nsq   : Nat
  ncq   : Nat
  /-- Interrupt Coalescing: THR and TIME; vectors whose coalescing is disabled; entries since the last message and when the first
  was written, by vector. -/
  thr   : Nat
  tim   : Nat
  cd    : List Nat
  coal  : KMap (Nat × Nat)
  /-- Sequence number of the last write-kind command that posted its completion, by NSID (R433). -/
  wseq  : KMap Nat
  /-- Host requests outstanding when the controller was reset (R439). -/
  late  : List Nat
  deriving DecidableEq, Repr

/-- Where a command is (R424 to R428): fetched and unchecked; checked; ready for its hand-off; handed to the service; answered or
otherwise decided; caught, waiting for the service's answer. -/
inductive NPhase where
  | fetched | checked | ready | handed | answered | caught
  deriving DecidableEq, Repr

/-- What the walk of a PRP list or an SGL reads next (R418). -/
inductive NNext where
  | done
  | prp (addr : Nat)
  | sgl (addr len : Nat) (last : Bool)
  | mptr (addr : Nat)
  deriving DecidableEq, Repr

/-- The walk of a command's data pointers: host ranges found, bytes still to find, what it reads next, and the status that ended it. -/
structure NWalk where
  ranges : List (Nat × Nat)
  left   : Nat
  next   : NNext
  sep    : List (Nat × Nat)
  bad    : Option (Nat × Nat)
  deriving DecidableEq, Repr

/-- A command slot (R414). -/
structure NSlot where
  /-- The command's own number: no two commands share it. -/
  id     : Nat
  fn     : Nat
  /-- Its SQ and CQ by their numbers in the pool; none for the flush of a shutdown. -/
  sq     : Option Nat
  cq     : Nat
  cid    : Nat
  cmd    : Bytes
  /-- Words 0 and 1 of the namespace record read at its fetch (R413). -/
  ns     : Option (Nat × Nat)
  phase  : NPhase
  /-- Metadata is separate from the data. -/
  sep    : Bool
  walk   : NWalk
  /-- Staging buffer: offset in the pool, and length (R415). -/
  buf    : Option (Nat × Nat)
  job    : Option Nat
  /-- Atomic units that a write-kind command touches: first and last of each range (R429). -/
  units  : List (Nat × Nat)
  /-- Covered namespaces of a Flush with the sequence of the last write posted in each (R433). -/
  seqs   : List (Nat × Nat)
  /-- The outcome: SCT, SC and DNR; and DW0 of the completion. -/
  res    : Nat × Nat × Nat
  dw0    : Nat
  /-- The completion has been posted, or there will be none (R424). -/
  posted : Bool
  /-- Abort: the tail of the named SQ when the Abort was fetched, and the command it names (R425, R428). -/
  tailAt : Option Nat
  target : Option Nat
  deriving DecidableEq, Repr

/-- The storage front-end. -/
structure Nvm where
  ctls   : KMap NCtl
  sqs    : KMap NSq
  cqs    : KMap NCq
  slots  : KMap NSlot
  nextId : Nat
  /-- The controller being visited and the commands taken at the visit (R421). -/
  visit  : Nat
  taken  : Nat
  /-- CANCEL and EVENT messages that wait for room: service channel and words (R422). -/
  msgs   : List (Nat × List Nat)
  /-- When NVM_FWACT.PAUSE was written (R443). -/
  paused : Nat
  deriving DecidableEq, Repr

/-- A controller after reset (R406, R420). -/
def NCtl.fresh : NCtl where
  cc := 0
  rdy := false
  shst := 0
  shut := .none_
  flushed := false
  aqa := 0
  asq := 0
  acq := 0
  ab := 3
  hpw := 0
  mpw := 0
  lpw := 0
  cred := (0, 0, 0)
  cls := 0
  rr := []
  ps := 0
  opPs := 0
  want := none
  waits := []
  nsq := 128
  ncq := 128
  thr := 0
  tim := 0
  cd := []
  coal := []
  wseq := []
  late := []

/-- The storage front-end after reset. -/
def Nvm.fresh : Nvm := ⟨[], [], [], [], 0, 0, 0, [], 0⟩
/-! ### Fault handling (14) -/

/-- A record of the fault log (R600). -/
structure FaultRec where
  unit    : Nat
  kind    : Nat
  verdict : Nat
  tries   : Nat
  count   : Nat
  loc     : Nat
  time    : Nat
  deriving DecidableEq, Repr

/-- A unit declared dead that waits for its self-test (R610, R617, R623): when, by what report, whether a pass writes a second record
(R610), whether it is to stay retired (R611), and whether it has been power-gated. -/
structure DeadUnit where
  since  : Nat
  kind   : Nat
  loc    : Nat
  stop   : Bool
  twice  : Bool
  gated  : Bool
  deriving DecidableEq, Repr

/-- Why a unit is tested (R618, R619, R623). -/
inductive TestWhy where
  | request | schedule | dead
  deriving DecidableEq, Repr

/-- The test in progress: the unit, why, whether its work was shed (R620), and whether it is out of service and under test. -/
structure TestRun where
  unit    : Nat
  why     : TestWhy
  shed    : Bool
  running : Bool
  deriving DecidableEq, Repr

/-- A test request that waits (R618, R620): unit, DEADLINE_S, and when GO was written. -/
structure TestReq where
  unit     : Nat
  deadline : Nat
  asked    : Nat
  deriving DecidableEq, Repr

/-- What Lighthouse keeps for fault handling beside its registers. -/
structure Lhs where
  /-- The fault log, oldest first, at most 256 records (R602). -/
  flog     : List FaultRec
  /-- Times of the last eight reports, newest first, by 2^32 × unit + WHERE (R608). -/
  hist     : KMap (List Nat)
  dead     : KMap DeadUnit
  /-- When a unit was last declared dead (R611). -/
  deaths   : KMap Nat
  /-- Retries under R610 of a unit that has no spare. -/
  retries  : KMap Nat
  /-- Stopped units that wait for their switch-over, in the order of verdicts (R615). -/
  swq      : List Nat
  /-- Spare rows of an SRAM macro in use, by unit (R599). -/
  rows     : KMap Nat
  test     : Option TestRun
  /-- The request that waits (R618); when each unit was last tested or recalibrated, and each island read. -/
  req      : Option TestReq
  lastTest : KMap Nat
  fadeAt   : KMap Nat
  /-- Condition bits of LHS_FLT_STAT recorded since GUARANTEE was last 1 (R596). -/
  told     : Nat
  /-- The running device firmware is not signed by the maker (R663). -/
  fwBad    : Bool
  /-- An island whose raise waits for VR_READY, and since when (R720). -/
  vrWait   : Option (Nat × Nat)
  deriving DecidableEq, Repr

/-- Fault handling after power-on reset. -/
def Lhs.fresh : Lhs where
  flog := []
  hist := []
  dead := []
  deaths := []
  retries := []
  swq := []
  rows := []
  test := none
  req := none
  lastTest := []
  fadeAt := []
  told := 0
  fwBad := false
  vrWait := none

/-! ### Power, resets and pins (17, 18) -/

/-- How far start-up has come (R666, R667, R712, R714): held in power-on reset; the boot ROM runs and the islands are not powered; the
islands are powered and stage 0 may run; stage 0 is done; stage 1 is done; configuration-ready; stage 2 is done; recovery; the main
supplies are gone (D3cold). -/
inductive Boot where
  | held | rom | powered | loaded | applied | ready | running | recovery | isolated
  deriving DecidableEq, Repr

/-- The power and reset state of the device beside its registers. -/
structure Pwr where
  boot    : Boot
  /-- MAIN_PG is high. -/
  mainPg  : Bool
  /-- Host ports whose PERST# is asserted. -/
  perst   : List Nat
  /-- When a power block went dim (R696). -/
  dimAt   : KMap Nat
  /-- When the throttle steps last changed (R726). -/
  stepAt  : Nat
  /-- The last ten values of OFFSET, newest first (R706). -/
  ofs     : List Nat
  /-- The SMBus target address (R733). -/
  smbus   : Nat
  /-- The JTAG TAP has been reset by TRST# (R732). -/
  tapReset : Bool
  /-- A wake of the link is owed after the main supplies return (R486). -/
  waking  : Bool
  deriving DecidableEq, Repr

/-- Power and pins after power-on reset began: PERST# of both ports is asserted and the main supplies are off (log entry 10). -/
def Pwr.fresh : Pwr where
  boot := .held
  mainPg := false
  perst := [0, 1]
  dimAt := []
  stepAt := 0
  ofs := []
  smbus := 0x48
  tapReset := true
  waking := false

/-! ### The device -/

/-- The Lantern clusters (02, 03, 04). -/
structure Ltn where
  /-- Threads by GTID (R65). -/
  threads : KMap Thread
  /-- Logical cores by 8 × cluster + core. -/
  cores   : KMap Core
  /-- The slots in use of every channel ring, oldest first, by channel ID (R94). -/
  chans   : KMap (List Slot)
  /-- Events sent by EVSEND and not yet latched (R737): target GTID and input. -/
  flights : List (Nat × Nat)
  /-- Events for threads of a core that is being replaced, held by the cluster in arrival order (R127): GTID and mask. -/
  heldEv  : List (Nat × Nat)
  /-- Entries written to each DMA completion ring since it was enabled, by 256 × cluster + ring (R172). -/
  ringAt  : KMap Nat
  /-- Translations cached by the DMA engine of each cluster (R218). -/
  dmaTlb  : KMap (List TlbEnt)
  /-- Transfers held under R230, by 64 × cluster + hold number: job, timebase at which the hold ends, and
  whether a write failed. -/
  holds   : KMap (Nat × Nat × Bool)
  /-- The removal in progress of MEM_TLBI_CTL (R221): scope, cluster mask, ASID, argument. -/
  tlbi    : Option (Nat × Nat × Nat × Nat)
  /-- Migrated threads (R621, R622): the slot that a thread occupies, by GTID. -/
  migr    : KMap Nat
  deriving DecidableEq, Repr

/-- A report on its way to Lighthouse (R57, R206, R600): unit, kind and WHERE. -/
structure Report where
  unit : Nat
  kind : Nat
  loc  : Nat
  deriving DecidableEq, Repr



/-- The state of the device. -/
structure State where
  /-- The register file: field values by `Fld.key`, unlisted fields at their reset value. -/
  regs    : KMap Nat
  /-- Lower halves held (R16), by register instance and word: writer and value. -/
  halves  : KMap (Writer × Nat)
  /-- Device timebase, in ns (R705), and the fraction of a nanosecond owed by the rate correction, in 10^-9 ns. -/
  time    : Nat
  frac    : Nat
  /-- The ordering code (R1). -/
  part    : Part
  /-- Bytes of the internal address space (R40): HBM, and the trie and MAC-table windows of the on-die SRAM. -/
  mem     : List Host.Cell
  /-- Protected words with P = 1, by address / 8 (R205). -/
  poison  : KMap Bool
  ltn     : Ltn
  /-- Jobs, transfers and data movements in the device, by job number; there is no job 0. -/
  jobs    : KMap Job
  nextJob : Nat
  hif     : Hif
  qm      : Qm
  /-- Frames handed to the MAC of each Ethernet port and not yet sent, oldest first (R29). -/
  ethTx   : KMap (List Pkt)
  /-- Reports on their way to Lighthouse. -/
  reports : List Report
  /-- Lighthouse: fuses, change log, flash and images (16). -/
  sec     : Sec
  /-- Lumen (15). -/
  lum     : Lum
  /-- The packet buffer (R342, R356). -/
  pb      : PktBuf
  /-- Prism, by pipeline (05). -/
  prisms  : KMap Prism
  /-- Forwarding and learning (06). -/
  fwd     : Fwd
  /-- The traffic manager (07). -/
  tm      : Tm
  /-- Frames handed to Glint by a TO_GLINT action, per pipeline (R256). -/
  toGlint : KMap (List Pkt)
  /-- Beacon and Lens (13). -/
  fab     : Fabric
  /-- Glint (08). -/
  glint   : Glint
  /-- The storage front-end (09). -/
  nvm     : Nvm
  /-- Fault handling (14). -/
  lhs     : Lhs
  /-- Power, resets and pins (17, 18). -/
  pwr     : Pwr
  /-- How many free values have been drawn (the model's own field, log entry 3). -/
  free    : Nat
  /-- How many bytes have been drawn from the service DRBG (the model's own field, log entry 4). -/
  drawn   : Nat
  /-- What the device has put on its outside, oldest first (log entry 7). -/
  out     : List Out
  /-- The commands that wait, first in, first out. -/
  pending : List Instr
  deriving DecidableEq, Repr

/-! ### Reset values -/

/-- A thread in OFF with every register 0 (R133, R131). -/
def Thread.fresh : Thread where
  st := .off
  g := Vector.replicate 32 0
  pc := 0
  pl1 := true
  ie := false
  exa := false
  xlate := false
  leaseLost := false
  lostChan := 0
  estat := 0
  epc := 0
  ecause := 0
  einfo := 0
  evec := 0
  escratch := 0
  prg := 0
  eprg := 0
  dmactx := 0
  uperm := 0
  ptbr := 0
  asid := 0
  stage := []
  rx := []
  resv := none
  waitRd := 0
  stepping := false
  blk := none
  lens := none
  lensIn := []

/-- A logical core after reset. -/
def Core.fresh : Core where
  fltq := []
  failed := false
  gated := false
  hbStart := none
  hbPeriod := 1000
  tlb := []

/-- The configuration space of a function after reset (log entry 2: PCI Express reset values). -/
def FnCfg.fresh : FnCfg where
  bme := false
  mse := false
  vfMse := false
  msixEn := false
  fnMask := false
  intxDis := false
  pasidEn := false
  privEn := false
  atsEn := false
  stu := 0
  priEn := false
  priStop := false
  priAlloc := 0
  pmeEn := false
  pmeStat := false
  cplTo := 0
  ro := true
  mps := 0
  mrrs := 2
  vfEn := false
  numVfs := 0
  vfNums := 0
  ptmEn := false
  aspmL1 := false
  intms := []
  aer := []

/-- An MSI-X entry after reset (R465). -/
def MsixEnt.fresh : MsixEnt := ⟨0, 0, true⟩

/-- What the queue manager keeps for a queue after reset. -/
def SqRun.fresh : SqRun := ⟨[], [], 0, false, 0⟩

/-- What the queue manager keeps for a CQ after reset. -/
def CqRun.fresh : CqRun := ⟨0, 0, none, []⟩

/-- What a Mirror log keeps after reset. -/
def MirRun.fresh : MirRun := ⟨[], false, none, 0⟩

/-- The host interface after reset. -/
def Hif.fresh : Hif where
  fns := []
  msix := []
  pend := []
  intx := []
  portAct := []
  pfAct := []
  pm := []
  ltr := []
  atc := []
  treqs := []
  invals := []
  reads := []
  nextTag := 0
  notices := []
  wake := false
  pmeOwed := false
  mir := []

/-- The Lantern clusters after power-on reset. -/
def Ltn.fresh : Ltn where
  threads := []
  cores := []
  chans := []
  flights := []
  heldEv := []
  ringAt := []
  dmaTlb := []
  holds := []
  tlbi := none
  migr := []



/-- The machine right after power-on reset (R709, R712): every register at the value of its Reset column, the timebase at 0,
memory zero, every thread OFF, no command waiting. -/
def State.reset : State where
  regs := []
  halves := []
  time := 0
  frac := 0
  part := .a28
  mem := []
  poison := []
  ltn := Ltn.fresh
  jobs := []
  nextJob := 1
  hif := Hif.fresh
  qm := ⟨[], [], []⟩
  ethTx := []
  reports := []
  sec := Sec.fresh
  lum := Lum.fresh
  pb := PktBuf.fresh
  prisms := []
  fwd := Fwd.fresh
  tm := Tm.fresh
  toGlint := []
  fab := Fabric.fresh
  glint := Glint.fresh
  nvm := Nvm.fresh
  lhs := Lhs.fresh
  pwr := Pwr.fresh
  free := 0
  drawn := 0
  out := []
  pending := []

end Sys2Proof.Machine
end

