-- ==== Sys2Proof/Machine/Ops.lean ====
section
/-!
DEFINITION. The named operations that every family uses: the register file, free values, the internal memory and its regions,
reports to Lighthouse, Lumen counting, events, interrupt lines, channels, and the threads and cores of the Lantern clusters.
-/

namespace Sys2Proof.Machine

/-! ### The register file -/

/-- The key of a field of register instance `i` in the register file. -/
def Fld.key (f : Fld) (i : Nat) : Nat := f.id * 2 ^ 24 + i

/-- The value of a field: its last value, or its Reset value (R9, R18). -/
def State.rd (s : State) (f : Fld) (i : Nat) : Nat := KMap.getD s.regs (f.key i) (f.rst.at i)

/-- Set a field to the low bits of `v`. -/
def State.wr (s : State) (f : Fld) (i v : Nat) : State :=
  { s with regs := KMap.setD s.regs (f.key i) (f.rst.at i) (v % 2 ^ f.w) }

/-- A field of one bit, as a Boolean. -/
def State.flag (s : State) (f : Fld) (i : Nat) : Bool := s.rd f i == 1

/-- Set a field of one bit. -/
def State.setFlag (s : State) (f : Fld) (i : Nat) (b : Bool) : State := s.wr f i (b2n b)

/-- Increase a counting field by `n`; it saturates at its greatest value. -/
def State.sat (s : State) (f : Fld) (i n : Nat) : State := s.wr f i (Nat.min (s.rd f i + n) (2 ^ f.w - 1))

/-- Increase a field by one, modulo its width. -/
def State.bump (s : State) (f : Fld) (i : Nat) : State := s.wr f i (s.rd f i + 1)

/-- Return every field of a register instance to its Reset value (R18). -/
def State.resetReg (s : State) (d : RegD) (i : Nat) : State :=
  d.flds.foldl (fun s f => s.wr f i (f.rst.at i)) s

/-- Set a list of fields of one instance. -/
def State.wrs (s : State) (i : Nat) (l : List (Fld × Nat)) : State := l.foldl (fun s p => s.wr p.1 i p.2) s

/-- Assemble the value of a register instance from its fields (R9). -/
def State.regVal (s : State) (d : RegD) (i : Nat) : Nat :=
  d.flds.foldl (fun v f => v ||| (s.rd f i % 2 ^ f.w) <<< f.lo) 0

/-! ### Free values -/

/-- Draw the next free value (log entry 3). -/
def State.draw (s : State) : Nat × State := (Config.free s.free, { s with free := s.free + 1 })

/-- Draw `n` bytes from the service DRBG (R377, log entry 4). -/
def State.drbg (s : State) (n : Nat) : Bytes × State :=
  ((List.range n).map fun k => Config.drbg (s.drawn + k), { s with drawn := s.drawn + n })

/-- Put one item on the outside (log entry 7). -/
def State.emit (s : State) (o : Out) : State := { s with out := s.out ++ [o] }

/-! ### Part -/

/-- HBM stacks fitted (R1, R2). -/
def stacksOf : Part → Nat
  | .b24 => 2
  | _ => 4

/-- Bytes of HBM (R40, R41). -/
def hbmSize : Part → Nat
  | .b24 => 0xC00000000
  | _ => 0x1800000000

/-- Greatest core clock in 25 MHz units (R1, R64). -/
def partFmax : Part → Nat
  | .a28 => 112
  | _ => 96

/-! ### What a command changes -/

/-- The state after a command that made `n` of it. No command changes the ordering code (R1) or the queue of commands, and none takes
time: the timebase stays, or is 0 while power-on reset stands (R705). -/
def State.after (s n : State) : State :=
  let held := decide (n.pwr.boot = .held)
  { n with part := s.part, pending := s.pending, time := if held then 0 else s.time, frac := if held then 0 else s.frac }

/-! ### The internal address space (R40 to R44) -/

/-- The regions of the internal address space (R40, R43). -/
inductive Region where
  | hbm | trie | pktBuf | l2 | sysCache | mac | regSpace | lens | reserved
  deriving DecidableEq, Repr

/-- The region of an internal physical address (R40, R41, R43). -/
def region (p : Part) (a : Nat) : Region :=
  if a < hbmSize p then .hbm
  else if 0x4000000000 ≤ a ∧ a < 0x4006000000 then .trie
  else if 0x4006000000 ≤ a ∧ a < 0x400A000000 then .pktBuf
  else if 0x400A000000 ≤ a ∧ a < 0x400D000000 then .l2
  else if 0x400D000000 ≤ a ∧ a < 0x400F000000 then .sysCache
  else if 0x400F000000 ≤ a ∧ a < 0x4010000000 then .mac
  else if 0xF000000000 ≤ a ∧ a < 0xF100000000 then .regSpace
  else if 0x100000000000 ≤ a ∧ a < 0x200000000000 then .lens
  else .reserved

/-- Every byte of a range lies in HBM. -/
def inHbm (p : Part) (a n : Nat) : Bool := decide (a + n ≤ hbmSize p)

/-- A byte of the internal memory; a byte that nothing has written reads 0 (R709). -/
def State.byte (s : State) (a : Nat) : Byte := KMap.getD s.mem a 0

/-- Write one byte. -/
def State.setByte (s : State) (a : Nat) (b : Byte) : State := { s with mem := KMap.setD s.mem a 0 b }

/-- The bytes of a range. -/
def State.bytes (s : State) (a n : Nat) : Bytes := (List.range n).map fun k => s.byte (a + k)

/-- The little-endian value of a range (R7). -/
def State.mval (s : State) (a n : Nat) : Nat := leVal (s.bytes a n)

/-- The word that holds address `a` is poisoned (R205). -/
def State.bad (s : State) (a : Nat) : Bool := KMap.getD s.poison (a / 8) false

/-- Set or clear P of the word that holds address `a`. -/
def State.setBad (s : State) (a : Nat) (p : Bool) : State := { s with poison := KMap.setD s.poison (a / 8) false p }

/-- A word of a range is poisoned. -/
def State.badRange (s : State) (a n : Nat) : Bool :=
  (List.range ((a + n + 7) / 8 - a / 8)).any fun k => s.bad (8 * (a / 8 + k))

/-- A write of `n` bytes at `a` leaves part of the word `w` as it was. -/
def partWord (a n w : Nat) : Bool := decide (8 * w < a ∨ a + n < 8 * w + 8)

/-- A partial write reads the word it merges into (R205): a word with P = 1 counts in POISON_READS (R206). -/
def State.countMerge (s : State) (a n : Nat) : State :=
  let k := ((List.range ((a + n + 7) / 8 - a / 8)).filter fun k =>
    partWord a n (a / 8 + k) && s.bad (8 * (a / 8 + k))).length
  if k = 0 then s else s.sat R.MEM_ECC_CNT_POISON_READS 0 k

/-- Write a byte string; a word written whole loses P, a partial write keeps it (R205). -/
def State.setBytes (s : State) (a : Nat) : Bytes → State
  | bs =>
    let s0 := s.countMerge a bs.length
    let s1 := (List.range bs.length).foldl (fun s k => s.setByte (a + k) (bs.getD k 0)) s0
    let firstWhole := (a + 7) / 8
    let pastWhole := (a + bs.length) / 8
    (List.range (pastWhole - firstWhole)).foldl (fun s k => s.setBad (8 * (firstWhole + k)) false) s1

/-- Write the low `n` bytes of a value, little-endian (R7). -/
def State.setVal (s : State) (a n v : Nat) : State := s.setBytes a (leBytes n v)

/-- Reads of words with P = 1 count in POISON_READS (R206). -/
def State.countPoison (s : State) (a n : Nat) : State :=
  let k := ((List.range ((a + n + 7) / 8 - a / 8)).filter fun k => s.bad (8 * (a / 8 + k))).length
  if k = 0 then s else s.sat R.MEM_ECC_CNT_POISON_READS 0 k

/-- Poison the words of a range: the device writes them with P = 1 (R205). -/
def State.poisonRange (s : State) (a n : Nat) : State :=
  (List.range ((a + n + 7) / 8 - a / 8)).foldl (fun s k => s.setBad (8 * (a / 8 + k)) true) s

/-- The pseudo-channel of an HBM address (R200). -/
def pseudoChannel (p : Part) (a : Nat) : Nat :=
  match p with
  | .b24 => bitsAt a 8 6 ^^^ bitsAt a 14 6
  | _ => bitsAt a 8 7 ^^^ bitsAt a 15 7

/-- The local offset of an HBM address (R200). -/
def localOffset (p : Part) (a : Nat) : Nat :=
  match p with
  | .b24 => (a >>> 14) <<< 8 ||| bitsAt a 0 8
  | _ => (a >>> 15) <<< 8 ||| bitsAt a 0 8

/-! ### Units and reports (R599, R600) -/

/-- A unit ID (R599): TYPE and INSTANCE. -/
def unitId (ty inst : Nat) : Nat := ty * 2048 + inst

/-- The KIND codes of R601. -/
inductive FKind where
  | eccCorr | eccUe | parity | residue | dualRail | watchdog | heartbeat | carry | prismVerify | prismScrub | link
  | creditStall | drbg | entropy | coreFailed | regfileUe | margin | selftest | fenced | calibration | condLost | lhsMismatch
  deriving DecidableEq, Repr

/-- The code of a KIND (R601). -/
def FKind.code : FKind → Nat
  | .eccCorr => 0x01 | .eccUe => 0x02 | .parity => 0x03 | .residue => 0x04 | .dualRail => 0x05 | .watchdog => 0x06
  | .heartbeat => 0x07 | .carry => 0x08 | .prismVerify => 0x09 | .prismScrub => 0x0A | .link => 0x0B
  | .creditStall => 0x0C | .drbg => 0x0D | .entropy => 0x0E | .coreFailed => 0x0F | .regfileUe => 0x10 | .margin => 0x11
  | .selftest => 0x12 | .fenced => 0x13 | .calibration => 0x14 | .condLost => 0x20 | .lhsMismatch => 0x21

/-- Send a fault report to Lighthouse (R57, R206, R600). It stands with Lighthouse until FAULT_REPORT judges it. -/
def State.report (s : State) (unit : Nat) (k : FKind) (loc : Nat) : State :=
  { s with reports := s.reports ++ [⟨unit, k.code, loc⟩] }

/-- The unit of R599 that holds a word with an internal physical address: an HBM row group (R735) or an SRAM macro. -/
def memUnit (p : Part) (a : Nat) : Nat :=
  if a < hbmSize p then unitId 3 (16 * pseudoChannel p a + bitsAt (localOffset p a) 10 4)
  else unitId 4 (bitsAt a 20 8)

/-! ### Threads and cores -/

/-- The state of thread `t` by GTID (R65). -/
def State.thr (s : State) (t : Nat) : Thread := KMap.getD s.ltn.threads t Thread.fresh

/-- Set the state of a thread. -/
def State.setThr (s : State) (t : Nat) (th : Thread) : State :=
  { s with ltn := { s.ltn with threads := KMap.setD s.ltn.threads t Thread.fresh th } }

/-- Change the state of a thread. -/
def State.modThr (s : State) (t : Nat) (f : Thread → Thread) : State := s.setThr t (f (s.thr t))

/-- A logical core, by 8 × cluster + core. -/
def State.core (s : State) (c : Nat) : Core := KMap.getD s.ltn.cores c Core.fresh

/-- Set the state of a core. -/
def State.setCore (s : State) (c : Nat) (k : Core) : State :=
  { s with ltn := { s.ltn with cores := KMap.setD s.ltn.cores c Core.fresh k } }

/-- Change the state of a core. -/
def State.modCore (s : State) (c : Nat) (f : Core → Core) : State := s.setCore c (f (s.core c))

/-- Core index of a GTID: 8 × cluster + core (R65). -/
def coreOf (t : Nat) : Nat := t / 8

/-- Cluster of a GTID (R65). -/
def clusterOf (t : Nat) : Nat := t / 64

/-- Slot of a GTID within its core (R65). -/
def slotOf (t : Nat) : Nat := t % 8

/-- The physical core that serves core index `c` (R62): its unit ID of type 0 (R599). -/
def coreUnit (s : State) (c : Nat) : Nat :=
  unitId 0 (9 * (c / 8) + bitsAt (s.rd R.LTN_CL_MAP_MAP (c / 8)) (4 * (c % 8)) 4)

/-- Read a general register of a thread: g0 reads 0 (R129). -/
def Thread.greg (th : Thread) (r : Reg5) : Word := if r = 0 then 0 else th.g.get r

/-- Write a general register of a thread: writes of g0 are ignored (R129). -/
def Thread.setG (th : Thread) (r : Reg5) (v : Word) : Thread := if r = 0 then th else { th with g := th.g.set r v }

/-! ### Event bindings (R78 to R83) -/

/-- The instance number of LTN_EVBIND_n of thread `t`. -/
def bindIx (t n : Nat) : Nat := 32 * t + n

/-- The SRC_TYPE of input `n` of thread `t`, with the fixed bindings of t0 (R79). -/
def State.bindTy (s : State) (t n : Nat) : Nat :=
  if slotOf t = 0 ∧ n < 4 then
    if n = 0 then 8 else if n = 1 then 9 else if n = 2 then 10 else 7
  else s.rd R.LTN_EVBIND_SRC_TYPE (bindIx t n)

/-- The inputs, by thread and number, whose SRC_TYPE was written as `ty` and whose SRC_ID is `id`. -/
def State.boundTo (s : State) (ty id : Nat) : List (Nat × Nat) :=
  let k0 := R.LTN_EVBIND_SRC_TYPE.key 0
  let hits := s.regs.filter fun e => decide (k0 ≤ e.1 ∧ e.1 < k0 + 768 * 32 ∧ e.2 = ty)
  let ix := hits.map fun e => e.1 - k0
  (ix.filter fun i => s.rd R.LTN_EVBIND_SRC_ID i == id && !(decide (i % 256 < 4))).map fun i => (i / 32, i % 32)

/-! ### The census (R113, R118) -/

/-- Thread `t` is the target of an enabled LTN_CL_IRQMAP entry. -/
def State.irqTarget (s : State) (t : Nat) : Bool :=
  (List.range 256).any fun i =>
    let x := 256 * clusterOf t + i
    s.flag R.LTN_CL_IRQMAP_EN x && s.rd R.LTN_CL_IRQMAP_CORE x == (t / 8) % 8
      && s.rd R.LTN_CL_IRQMAP_THREAD x == slotOf t

/-- The bits set in a 32-bit mask, as numbers. -/
def bitList (w m : Nat) : List Nat := (List.range w).filter fun n => bitAt m n

/-- The wait set in force of a thread (R70). -/
def State.waitSet (s : State) (t : Nat) : Nat := s.rd R.LTN_THR_WAITMASK_MASK t

/-- Input `n` of thread `t` is bound to a source outside the core (R80). -/
def State.bindOutside (s : State) (t n : Nat) : Bool :=
  let ty := s.bindTy t n
  let i := bindIx t n
  if ty = 3 then s.rd R.LTN_EVBIND_SCOPE i != 0
  else if ty = 4 then s.rd R.LTN_CH_CFG_SCOPE (s.rd R.LTN_EVBIND_SRC_ID i) != 0
  else decide (ty ≠ 0 ∧ ty ≤ 10)

/-- Input `n` of thread `t` is bound within group `g` of its cluster (R118). -/
def State.bindInGroup (s : State) (t n g : Nat) : Bool :=
  let ty := s.bindTy t n
  let i := bindIx t n
  if ty = 3 then s.rd R.LTN_EVBIND_SCOPE i == 1 && s.rd R.LTN_EVBIND_GROUP i == g
  else if ty = 4 then
    let c := s.rd R.LTN_EVBIND_SRC_ID i
    s.rd R.LTN_CH_CFG_SCOPE c == 1 && s.rd R.LTN_CH_CFG_GROUP c == g
  else false

/-- The READER of a channel. -/
def State.reader (s : State) (chan : Nat) : Nat := s.rd R.LTN_CH_CFG_READER chan

/-- The slots in use of a channel ring. -/
def State.slots (s : State) (chan : Nat) : List Slot := KMap.getD s.ltn.chans chan []

/-- Set the slots in use of a channel ring. -/
def State.setSlots (s : State) (chan : Nat) (l : List Slot) : State :=
  { s with ltn := { s.ltn with chans := KMap.setD s.ltn.chans chan [] l } }

/-- A DMA transfer or CRYPT JOB of thread `t` has not posted its completion (R113: in flight to the core). -/
def State.dmaInFlight (s : State) (p : Nat → Bool) : Bool :=
  s.jobs.any fun e => match e.2.gtid with
    | some t => p t
    | none => false

/-- An event, message or DMA completion addressed to a thread of `p` is in flight (R113, R118). -/
def State.inFlight (s : State) (dma : Bool) (p : Nat → Bool) : Bool :=
  s.ltn.flights.any (fun e => p e.1)
    || s.ltn.chans.any (fun e => p (s.reader e.1) && e.2.any fun sl => sl.st == .flight)
    || (dma && s.dmaInFlight p)

/-- The slot that a thread occupies: its own, or another core's while it is migrated (R621). -/
def State.slotAt (s : State) (t : Nat) : Nat := KMap.getD s.ltn.migr t t

/-- The thread that occupies a slot (R622). -/
def State.occupant (s : State) (x : Nat) : Nat := ((s.ltn.migr.find? fun e => e.2 == x).map fun e => e.1).getD x

/-- The census of core `c` (R113). A core whose threads have migrated takes none; a migrated thread counts as the slot it occupies,
but for a t0 (R622). -/
def State.coreCensus (s : State) (c : Nat) : Bool :=
  let ts := ((List.range 7).map fun k => s.occupant (8 * c + k + 1)).filter fun t => slotOf t != 0
  let w := ts.filter fun t => (s.thr t).st == .wait
  !(s.ltn.migr.any fun e => coreOf e.1 == c)
    && ts.all (fun t => decide ((s.thr t).st = .wait ∨ (s.thr t).st = .off ∨ (s.thr t).st = .faulted))
    && !w.isEmpty
    && w.all (fun t => (bitList 32 (s.waitSet t)).all fun n => !s.bindOutside t n)
    && w.all (fun t => !((s.thr t).ie && s.irqTarget t))
    && !s.inFlight true fun t => ts.contains t || t == 8 * c

/-- The seven members bits of core `k` of a group, as an 8-bit mask by slot (R116). -/
def State.memberMask (s : State) (g k : Nat) : Nat :=
  2 * (match k with
    | 0 => s.rd R.LTN_GRP_MEMBERS_M0 g
    | 1 => s.rd R.LTN_GRP_MEMBERS_M1 g
    | 2 => s.rd R.LTN_GRP_MEMBERS_M2 g
    | 3 => s.rd R.LTN_GRP_MEMBERS_M3 g
    | 4 => s.rd R.LTN_GRP_MEMBERS_M4 g
    | 5 => s.rd R.LTN_GRP_MEMBERS_M5 g
    | 6 => s.rd R.LTN_GRP_MEMBERS_M6 g
    | _ => s.rd R.LTN_GRP_MEMBERS_M7 g)

/-- Thread `t` is a member of group `g` (0 to 15) of its cluster. -/
def State.isMember (s : State) (t g : Nat) : Bool :=
  bitAt (s.memberMask (16 * clusterOf t + g) ((t / 8) % 8)) (slotOf t)

/-- The members of group `x` = 16 × cluster + g, by GTID. -/
def State.members (s : State) (x : Nat) : List Nat :=
  ((List.range 64).filter fun j => bitAt (s.memberMask x (j / 8)) (j % 8)).map fun j => 64 * (x / 16) + j

/-- The census of group `x` = 16 × cluster + g (R118). -/
def State.groupCensus (s : State) (x : Nat) : Bool :=
  let ts := s.members x
  let w := ts.filter fun t => (s.thr t).st == .wait
  s.flag R.LTN_GRP_CTL_EN x
    && ts.all (fun t => decide ((s.thr t).st = .wait ∨ (s.thr t).st = .off ∨ (s.thr t).st = .faulted))
    && !w.isEmpty
    && w.all (fun t => (bitList 32 (s.waitSet t)).all fun n => s.bindInGroup t n (x % 16))
    && w.all (fun t => !((s.thr t).ie && s.irqTarget t))
    && !s.inFlight false fun t => ts.contains t

/-- Re-evaluate the census of core `c` (R114): a false census returns COUNT to 0 and arms ECLIPSE again. -/
def State.settleCore (s : State) (c : Nat) : State :=
  if s.coreCensus c then s.wr R.LTN_CORE_ECL_CENSUS c 1
  else s.wrs c [(R.LTN_CORE_ECL_CENSUS, 0), (R.LTN_CORE_ECL_COUNT, 0), (R.LTN_CORE_ECL_ARMED, 1)]

/-- Re-evaluate the census of group `x` (R118). -/
def State.settleGroup (s : State) (x : Nat) : State :=
  if s.groupCensus x then s.wr R.LTN_GRP_CTL_CENSUS x 1
  else s.wrs x [(R.LTN_GRP_CTL_CENSUS, 0), (R.LTN_GRP_CTL_COUNT, 0), (R.LTN_GRP_CTL_ARMED, 1)]

/-- Re-evaluate the census of the core of thread `t` and of every group of its cluster that is enabled. -/
def State.settle (s : State) (t : Nat) : State :=
  ((List.range 16).map fun g => 16 * clusterOf t + g).foldl State.settleGroup (s.settleCore (coreOf t))

/-- Re-evaluate every census of a cluster. -/
def State.settleCluster (s : State) (cl : Nat) : State :=
  let s1 := ((List.range 8).map fun k => 8 * cl + k).foldl State.settleCore s
  ((List.range 16).map fun g => 16 * cl + g).foldl State.settleGroup s1

/-! ### Events (R78, R84, R85) -/

/-- The exact number of a 32-bit mask as a register value. -/
def word32 (v : Nat) : Word := BitVec.ofNat 64 (v % 2 ^ 32)

/-- A core issues: it has not failed and its outputs are not held (R111, R613). -/
def State.alive (s : State) (c : Nat) : Bool := !(s.core c).failed && !(s.core c).gated

/-- The core on which a thread is issues. -/
def State.lives (s : State) (t : Nat) : Bool := s.alive (coreOf (s.slotAt t))

/-- A waiting thread whose set holds a pending event completes its WAIT: the hits are consumed together and returned in RD, and
the instruction retires (R85). A thread of a failed core stays as it is (R111). -/
def State.resumeWait (s : State) (t : Nat) : State :=
  let th := s.thr t
  let hit := s.rd R.LTN_THR_EVPEND_PEND t &&& s.waitSet t
  if th.st = .wait ∧ hit ≠ 0 ∧ s.lives t = true then
    let s1 := s.wr R.LTN_THR_EVPEND_PEND t (clearMask (s.rd R.LTN_THR_EVPEND_PEND t) hit)
    let s2 := s1.wr R.LTN_THR_WAITMASK_MASK t 0
    s2.setThr t { th.setG th.waitRd (word32 hit) with st := .run, pc := th.pc + 4, prg := 0 }
  else s

/-- Events arrive at the inputs of `mask` of thread `t` in one cycle (R78): each bit of EVPEND sets, and its bit of EVOVR if it
was set already. Events for a core that is being replaced are held by its cluster (R127). -/
def State.latchSet (s : State) (t mask : Nat) : State :=
  if (s.core (coreOf (s.slotAt t))).gated then
    { s with ltn := { s.ltn with heldEv := s.ltn.heldEv ++ [(t, mask)] } }
  else
    let p := s.rd R.LTN_THR_EVPEND_PEND t
    let s1 := s.wr R.LTN_THR_EVOVR_OVR t (s.rd R.LTN_THR_EVOVR_OVR t ||| (p &&& mask))
    let s2 := s1.wr R.LTN_THR_EVPEND_PEND t (p ||| mask)
    (s2.resumeWait t).settle t

/-- An event arrives at input `n` of thread `t` (R78). -/
def State.latch (s : State) (t n : Nat) : State := s.latchSet t (1 <<< n)

/-- The threads named in a list of inputs, each once, in order. -/
def threadsOf (l : List (Nat × Nat)) : List Nat := l.foldl (fun ts e => addOnce e.1 ts) []

/-- The mask of the inputs of thread `t` in a list. -/
def maskOf (l : List (Nat × Nat)) (t : Nat) : Nat := l.foldl (fun m e => if e.1 = t then orBit m e.2 else m) 0

/-- Latch every input of a list in one cycle. -/
def State.latchAll (s : State) (l : List (Nat × Nat)) : State :=
  (threadsOf l).foldl (fun s t => s.latchSet t (maskOf l t)) s

/-- A source of type `ty` and identity `id` fires: every input bound to it is set (R78, R80). -/
def State.fire (s : State) (ty id : Nat) : State := s.latchAll (s.boundTo ty id)

/-- The CHANNEL-bound inputs of a channel's READER are set (R81, R100). -/
def State.fireChannel (s : State) (chan : Nat) : State :=
  s.latchAll ((s.boundTo 4 chan).filter fun e => e.1 == s.reader chan)

/-! ### Interrupt lines (R91 to R93) -/

/-- Latch line `i` of one cluster. -/
def State.latchLineIn (s : State) (cl i : Nat) : State :=
  let x := 8 * cl + i / 32
  s.wr R.LTN_CL_IRQ_LATCH_LATCH x (orBit (s.rd R.LTN_CL_IRQ_LATCH_LATCH x) (i % 32))

/-- A hardware source latches its line in every cluster (R92). -/
def State.latchLine (s : State) (i : Nat) : State := (List.range 12).foldl (fun s cl => s.latchLineIn cl i) s

/-- The lines routed to thread `t` that are asserted (R91, R92), lowest first. -/
def State.pendingLines (s : State) (t : Nat) : List Nat :=
  (List.range 256).filter fun i =>
    let x := 256 * clusterOf t + i
    s.flag R.LTN_CL_IRQMAP_EN x && s.rd R.LTN_CL_IRQMAP_CORE x == (t / 8) % 8
      && s.rd R.LTN_CL_IRQMAP_THREAD x == slotOf t
      && bitAt (s.rd R.LTN_CL_IRQ_LATCH_LATCH (8 * clusterOf t + i / 32)) (i % 32)

/-! ### Channels (R94 to R106) -/

/-- Slots of a channel's ring. -/
def State.ringSize (s : State) (chan : Nat) : Nat := 2 ^ s.rd R.LTN_CH_CFG_SIZE_LOG2 chan

/-- Free slots of a channel's ring. -/
def State.freeSlots (s : State) (chan : Nat) : Nat := s.ringSize chan - (s.slots chan).length

/-- Append a slot at the tail of a channel: its SEQ is NEXT_SEQ, which advances (R95). -/
def State.pushSlot (s : State) (chan : Nat) (st : SlotSt) (m : ChMsg) : State :=
  let q := s.rd R.LTN_CH_STAT_NEXT_SEQ chan
  (s.setSlots chan (s.slots chan ++ [⟨q, st, m⟩])).wr R.LTN_CH_STAT_NEXT_SEQ chan (q + 1)

/-- The writer number of a writer that is not a thread (R95). -/
def hwWriter : Nat := 0x3FF

/-- A hardware block has room to commit a message to a channel, whatever its SCOPE. -/
def State.chanRoom (s : State) (chan : Nat) : Bool :=
  s.flag R.LTN_CH_CFG_ENABLE chan && decide (0 < s.freeSlots chan)

/-- A hardware block commits a message with its flags; it is visible at once and sets the reader's inputs (R100). The commit
is not made when the channel is closed or full. -/
def State.hwCommitF (s : State) (chan : Nat) (words : List Nat) (taint tagFail : Bool) : State :=
  if s.chanRoom chan then
    (s.pushSlot chan .visible ⟨words.map (BitVec.ofNat 64), taint, tagFail, hwWriter⟩).fireChannel chan
  else s

/-- A hardware block commits a message (R95, R100). -/
def State.hwCommit (s : State) (chan : Nat) (words : List Nat) : State := s.hwCommitF chan words false false

/-- The oldest slot of a ring that is not void is visible. -/
def firstVisible : List Slot → Bool
  | [] => false
  | sl :: r => match sl.st with
    | .void => firstVisible r
    | .visible => true
    | _ => false

/-- End the reservation of thread `t` with its unfilled slots VOID (R106, R108); a message that they had blocked wakes the
reader. -/
def State.voidResv (s : State) (t : Nat) : State :=
  match (s.thr t).resv with
  | none => s
  | some r =>
    let before := firstVisible (s.slots r.chan)
    let l := (s.slots r.chan).map fun sl => if sl.st = .held t then { sl with st := .void } else sl
    let s1 := (s.setSlots r.chan l).modThr t fun th => { th with resv := none }
    if !before && firstVisible l then s1.fireChannel r.chan else s1

/-! ### Lumen (R628 to R634) -/

/-- The instance number of counter `c` of block `b`. -/
def ctrIx (b c : Nat) : Nat := 8 * b + c

/-- Counter `c` of block `b` is chained with its neighbour (R630): the pair is named by its even counter. -/
def State.chained (s : State) (b c : Nat) : Bool := s.flag R.LUM_CTL_CHAIN (ctrIx b (c - c % 2))

/-- Raise LUMEN_OVF of block `b` (R633). -/
def State.lumenOvf (s : State) (b : Nat) : State := s.fire 6 b

/-- Set SAT of a counter; LUMEN_OVF is raised when OVF_IE is 1 and SAT was 0 (R633). -/
def State.setSat (s : State) (b c : Nat) : State :=
  let i := ctrIx b c
  if s.flag R.LUM_VAL_SAT i then s
  else
    let s1 := s.wr R.LUM_VAL_SAT i 1
    if s1.flag R.LUM_CTL_OVF_IE i then s1.lumenOvf b else s1

/-- The greatest VALUE of a counter (R632). -/
def ctrMax : Nat := 2 ^ 48 - 1

/-- Add `n` to counter `c` of block `b` (R632). -/
def State.addCtr (s : State) (b c n : Nat) : State :=
  let i := ctrIx b c
  let v := s.rd R.LUM_VAL_VALUE i
  if n = 0 then s
  else if !s.chained b c then
    if ctrMax < v + n then (s.wr R.LUM_VAL_VALUE i ctrMax).setSat b c else s.wr R.LUM_VAL_VALUE i (v + n)
  else
    let j := ctrIx b (c + 1)
    let h := s.rd R.LUM_VAL_VALUE j
    if v + n ≤ ctrMax then s.wr R.LUM_VAL_VALUE i (v + n)
    else if h = ctrMax then ((s.wr R.LUM_VAL_VALUE i ctrMax).setSat b c).setSat b (c + 1)
    else
      let s1 := (s.wr R.LUM_VAL_VALUE i (v + n - (ctrMax + 1))).wr R.LUM_VAL_VALUE j (h + 1)
      if s1.flag R.LUM_CTL_OVF_IE i then
        (s1.wr R.LUM_BLK_SAT_WRAP b (orBit (s1.rd R.LUM_BLK_SAT_WRAP b) c)).lumenOvf b
      else s1

/-- Blocks 39 and 40 of a B24 count nothing (R628). -/
def State.blockAbsent (s : State) (b : Nat) : Bool := decide (s.part = .b24 ∧ (b = 39 ∨ b = 40))

/-- Counter `c` of block `b` counts events of code `ev` now (R629, R631): it is enabled, its pair is whole, nothing is frozen.
-/
def State.counts (s : State) (b c ev : Nat) : Bool :=
  let i := ctrIx b c
  s.flag R.LUM_CTL_EN i && s.rd R.LUM_CTL_EVENT i == ev && decide (ev ≠ 0)
    && !(s.chained b c && (decide (c % 2 = 1) || !s.flag R.LUM_CTL_EN (ctrIx b (c + 1))))
    && !s.flag R.LUM_BLK_CTL_FREEZE b && !s.lum.frozen && !s.blockAbsent b

/-- The eight counters of a block that `p` admits take `n` (R632). -/
def State.countIf (s : State) (b n : Nat) (p : State → Nat → Bool) : State :=
  (List.range 8).foldl (fun s c => if p s c then s.addCtr b c n else s) s

/-- Events of code `ev` in block `b` add `n` (R629, R646). -/
def State.count (s : State) (b ev n : Nat) : State := s.countIf b n fun s c => s.counts b c ev

/-- The same for a kind with sub-units, for sub-unit `i` of FILTER (R628). -/
def State.countSub (s : State) (b ev i n : Nat) : State :=
  s.countIf b n fun s c => s.counts b c ev && bitAt (s.rd R.LUM_CTL_FILTER (ctrIx b c)) i

/-- A thread event of R642: counted by the counters of the thread's cluster whose SUB, FILTER, PL0 and PL1 take it. -/
def State.countThr (s : State) (t ev n : Nat) : State :=
  let pl1 := (s.thr t).pl1
  s.countIf (clusterOf t) n fun s c =>
    let i := ctrIx (clusterOf t) c
    s.counts (clusterOf t) c ev && s.rd R.LUM_CTL_SUB i == (t / 8) % 8
      && bitAt (s.rd R.LUM_CTL_FILTER i) (slotOf t)
      && (if pl1 then s.flag R.LUM_CTL_PL1 i else s.flag R.LUM_CTL_PL0 i)

/-! ### Storage errors (R206) -/

/-- An uncorrectable word with an internal physical address is found: written back with P = 1, counted, logged and reported.
-/
def State.uncorrectable (s : State) (a : Nat) : State :=
  let s1 := (s.setBad a true).sat R.MEM_ECC_CNT_UNCORRECTABLE 0 1
  let s2 := if s1.flag R.MEM_ECC_LOG_VALID 0 then s1
    else ((s1.wr R.MEM_ECC_LOG_ADDR 0 (8 * (a / 8))).wr R.MEM_ECC_LOG_VALID 0 1).latchLine 49
  s2.report (memUnit s2.part a) .eccUe (bitsAt a 6 32)

/-- A corrected word with an internal physical address: counted and reported; P stays as decoded (R206). -/
def State.correctedWord (s : State) (a : Nat) : State :=
  let s1 := (s.sat R.MEM_ECC_CNT_CORRECTED 0 1).report (memUnit s.part a) .eccCorr (bitsAt a 6 32)
  if a < hbmSize s.part then s1.countSub (37 + pseudoChannel s.part a / 32) 0x04 (pseudoChannel s.part a % 32 / 4) 1 else s1

/-! ### Rights (R649, R650) -/

/-- The accessor number of a writer (R649): Lantern PL1 threads, PF0 to PF7, JTAG, MCTP; Lighthouse needs no right. -/
def accessorOf : Writer → Option Nat
  | .thread _ => some 0
  | .fn f => if f < 8 then some (1 + f) else none
  | .jtag => some 9
  | .mctp => some 10
  | .lighthouse | .signed _ => none

/-- A role may grant a right (R650): 0 maker, 1 installer, 2 operator. -/
def mayGrant (role : Nat) (r : Right) : Bool :=
  match r with
  | .manager | .safety => decide (role ≤ 2)
  | .keys => role == 2
  | .debug => role == 2 || role == 0
  | .installer => role == 1 || role == 0
  | .maker => role == 0

/-- The writer holds a right (R650, R652, R669). -/
def State.holds (s : State) (w : Writer) (r : Right) : Bool :=
  match w with
  | .lighthouse => true
  | .signed k => mayGrant k r
  | _ => match accessorOf w with
    | some a => bitAt (s.rd R.LHS_RIGHTS_RIGHTS a) r.bit
    | none => false

/-! ### Reaching the device register space (R45, R134, R458) -/

/-- The offset of instance `i` of a register from 0x00F0_0000_0000: the instance number in mixed radix over the index letters.
-/
def RegD.off (d : RegD) (i : Nat) : Nat :=
  (d.dims.foldr (fun p a => (a.1 + (a.2 % p.2) * p.1, a.2 / p.2)) (d.base, i)).1

/-- The registers that a PF without the manager right may write through a slice: those of Lighthouse, the queue manager, the memory
system, Lumen and the Lantern clusters (R458, R496, R630), and the records of R539. -/
def sliceOpen (off : Nat) : Bool :=
  let k := off / 0x1000000
  decide (k = 0 ∨ k = 3 ∨ k = 0xC ∨ k = 0xD ∨ 0x10 ≤ k) || decide (0x2020000 ≤ off ∧ off < 0x2034000)
    || decide (0x4000000 ≤ off ∧ off < 0x4008000)

/-- PF `p` has an enabled segment that maps `off`, for writing if `wr` (R458). -/
def State.sliceMaps (s : State) (p off : Nat) (wr : Bool) : Bool :=
  (List.range 12).any fun g =>
    let i := 12 * p + g
    s.flag R.HIF_SLICE_EN i && (!wr || s.flag R.HIF_SLICE_WR i) && s.rd R.HIF_SLICE_BASE i == off / 0x400000

/-- A write of writer `w` at offset `off` of the device register space reaches the register (R45, R134, R458, R459). -/
def State.mayWrite (s : State) (w : Writer) (off : Nat) : Bool :=
  match w with
  | .thread t => (s.thr t).pl1
  | .fn p => (p == 0 && s.holds w .manager)
      || (decide (p < 8) && s.sliceMaps p off true && (s.holds w .manager || sliceOpen off))
  | _ => true

end Sys2Proof.Machine
end

