-- ==== Sys2Proof/Machine/Log.lean ====
section
/-!
DEFINITION. The change log of Lighthouse (R652, R673 to R675) and the notices of the safety core (R606): operations that many
families use.
-/

namespace Sys2Proof.Machine

/-- The ACTOR code of a writer (R673): its accessor number, 0xF0 for Lighthouse, or 0xF1 to 0xF3 for a role by signed object. -/
def actorOf (w : Writer) : Nat :=
  match w with
  | .signed k => 0xF1 + k
  | _ => (accessorOf w).getD 0xF0

/-- A unary counter (R659). -/
def State.counter (s : State) (f : Nat) : Nat := KMap.getD s.sec.ctr f 0

/-- Field numbers of the unary counters (R659). -/
def ctrAnchor : Nat := 0x20

/-- Raise a unary counter to `v`: a counter never falls (R659). -/
def State.raise (s : State) (f v : Nat) : State :=
  { s with sec := { s.sec with ctr := KMap.setD s.sec.ctr f 0 (Nat.max (s.counter f) v) } }

/-! ### OTP fields (R656) -/

/-- A slot of an OTP field. -/
def State.otpSlot (s : State) (f k : Nat) : OtpSlot := KMap.getD s.sec.otp (4 * f + k) ⟨0, false, 0⟩

/-- Bits of an OTP field (R659). -/
def otpBits (f : Nat) : Nat :=
  if f = 1 then 2 else if f ≤ 4 then 256 else if f = 5 then 512 else if f = 6 then 96 else if f = 7 then 960
  else if f = 8 then 1120 else if f = 9 then 32 else if f = 10 then 16 else 1

/-- CHECK of a slot (R656). -/
def otpCheck (f k v : Nat) : Nat := crc32c (leBytes 2 f ++ leBytes 1 k ++ leBytes ((otpBits f + 7) / 8) v) % 65536

/-- A slot is valid (R656). -/
def State.otpValid (s : State) (f k : Nat) : Bool :=
  (s.otpSlot f k).written && (s.otpSlot f k).check == otpCheck f k (s.otpSlot f k).value

/-- The winning slot of a field (R656). -/
def State.otpWin (s : State) (f : Nat) : Option Nat := [3, 2, 1, 0].find? fun k => s.otpValid f k

/-- The value of a field, if it has a valid slot. -/
def State.otpField (s : State) (f : Nat) : Option Nat := (s.otpWin f).map fun k => (s.otpSlot f k).value

/-- The device's serial number (R659 field 0x06, R687). -/
def State.serial (s : State) : Nat := (s.otpField 6).getD 0 % 2 ^ 64

/-! ### Functions and their links (R446, R451, R495), and what passes on a link (R628, R646) -/

/-- The PF of function `f`: itself, or the PF whose active range of VFs holds it. -/
def State.pfOf (s : State) (f : Nat) : Option Nat :=
  if f < 8 then some f
  else (List.range 8).find? fun p =>
    let a := s.rd R.HIF_PF_VF_ACT_FIRST p
    decide (a ≤ f ∧ f < a + s.rd R.HIF_PF_VF_ACT_COUNT p)

/-- The link code and EN in force of a PF (R451). -/
def State.pfLink (s : State) (p : Nat) : Nat × Nat := KMap.getD s.hif.pfAct p (0, b2n (p == 0))

/-- The link of a function: H0A, H0B, H1A, H1B. -/
def State.linkOf (s : State) (f : Nat) : Nat :=
  match s.pfOf f with
  | some p => (s.pfLink p).1
  | none => 0

/-- The host port of a function, 0 or 1 (R495). -/
def State.hostPort (s : State) (f : Nat) : Nat := s.linkOf f / 2

/-- Count an event of the host interface against a function's link (R628). -/
def State.countHost (s : State) (f ev n : Nat) : State := s.countSub (32 + s.hostPort f) ev (s.linkOf f % 2) n

/-- A TLP received on a host link (R646). -/
def State.tlpIn (s : State) (l : Nat) : State := s.countSub (32 + l / 2) 0x02 (l % 2) 1

/-- A TLP sent on a host link, beside what the machine shows of it (R646). -/
def State.tlpOut (s : State) (l : Nat) : State := s.countSub (32 + l / 2) 0x01 (l % 2) 1

/-- A request on a link that is answered by a completion: a TLP each way. -/
def State.tlpBoth (s : State) (l : Nat) : State := (s.tlpIn l).tlpOut l

/-- Send a TLP that the machine shows. -/
def State.sendTlp (s : State) (l : Nat) (o : Out) : State := (s.emit o).tlpOut l

/-! ### Messages to the host (R464 to R469) -/

/-- Configuration-space settings of a function. -/
def State.fcfg (s : State) (f : Nat) : FnCfg := KMap.getD s.hif.fns f FnCfg.fresh

/-- Set them. -/
def State.setFcfg (s : State) (f : Nat) (c : FnCfg) : State :=
  { s with hif := { s.hif with fns := KMap.setD s.hif.fns f FnCfg.fresh c } }

/-- The key of a vector. -/
def vecKey (f v : Nat) : Nat := 2048 * f + v

/-- An MSI-X table entry. -/
def State.msixEnt (s : State) (f v : Nat) : MsixEnt := KMap.getD s.hif.msix (vecKey f v) MsixEnt.fresh

/-- A pending bit. -/
def State.msixPend (s : State) (f v : Nat) : Bool := KMap.getD s.hif.pend (vecKey f v) false

/-- Set a pending bit. -/
def State.setPend (s : State) (f v : Nat) (b : Bool) : State :=
  { s with hif := { s.hif with pend := KMap.setD s.hif.pend (vecKey f v) false b } }

/-- A function may send a message on a vector now (R466, R467, R485). -/
def State.msgOpen (s : State) (f v : Nat) : Bool :=
  let c := s.fcfg f
  c.msixEn && c.bme && !c.fnMask && !(s.msixEnt f v).mask && s.rd R.HIF_FN_STAT_DSTATE f == 0

/-- The interrupt condition of a PF: the OR of the pending bits of the vectors that take part (R468, R469). -/
def State.intxCond (s : State) (p : Nat) : Bool :=
  !(s.fcfg p).msixEn && s.hif.pend.any fun e => e.1 / 2048 == p && !((s.fcfg p).intms.contains (e.1 % 2048))

/-- Act on a change of the interrupt condition of a PF or of Interrupt Disable (R468). -/
def State.intx (s : State) (p : Nat) : State :=
  if 8 ≤ p then s
  else
    let want := s.intxCond p && !(s.fcfg p).intxDis
    let on := s.hif.intx.contains p
    if want && !on then { (s.sendTlp (s.linkOf p) (.assertIntx p)) with hif := { s.hif with intx := s.hif.intx ++ [p] } }
    else if !want && on then { (s.sendTlp (s.linkOf p) (.deassertIntx p)) with hif := { s.hif with intx := s.hif.intx.filter fun q => q != p } }
    else s

/-- A message is due on a vector of a function (R467). -/
def State.msix (s : State) (f v : Nat) : State :=
  if s.msgOpen f v then s.sendTlp (s.linkOf f) (.msix f v (s.msixEnt f v).addr (s.msixEnt f v).data)
  else (s.setPend f v true).intx f

/-- Send the pending messages of a function whose vectors have been opened (R467). -/
def State.flushMsgs (s : State) (f : Nat) : State :=
  ((s.hif.pend.filter fun e => e.1 / 2048 == f).foldl (fun s e =>
    let v := e.1 % 2048
    if s.msgOpen f v then (s.sendTlp (s.linkOf f) (.msix f v (s.msixEnt f v).addr (s.msixEnt f v).data)).setPend f v false
    else s) s).intx f

/-- An Ethernet port or a fabric port is up (R489). -/
def State.anyLink (s : State) : Bool :=
  (List.range 16).any (fun e => s.flag R.ETH_PORT_STAT_LINK_UP e)
    || (List.range 8).any (fun p => s.rd R.BCN_PORT_STAT_STATE p == 3)

/-- Send an LTR message on each host link whose value has changed (R489). -/
def State.ltr (s : State) : State :=
  let v := if s.anyLink then 10 else 1000
  (List.range 4).foldl (fun s l =>
    if s.flag R.HIF_LINK_STAT_UP l && KMap.find s.hif.ltr l != some v then
      { (s.sendTlp l (.ltr l v)) with hif := { s.hif with ltr := KMap.put s.hif.ltr l v } }
    else s) s

/-- EV3 of t0 of the safety core, and one message on MGR_VEC of PF0 (R606). -/
def State.noticeSafety (s : State) : State :=
  let s1 := if s.flag R.LHS_NOTICE_CFG_EN 0 then
      s.latch (64 * s.rd R.LHS_NOTICE_CFG_CLUSTER 0 + 8 * s.rd R.LHS_NOTICE_CFG_CORE 0) 3
    else s
  if s1.flag R.LHS_NOTICE_CFG_MGR_EN 0 then s1.msix 0 (s1.rd R.LHS_NOTICE_CFG_MGR_VEC 0) else s1

/-- Records the change log holds (R673). -/
def logMax : Nat := 2048

/-- The bytes 0 to 63 of a record (R673), DETAIL as 64-bit little-endian items. -/
def logHead (seq ty actor anchor time : Nat) (detail : List Nat) : Bytes :=
  leBytes 8 seq ++ leBytes 1 ty ++ leBytes 1 actor ++ zeros 2 ++ leBytes 4 anchor ++ leBytes 8 time
    ++ sliceB (detail.flatMap fun v => leBytes 8 v) 0 40

/-- A record can be appended: the log is not full and not BROKEN, and ANCHOR has a bit left where one is burned (R675, R676).
-/
def State.canLog (s : State) (anchored : Bool) : Bool :=
  decide (s.sec.log.length < logMax) && !s.flag R.LHS_LOG_STAT_BROKEN 0
    && (!anchored || decide (s.counter ctrAnchor < 2048))

/-- Append a record to the change log (R673 to R675); an anchored record carries ANCHOR one above the counter, and one bit of
ANCHOR is then burned. Nothing happens when the record cannot be appended. NEAR_FULL becoming 1 is notified. -/
def State.logAppend (s : State) (ty actor : Nat) (detail : List Nat) (anchored : Bool) : State :=
  if s.canLog anchored then
    let anchor := s.counter ctrAnchor + b2n anchored
    let h := logHead s.sec.logSeq ty actor anchor s.time detail
    let link := shake256 (s.sec.logLink ++ h) 64
    let r : LogRec := ⟨s.sec.logSeq, ty, actor, anchor, s.time, detail, link⟩
    let s1 := { s with sec := { s.sec with
      log := s.sec.log ++ [r], logSeq := s.sec.logSeq + 1, logLink := link } }
    let s2 := if anchored then s1.raise ctrAnchor anchor else s1
    if s2.sec.log.length = 1792 then s2.noticeSafety else s2
  else s

/-- A write of an RWL field is refused for want of its right (R12, R652): counted, and recorded at most once per 60 s. One that a signed
blob asks for is recorded (R669). -/
def State.refuse (s : State) (w : Writer) (off : Nat) : State :=
  match accessorOf w with
  | none => match w with
    | .signed _ => s.logAppend 0x0D (actorOf w) [off, 1] false
    | _ => s
  | some a =>
    let s1 := ((s.sat R.LHS_REFUSED_COUNT 0 1).wr R.LHS_REFUSED_LAST_ACC 0 a).wr R.LHS_REFUSED_LAST_OFF 0 off
    let n := s1.sec.refused + 1
    let due := match s1.sec.refusedAt with
      | none => true
      | some t => decide (t + 60000000000 ≤ s1.time)
    if due then
      let s2 := { s1 with sec := { s1.sec with refused := 0, refusedAt := some s1.time } }
      s2.logAppend 0x0D a [off, n] false
    else { s1 with sec := { s1.sec with refused := n } }

/-! ### Writes of register fields (R9 to R13) -/

/-- The value is not reserved for the field (R13). -/
def Fld.admits (f : Fld) (v : Nat) : Bool := f.ok.isEmpty || f.ok.any fun r => decide (r.1 ≤ v ∧ v ≤ r.2)

/-- The bits of a field in a register value. -/
def Fld.of (f : Fld) (val : Nat) : Nat := bitsAt val f.lo f.w

/-- Set a writable field; a reserved value keeps the previous one (R13). -/
def State.setField (s : State) (f : Fld) (i val : Nat) : State := if f.admits (f.of val) then s.wr f i (f.of val) else s

/-- Write one field as its Access code lays down (R9, R12, R13). -/
def State.wrField (s : State) (w : Writer) (f : Fld) (i val : Nat) : State :=
  match f.acc with
  | .rw => s.setField f i val
  | .rw1c => s.wr f i (clearMask (s.rd f i) (f.of val))
  | .rw1s => s.wr f i (s.rd f i ||| f.of val)
  | .ro | .wo => s
  | .rwl r => if s.holds w r then s.setField f i val else s
  | .wol _ => s

/-- Write the fields of a register instance. -/
def State.wrReg (s : State) (w : Writer) (d : RegD) (i val : Nat) : State :=
  d.flds.foldl (fun s f => s.wrField w f i val) s

/-! ### Locked registers (R12, R650, R652, R674, R675) -/

/-- Every accepted write under the right is recorded (R650). -/
def Right.logged : Right → Bool
  | .safety | .keys | .installer | .maker => true
  | .manager | .debug => false

/-- The right that a field names. -/
def Fld.right (f : Fld) : Option Right :=
  match f.acc with
  | .rwl r | .wol r => some r
  | _ => none

/-- An accepted write is recorded as SETTING before it takes effect; without a record it is not made (R674, R675). -/
def State.setting (s : State) (w : Writer) (off val : Nat) (k : State → State) : State :=
  if s.canLog false then k (s.logAppend 0x07 (actorOf w) [off, val] false) else s

/-- A register without its locked fields. -/
def RegD.unlocked (d : RegD) : RegD := { d with flds := d.flds.filter fun f => f.right.isNone }

/-- Write a register that has locked fields: a write that wants a right is refused in those fields and recorded (R12, R652), an accepted
one of the rights that are logged is recorded first (R650). -/
def State.wrLocked (s : State) (w : Writer) (d : RegD) (i val : Nat) : State :=
  let used := fun (f : Fld) => match f.acc with
    | .wol _ => f.of val != 0
    | _ => true
  let rs := (d.flds.filter used).filterMap Fld.right
  let s1 := if rs.all fun r => s.holds w r then s else s.refuse w (d.off i)
  if rs.any fun r => s.holds w r && r.logged then
    if s1.canLog false then s1.setting w (d.off i) val fun s => s.wrReg w d i val
    else s1.wrReg w d.unlocked i val
  else s1.wrReg w d i val

end Sys2Proof.Machine
end

