-- ==== Sys2Proof/Machine/Lumen.lean ====
section
/-!
DEFINITION. The commands of 15_lumen_counters.md: snapshots, clears, the device-wide freeze, and the parity check.
-/

namespace Sys2Proof.Machine

/-- Clear the eight counters of a block with SAT and PERR (R634, CLEAR). -/
def State.clearBlock (s : State) (b : Nat) : State :=
  (List.range 8).foldl (fun s c =>
    s.wrs (ctrIx b c) [(R.LUM_VAL_VALUE, 0), (R.LUM_VAL_SAT, 0), (R.LUM_VAL_PERR, 0)]) s

/-- Clear every counter of the device (R640). -/
def State.clearCounters (s : State) : State := (List.range 71).foldl State.clearBlock s

/-- Start a snapshot with its instant 200 ns from now (R638). -/
def State.startSnapshot (s : State) : State :=
  (s.wr R.LUM_SNAP_CTL_BUSY 0 1).wr R.LUM_SNAP_CTL_REFUSED 0 0 |> fun s =>
    { s with lum := { s.lum with snapAt := some (s.time + 200) } }

/-- SNAPSHOT_GO (R638, R639): a snapshot starts, or is refused while one is in progress. -/
def doSnapshotGo (w : Writer) (s : State) : State :=
  if s.mayWrite w Reg.LUM_SNAP_CTL.base then
    if s.flag R.LUM_SNAP_CTL_BUSY 0 then s.wr R.LUM_SNAP_CTL_REFUSED 0 1 else s.startSnapshot
  else s

/-- SNAPSHOT_PERIODIC (R639): PERIOD_US after the T of the last snapshot a new one starts; while one is in progress it is skipped
and sets REFUSED. -/
def doSnapshotPeriodic (s : State) : State :=
  let p := 1000 * s.rd R.LUM_SNAP_CTL_PERIOD_US 0
  if p ≠ 0 ∧ s.lum.base + p ≤ s.time then
    if s.flag R.LUM_SNAP_CTL_BUSY 0 then
      let s1 := s.wr R.LUM_SNAP_CTL_REFUSED 0 1
      { s1 with lum := { s1.lum with base := s1.lum.base + p } }
    else s.startSnapshot
  else s

/-- Copy counter `c` of block `b` into LUM_SNAP; an absent block reads 0 (R628, R638). -/
def State.snapOne (s : State) (b c : Nat) : State :=
  let i := ctrIx b c
  if s.blockAbsent b then s
  else s.wrs i [(R.LUM_SNAP_VALUE, s.rd R.LUM_VAL_VALUE i), (R.LUM_SNAP_SAT, s.rd R.LUM_VAL_SAT i),
    (R.LUM_SNAP_PERR, s.rd R.LUM_VAL_PERR i)]

/-- SNAPSHOT_TAKE (R638): at the instant T every counter is copied with its SAT and PERR. -/
def doSnapshotTake (s : State) : State :=
  match s.lum.snapAt with
  | some at_ =>
    if at_ ≤ s.time then
      let s1 := { s with lum := { s.lum with snapAt := none, taken := some at_ } }
      (List.range 568).foldl (fun s k => s.snapOne (k / 8) (k % 8)) s1
    else s
  | none => s

/-- SNAPSHOT_DONE (R638): BUSY clears, SEQ increments, LUM_SNAP_TIME holds T, and inputs bound as LUMEN with SRC_ID 0x00FF are
set. -/
def doSnapshotDone (s : State) : State :=
  match s.lum.taken with
  | some at_ =>
    let s1 := ((s.wr R.LUM_SNAP_CTL_BUSY 0 0).bump R.LUM_SNAP_CTL_SEQ 0).wr R.LUM_SNAP_TIME_T 0 at_
    let s2 := { s1 with lum := { s1.lum with taken := none, base := at_ } }
    ((s2.latchLine 51).fire 6 0xFF).count 68 0x02 1
  | none => s

/-- COUNTER_BLOCK_CLEAR (R634): CLEAR of LUM_BLK_CTL_b. -/
def doCounterBlockClear (w : Writer) (b : Nat) (s : State) : State :=
  if b < 71 ∧ s.mayWrite w (Reg.LUM_BLK_CTL.off b) = true then s.clearBlock b else s

/-- FREEZE_ALL (R640): FREEZE_ALL takes its value, and every counter stops or restarts at one instant 200 ns later. -/
def doFreezeAll (w : Writer) (freeze : Bool) (s : State) : State :=
  if s.mayWrite w Reg.LUM_GLOBAL_CTL.base then
    let s1 := s.setFlag R.LUM_GLOBAL_CTL_FREEZE_ALL 0 freeze
    { s1 with lum := { s1.lum with freezeAt := some (s1.time + 200, freeze) } }
  else s

/-- CLEAR_ALL (R640): every counter becomes 0 at one instant 200 ns later. -/
def doClearAll (w : Writer) (s : State) : State :=
  if s.mayWrite w Reg.LUM_GLOBAL_CTL.base then { s with lum := { s.lum with clearAt := some (s.time + 200) } } else s

/-- The counters stop or restart at the instant of a freeze that the timebase has reached (R640). -/
def State.freezeDue (s : State) : State :=
  match s.lum.freezeAt with
  | some (at_, f) => if at_ ≤ s.time then { s with lum := { s.lum with freezeAt := none, frozen := f } } else s
  | none => s

/-- The counters clear at the instant of a clear that the timebase has reached (R640). -/
def State.clearDue (s : State) : State :=
  match s.lum.clearAt with
  | some at_ => if at_ ≤ s.time then { s.clearCounters with lum := { s.lum with clearAt := none } } else s
  | none => s

/-- Event codes of a block that count clocks, issue slots, cache and memory traffic, mesh flits or link replays (R642, R646), none of
which the model holds (log entry 159). -/
def openEvents (b : Nat) : List Nat :=
  if b < 12 then [0x01, 0x04, 0x05, 0x06, 0x07, 0x08, 0x09, 0x0D, 0x10]
  else if b < 16 then [0x07]
  else if b < 20 then []
  else if b < 24 then [0x07]
  else if b = 25 then [0x05]
  else if 26 ≤ b ∧ b < 30 then [0x07]
  else if b = 30 ∨ b = 31 then [0x06]
  else if 32 ≤ b ∧ b < 36 then [0x05]
  else if 37 ≤ b ∧ b < 41 then [0x01, 0x02, 0x03, 0x05]
  else if 41 ≤ b ∧ b < 49 then [0x01, 0x02, 0x03, 0x04]
  else if 49 ≤ b ∧ b < 53 then [0x01, 0x02]
  else []

/-- A counter that counts such an event goes on by a free amount as time passes. -/
def State.openCount (s : State) (i : Nat) : State :=
  let ev := s.rd R.LUM_CTL_EVENT i
  if (openEvents (i / 8)).contains ev && s.counts (i / 8) (i % 8) ev then s.draw.2.addCtr (i / 8) (i % 8) (s.draw.1 % 65536) else s

/-- Every such counter of the device. -/
def State.openCounts (s : State) : State := (List.range 568).foldl State.openCount s

/-- The instants of R640 that the timebase has reached take effect. -/
def State.lumenInstants (s : State) : State := s.freezeDue.clearDue

/-- COUNTER_PARITY_CHECK (R636): each counter found in error, by 8 × block + counter, sets PERR and is reported, charged to the
Lumen unit. -/
def doCounterParityCheck (errors : List Nat) (s : State) : State :=
  errors.foldl (fun s i =>
    if i < 568 then ((s.wr R.LUM_VAL_PERR i 1).report (unitId 15 0) .parity i).count 68 0x03 1 else s) s

/-! ### The meanings of the rows -/

/-- SNAPSHOT_GO (R638). -/
def execSnapshotGo (w : Writer) (s : State) : Host.Outcome State Fault Refusal :=
  .next (s.after (doSnapshotGo w s))

/-- SNAPSHOT_PERIODIC (R639). -/
def execSnapshotPeriodic (s : State) : Host.Outcome State Fault Refusal :=
  .next (s.after (doSnapshotPeriodic s))

/-- SNAPSHOT_TAKE (R638). -/
def execSnapshotTake (s : State) : Host.Outcome State Fault Refusal :=
  .next (s.after (doSnapshotTake s))

/-- SNAPSHOT_DONE (R638). -/
def execSnapshotDone (s : State) : Host.Outcome State Fault Refusal :=
  .next (s.after (doSnapshotDone s))

/-- COUNTER_BLOCK_CLEAR (R634). -/
def execCounterBlockClear (w : Writer) (b : Nat) (s : State) : Host.Outcome State Fault Refusal :=
  .next (s.after (doCounterBlockClear w b s))

/-- FREEZE_ALL (R640). -/
def execFreezeAll (w : Writer) (freeze : Bool) (s : State) : Host.Outcome State Fault Refusal :=
  .next (s.after (doFreezeAll w freeze s))

/-- CLEAR_ALL (R640). -/
def execClearAll (w : Writer) (s : State) : Host.Outcome State Fault Refusal :=
  .next (s.after (doClearAll w s))

/-- COUNTER_PARITY_CHECK (R636). -/
def execCounterParityCheck (errors : List Nat) (s : State) : Host.Outcome State Fault Refusal :=
  .next (s.after (doCounterParityCheck errors s))

end Sys2Proof.Machine
end

