-- ==== Sys2Proof/Machine/PowerOps.lean ====
section
/-!
DEFINITION. The power state of the blocks (R695 to R703) as other families change it: waking a block, and the PLLs that run while a
block they feed is lit or dim.
-/

namespace Sys2Proof.Machine

/-- Power blocks (R696). -/
def blockCount : Nat := 323

/-- The PLL that feeds a block, in the order CORE, PIPE, MESH, GLINT, HBM (R702, R696). -/
def pllOf (b : Nat) : Nat :=
  if b < 108 then 0 else if b < 117 then 1 else if b < 149 then 3 else if b < 277 then 4 else 2

/-- A PLL runs while any block it feeds is lit or dim, and is then locked (R703); PLL_LHS is Lighthouse's to start. -/
def State.settlePll (s : State) (p : Nat) : State :=
  let on := (List.range blockCount).any fun b => pllOf b == p && s.rd R.PWR_BLK_STAT_POWER b != 2
  let put := fun (v : Nat) => if on then orBit v p else clearMask v (1 <<< p)
  s.wrs 0 [(R.PWR_PLL_STAT_RUNNING, put (s.rd R.PWR_PLL_STAT_RUNNING 0)), (R.PWR_PLL_STAT_LOCKED, put (s.rd R.PWR_PLL_STAT_LOCKED 0))]

/-- Set the power state of a block; that of a Glint cluster shows in GLT_CL_STAT too. -/
def State.setPower (s : State) (b v : Nat) : State :=
  let s1 := s.wr R.PWR_BLK_STAT_POWER b v
  let s2 := if 117 ≤ b ∧ b < 149 then s1.wr R.GLT_CL_STAT_POWER (b - 117) v else s1
  s2.settlePll (pllOf b)

/-- Wake a block (R698): the wake is counted by the state it leaves. -/
def State.wakeBlock (s : State) (b : Nat) : State :=
  match s.rd R.PWR_BLK_STAT_POWER b with
  | 0 => s
  | 1 => ((s.sat R.PWR_BLK_STAT_WAKE_DIM b 1).count 66 0x01 1).setPower b 0
  | _ => ((s.sat R.PWR_BLK_STAT_WAKE_DARK b 1).count 66 0x02 1).setPower b 0

end Sys2Proof.Machine
end

