-- ==== Sys2Proof/Machine/Clock.lean ====
section
/-!
DEFINITION. The tick: what one cycle of REFCLK_AON does when no command waits (R705, R638, R640, R646; log entry 1).
-/

namespace Sys2Proof.Machine

/-- The timebase after one cycle of REFCLK_AON, in ns and 10^-9 ns: 40 ns corrected by RATE_PPB (R705, R706). -/
def State.nextTime (s : State) : Nat × Nat :=
  let owed : Int := (s.frac : Int) + 40 * signedOf 24 (s.rd R.PWR_TB_STAT_RATE_PPB 0)
  (((s.time : Int) + 40 + owed / 1000000000).toNat, (owed % 1000000000).toNat)

/-- The work of a unit in SHEDDING has been shed: its test runs (R620). -/
def State.shedDone (s : State) : State :=
  if s.rd R.LHS_TEST_STAT_STATE 0 = 2 then s.wr R.LHS_TEST_STAT_STATE 0 3 else s

/-- Lit blocks (R695, R696). -/
def State.litBlocks (s : State) : Nat := ((List.range blockCount).filter fun b => s.rd R.PWR_BLK_STAT_POWER b == 0).length

/-- Microseconds have passed: those of block 70, and the lit block-microseconds of block 66 (R646). -/
def State.countMicros (s : State) (k : Nat) : State := (s.count 70 0x01 k).count 66 0x03 (k * s.litBlocks)

/-- The timebase advances by one cycle, and the counters of time with it. -/
def State.advance (s : State) : State :=
  ({ s with time := s.nextTime.1, frac := s.nextTime.2 }.count 70 0x02 1).countMicros (s.nextTime.1 / 1000 - s.time / 1000)

/-- One cycle of REFCLK_AON; in power-on reset nothing happens. -/
def State.tick (s : State) : State := if s.pwr.boot = .held then s else s.advance.openCounts.lumenInstants.shedDone

end Sys2Proof.Machine
end

