-- ==== Sys2Proof/Machine/Frames.lean ====
section
/-!
DEFINITION. Operations on frames that the packet families share: the cells of the packet buffer (R342, R356), the input of a
pipeline (R275), exception queues (R257), flow keys (R310) and the host port of a receive queue (R331, R495).
-/

namespace Sys2Proof.Machine

/-! ### State access -/

/-- The Prism of a pipeline. -/
def State.prism (s : State) (p : Nat) : Prism := KMap.getD s.prisms p Prism.fresh

/-- Set the Prism of a pipeline. -/
def State.setPrism (s : State) (p : Nat) (x : Prism) : State := { s with prisms := KMap.setD s.prisms p Prism.fresh x }

/-- Change the Prism of a pipeline. -/
def State.modPrism (s : State) (p : Nat) (f : Prism → Prism) : State := s.setPrism p (f (s.prism p))

/-- The value in force of a staged field (R266). -/
def Prism.val (x : Prism) (f : Fld) (i : Nat) : Nat := KMap.getD x.cfg (f.key i) (f.rst.at i)

/-- The value in force of a staged field of one bit. -/
def Prism.on (x : Prism) (f : Fld) (i : Nat) : Bool := x.val f i == 1

/-! ### Functions and their host ports (R446, R451, R495, R531) -/

/-! ### Functions that exist (R446, R447, R451, R535) -/

/-- The settings in force of a host port (R449): BIFUR, MAX_RATE, FLIT_EN. -/
def State.portCfg (s : State) (n : Nat) : Nat × Nat × Nat := KMap.getD s.hif.portAct n (0, 3, 1)

/-- A link exists under its port's mode (R447). -/
def State.linkExists (s : State) (l : Nat) : Bool := decide (l < 4) && (l % 2 == 0 || (s.portCfg (l / 2)).1 == 1)

/-- A PF is enabled. -/
def State.pfOn (s : State) (p : Nat) : Bool := decide (p < 8) && (s.pfLink p).2 == 1 && s.linkExists (s.pfLink p).1

/-- The enabled PFs of a link, in PF order (R452). -/
def State.pfsOf (s : State) (l : Nat) : List Nat := (List.range 8).filter fun p => s.pfOn p && (s.pfLink p).1 == l

/-- The VFs in the range of a PF. -/
def State.vfsOf (s : State) (p : Nat) : List Nat :=
  (List.range (s.rd R.HIF_PF_VF_ACT_COUNT p)).map fun k => s.rd R.HIF_PF_VF_ACT_FIRST p + k

/-- A PF with its VFs. -/
def State.familyOf (s : State) (p : Nat) : List Nat := p :: s.vfsOf p

/-- A function exists (R535). -/
def State.fnExists (s : State) (f : Nat) : Bool :=
  match s.pfOf f with
  | none => false
  | some p =>
    s.pfOn p && (decide (f < 8)
      || ((s.fcfg p).vfEn && decide (f < s.rd R.HIF_PF_VF_ACT_FIRST p + (s.fcfg p).numVfs)))

/-- The functions that exist, of those of a list. -/
def State.existing (s : State) (l : List Nat) : List Nat := l.filter s.fnExists

/-- Every function that exists. -/
def State.allFns (s : State) : List Nat :=
  (List.range 8).flatMap fun p =>
    if s.pfOn p then
      p :: (if (s.fcfg p).vfEn then (List.range (Nat.min (s.fcfg p).numVfs (s.rd R.HIF_PF_VF_ACT_COUNT p))).map fun k =>
        s.rd R.HIF_PF_VF_ACT_FIRST p + k else [])
    else []

/-- Configuration requests of a function are answered with Successful Completion (R480, R710, R713). -/
def State.cfgOpen (s : State) (f : Nat) : Bool :=
  decide (s.pwr.boot = .ready ∨ s.pwr.boot = .running) && !s.pwr.perst.contains (s.hostPort f)
    && !s.flag R.HIF_FN_STAT_FLR_BUSY f

/-- A configuration write to a function: answered with Unsupported Request where there is no function, with Request Retry Status while
the function is not ready, else performed. -/
def State.viaCfg (s : State) (f : Nat) (k : State → State) : State :=
  let r :=
    if !s.fnExists f then s.emit (.unsupportedRequest f)
    else if !s.cfgOpen f then s.emit (.requestRetry f)
    else k s
  r.tlpBoth (s.linkOf f)

/-! ### Cells (R342, R356) -/

/-- Cells that a frame occupies (R342). -/
def cellsOf (n : Nat) : Nat := (n + 255) / 256

/-- Cells of the packet buffer. -/
def cellCount : Nat := 262144

/-- Take `k` cells for a frame: FREE falls and LOW follows it. -/
def State.takeCells (s : State) (k : Nat) : State :=
  let f := s.rd R.TM_BUF_STAT_FREE 0 - k
  ((s.wr R.TM_BUF_STAT_FREE 0 f).wr R.TM_BUF_STAT_LOW 0 (Nat.min f (s.rd R.TM_BUF_STAT_LOW 0))).count 65 0x01 k

/-- The first cell of a new frame is a free choice of a cell that begins no frame; its generation rises (R356, log entry 3). -/
def State.firstCell (s : State) : Nat × State :=
  let d := s.draw
  let tries := (List.range (s.pb.used.length + 1)).map fun j => (d.1 + j) % cellCount
  let c := (tries.find? fun c => (KMap.find s.pb.used c).isNone).getD 0
  let g := (KMap.getD s.pb.gen c 0 + 1) % 16384
  (c + g * 2 ^ 18,
    { d.2 with pb := { d.2.pb with gen := KMap.setD d.2.pb.gen c 0 g, used := KMap.put d.2.pb.used c true } })

/-- Put a new frame into the packet buffer; `none` when no cells are free for it (R34). -/
def State.newFrame (s : State) (p : Pkt) : Option (Pkt × State) :=
  let k := cellsOf p.data.length
  if k ≤ s.rd R.TM_BUF_STAT_FREE 0 then
    let c := (s.takeCells k).firstCell
    some ({ p with handle := c.1 }, c.2)
  else none

/-- Free the cells of a frame. -/
def State.freeFrame (s : State) (p : Pkt) : State :=
  let k := cellsOf p.data.length
  let s1 := { s with pb := { s.pb with used := KMap.del s.pb.used (p.handle % 2 ^ 18) } }
  (s1.wr R.TM_BUF_STAT_FREE 0 (s1.rd R.TM_BUF_STAT_FREE 0 + k)).count 65 0x02 k

/-- A frame takes the place in the buffer of another length (after Glint); the cells follow. -/
def State.resizeFrame (s : State) (p : Pkt) (data : Bytes) : Pkt × State :=
  let f := s.rd R.TM_BUF_STAT_FREE 0 + cellsOf p.data.length - cellsOf data.length
  ({ p with data := data }, (s.wr R.TM_BUF_STAT_FREE 0 f).wr R.TM_BUF_STAT_LOW 0 (Nat.min f (s.rd R.TM_BUF_STAT_LOW 0)))

/-! ### The input of a pipeline (R275) -/

/-- Frames at the input of a pipeline. -/
def State.arrivals (s : State) (p : Nat) : List Pkt := KMap.getD s.pb.arrive p []

/-- Set the frames at the input of a pipeline. -/
def State.setArrivals (s : State) (p : Nat) (l : List Pkt) : State :=
  { s with pb := { s.pb with arrive := KMap.setD s.pb.arrive p [] l } }

/-- A frame comes to the input of its pipeline. -/
def State.enterPrism (s : State) (p : Pkt) : State := s.setArrivals p.pipe (s.arrivals p.pipe ++ [p])

/-! ### Exception queues (R257, R286, R357) -/

/-- Hold a frame for firmware. -/
def State.holdFrame (s : State) (p : Pkt) : State :=
  let s1 := { s with pb := { s.pb with held := KMap.put s.pb.held p.handle ⟨p, s.time⟩ } }
  s1.wr R.TM_PKT_STAT_HELD 0 s1.pb.held.length

/-- Send a frame to exception queue `q` of its pipeline with a reason (R257): three words, and the frame is held; or it is dropped
and counted. -/
def State.exceptTo (s : State) (p : Pkt) (q reason : Nat) : State :=
  let i := 16 * p.pipe + q
  let chan := s.rd R.PRS_EXCQ_CHAN i
  if s.flag R.PRS_EXCQ_EN i && s.chanRoom chan then
    let w0 := p.handle + p.data.length % 2 ^ 16 * 2 ^ 32 + reason * 2 ^ 48
    let w2 := match p.win with
      | some (b, r) => b + r * 2 ^ 5 + 2 ^ 16
      | none => 0
    ((s.holdFrame p).hwCommit chan [w0, p.key % 2 ^ 48, w2]).count (12 + p.pipe) 0x09 1
  else (s.sat R.PRS_CNT_B_EXC_DROP p.pipe 1).freeFrame p

/-- The exception queue of the frame's profile. -/
def State.profQueue (s : State) (p : Pkt) : Nat := (s.prism p.pipe).val R.PRS_PROF_EXCQ (64 * p.pipe + p.prof % 64)

/-- Send a frame to its profile's exception queue. -/
def State.except (s : State) (p : Pkt) (reason : Nat) : State := s.exceptTo p (s.profQueue p) reason

/-! ### Action records (R255) -/

/-- DISP of an action record. -/
def actDisp (a : Nat) : Nat := bitsAt a 0 4

/-- FWD of an action record. -/
def actFwd (a : Nat) : Nat := bitsAt a 4 4

/-- A DISP or FWD value is reserved. -/
def actReserved (a : Nat) : Bool := decide (5 ≤ actDisp a ∨ 5 ≤ actFwd a)

/-! ### Flow keys (R189, R291, R302, R310) -/

/-- CRC-32C of a byte string with a seed, as BCRC returns it (R189). -/
def crcSeed (seed : Nat) (bs : Bytes) : Nat := crcRun crc32cPoly (seed % 2 ^ 32 ^^^ 0xFFFFFFFF) bs ^^^ 0xFFFFFFFF

/-- Byte `n` of a Prism key (R280). -/
def keyByte (key n : Nat) : Byte := BitVec.ofNat 8 (bitsAt key (8 * n) 8)

/-- One segment of a flow key (R310). -/
def flowSeg (key off : Nat) (on : Bool) : Bytes :=
  if on then (List.range 8).map fun j => keyByte key (off + j) else zeros 8

/-- The 40-byte flow key under flow key profile `n` (R310). -/
def State.flowKey (s : State) (key n : Nat) : Bytes :=
  flowSeg key (s.rd R.FWD_FPROF_OFF_0 n) (s.flag R.FWD_FPROF_EN_0 n)
    ++ flowSeg key (s.rd R.FWD_FPROF_OFF_1 n) (s.flag R.FWD_FPROF_EN_1 n)
    ++ flowSeg key (s.rd R.FWD_FPROF_OFF_2 n) (s.flag R.FWD_FPROF_EN_2 n)
    ++ flowSeg key (s.rd R.FWD_FPROF_OFF_3 n) (s.flag R.FWD_FPROF_EN_3 n)
    ++ flowSeg key (s.rd R.FWD_FPROF_OFF_4 n) (s.flag R.FWD_FPROF_EN_4 n)

/-- The first flow hash h of a frame, under FLOW_PROF of its action set (R291, R302, R310). -/
def State.flowHash (s : State) (p : Pkt) : Nat :=
  let n := bitsAt p.act 24 8
  crcSeed (s.rd R.FWD_FLOW_SEED_SEED_1 0) (s.flowKey p.key n ++ leBytes 1 n)

/-! ### Carry checks (R49, R57) -/

/-- A carry mismatch in the block of a unit is reported (R56, R57). -/
def State.carryFault (s : State) (unit : Nat) : State := s.report unit .carry 0

/-- Carry segments of a data unit (R49). -/
def segmentsOf (n : Nat) : Nat := (n + 255) / 256

end Sys2Proof.Machine
end

