-- ==== Sys2Proof/Machine/Eth.lean ====
section
/-!
DEFINITION. The Ethernet ports of 01_architecture.md (R21 to R29, R34, R739): port layout, links, frames received and sent.
-/

namespace Sys2Proof.Machine

/-! ### Ports of the lane groups (R26, R27) -/

/-- MODE of a lane group. -/
def State.ethMode (s : State) (n : Nat) : Nat := s.rd R.ETH_GRP_CFG_MODE n

/-- The partner of a lane group in a 1.6 TbE pair. -/
def pairOf (n : Nat) : Nat := if n % 2 = 0 then n + 1 else n - 1

/-- Lane `e` is the first lane of a port (R26, R27). -/
def State.firstLane (s : State) (e : Nat) : Bool :=
  let n := e / 4
  match s.ethMode n with
  | 0 => decide (e < 16)
  | 1 => decide (e < 16) && e % 2 == 0
  | 2 => decide (e < 16) && e % 4 == 0
  | _ => decide (e < 16) && e % 8 == 0 && s.ethMode (pairOf n) == 3

/-- The port at lane `e` exists and is in use. -/
def State.portOn (s : State) (e : Nat) : Bool := s.firstLane e && s.flag R.ETH_PORT_CFG_EN e

/-- RATE of a port by its MODE (R26). -/
def State.ethRate (s : State) (e : Nat) : Nat := s.ethMode (e / 4) + 1

/-- Count an event of a port's lane group, against its first lane (R628, R646). -/
def State.countEth (s : State) (e ev n : Nat) : State := s.countSub (20 + e / 4) ev (e % 4) n

/-! ### Links (R28, R29) -/

/-- LINK_UP falls (R29): the line is latched, the fall counted, and every frame handed to the MAC is aborted. -/
def State.linkFall (s : State) (e : Nat) : State :=
  if !s.flag R.ETH_PORT_STAT_LINK_UP e then s
  else
    let s1 := (s.wrs e [(R.ETH_PORT_STAT_LINK_UP, 0), (R.ETH_PORT_STAT_RATE, 0)]).sat R.ETH_PORT_STAT_DOWN_CNT e 1
    let s2 := (s1.latchLine e).ltr
    let l := KMap.getD s2.ethTx e []
    let s3 := { s2 with ethTx := KMap.del s2.ethTx e }
    l.foldl (fun s f => ((s.sat R.ETH_PORT_CNT_TX_ABORT e 1).countEth e 0x06 1).freeFrame f) s3

/-- ETH_LINK_UP (R29): training and alignment are complete and no fault is set. -/
def doEthLinkUp (e : Nat) (hiSer : Bool) (s : State) : State :=
  if s.portOn e = true ∧ s.flag R.ETH_PORT_STAT_LINK_UP e = false then
    ((s.wrs e [(R.ETH_PORT_STAT_LINK_UP, 1), (R.ETH_PORT_STAT_BLOCK_LOCK, 1), (R.ETH_PORT_STAT_AM_LOCK, 1),
      (R.ETH_PORT_STAT_LOCAL_FAULT, 0), (R.ETH_PORT_STAT_REMOTE_FAULT, 0), (R.ETH_PORT_STAT_HI_SER, b2n hiSer),
      (R.ETH_PORT_STAT_RATE, s.ethRate e)]).latchLine e).ltr
  else s

/-- ETH_LINK_DOWN (R29): alignment is lost or a fault is set; the operands say which. -/
def doEthLinkDown (e : Nat) (blockLock amLock localFault remoteFault : Bool) (s : State) : State :=
  if s.portOn e = true ∧ s.flag R.ETH_PORT_STAT_LINK_UP e = true
      ∧ (blockLock && amLock && !localFault && !remoteFault) = false then
    (s.linkFall e).wrs e [(R.ETH_PORT_STAT_BLOCK_LOCK, b2n blockLock), (R.ETH_PORT_STAT_AM_LOCK, b2n amLock),
      (R.ETH_PORT_STAT_LOCAL_FAULT, b2n localFault), (R.ETH_PORT_STAT_REMOTE_FAULT, b2n remoteFault)]
  else s

/-- A port trains anew: its status returns to reset values, except DOWN_CNT (R27, R28). -/
def State.portStatReset (s : State) (e : Nat) : State :=
  s.wrs e [(R.ETH_PORT_STAT_LINK_UP, 0), (R.ETH_PORT_STAT_BLOCK_LOCK, 0), (R.ETH_PORT_STAT_AM_LOCK, 0),
    (R.ETH_PORT_STAT_LOCAL_FAULT, 0), (R.ETH_PORT_STAT_REMOTE_FAULT, 0), (R.ETH_PORT_STAT_HI_SER, 0),
    (R.ETH_PORT_STAT_RATE, 0)]

/-- A write of ETH_PORT_CFG (R26, R28): on a lane that is no first lane it is ignored; a change of FEC, LOOPBACK or AN_EN while EN is
1, and a clear of EN, drop the link. -/
def State.wrPortCfg (s : State) (w : Writer) (e val : Nat) : State :=
  if !s.firstLane e then s
  else
    let keep := fun (s : State) => (s.rd R.ETH_PORT_CFG_FEC e, s.rd R.ETH_PORT_CFG_LOOPBACK e, s.rd R.ETH_PORT_CFG_AN_EN e)
    let s1 := s.wrReg w Reg.ETH_PORT_CFG e val
    if s.flag R.ETH_PORT_CFG_EN e = true ∧ (s1.flag R.ETH_PORT_CFG_EN e = false ∨ keep s ≠ keep s1) then
      (s1.linkFall e).portStatReset e
    else s1

/-- ETH_PORT_CFG_WRITE (R28). -/
def doEthPortCfgWrite (w : Writer) (e val : Nat) (s : State) : State :=
  if e < 16 ∧ s.mayWrite w (Reg.ETH_PORT_CFG.off e) = true then s.wrPortCfg w e val else s

/-- MODE 3 lacks its partner (R27). -/
def State.pairLacks (s : State) (n : Nat) : Bool := (s.ethMode n == 3) != (s.ethMode (pairOf n) == 3)

/-- A port that a change of MODE of group `n` to `m` would touch has EN 1 (R27). -/
def State.groupBusy (s : State) (n m : Nat) : Bool :=
  (List.range 4).any (fun i => s.portOn (4 * n + i))
    || ((s.ethMode n == 3 || m == 3) && s.portOn (8 * (n / 2)))

/-- A write of ETH_GRP_CFG (R26, R27); a reserved MODE keeps the previous value (R13). -/
def State.wrGrpCfg (s : State) (n val : Nat) : State :=
  let m := bitsAt val 0 3
  if 3 < m then s
  else if s.groupBusy n m then s.wr R.ETH_GRP_CFG_CFG_ERR n 1
  else if m = s.ethMode n then s.setFlag R.ETH_GRP_CFG_CFG_ERR n (s.pairLacks n)
  else
    let lacked := s.pairLacks n
    let s1 := s.wr R.ETH_GRP_CFG_MODE n m
    let s2 := (List.range 4).foldl (fun s i => s.portStatReset (4 * n + i)) s1
    let lacks := s2.pairLacks n
    let q := pairOf n
    let s3 := (s2.setFlag R.ETH_GRP_CFG_CFG_ERR n lacks).setFlag R.ETH_GRP_CFG_CFG_ERR q
      (lacks || (s2.flag R.ETH_GRP_CFG_CFG_ERR q && !lacked))
    if m = 3 ∧ s3.ethMode q = 3 then
      let e := 8 * (n / 2)
      ((s3.resetReg Reg.ETH_PORT_CFG e).resetReg Reg.ETH_PORT_CNT e).portStatReset e
    else s3

/-- ETH_GRP_MODE_WRITE (R27). -/
def doEthGrpModeWrite (w : Writer) (n val : Nat) (s : State) : State :=
  if n < 4 ∧ s.mayWrite w (Reg.ETH_GRP_CFG.off n) = true then s.wrGrpCfg n val else s

/-! ### The spread of a 1.6 TbE port (R22) -/

/-- A field of `n` bytes at `off`, or `none` when the frame ends before it. -/
def fieldAt (data : Bytes) (off n : Nat) : Option Bytes :=
  if off + n ≤ data.length then some ((data.drop off).take n) else none

/-- The fields of a list in order, up to the first that the frame lacks. -/
def fieldsUpTo (data : Bytes) : List (Nat × Nat) → Bytes
  | [] => []
  | (off, n) :: r => match fieldAt data off n with
    | some b => b ++ fieldsUpTo data r
    | none => []

/-- The offset of the EtherType after up to two VLAN tags. -/
def etherTypeAt (data : Bytes) : Nat :=
  let tag := fun (o : Nat) => beVal (sliceB data o 2) = 0x8100 ∨ beVal (sliceB data o 2) = 0x88A8
  if tag 12 then (if tag 16 then 20 else 16) else 12

/-- The byte string that the spread hashes (R22). -/
def spreadKey (data : Bytes) : Bytes :=
  let o := etherTypeAt data
  let ty := if o + 2 ≤ data.length then beVal (sliceB data o 2) else 0
  let h := o + 2
  let byte := fun (k : Nat) => (data.getD k 0).toNat
  let addr := [(0, 12)]
  if ty = 0x0800 then
    let ports := decide (byte h % 16 = 5 ∧ beVal (sliceB data (h + 6) 2) % 0x4000 = 0 ∧ (byte (h + 9) = 6 ∨ byte (h + 9) = 17))
    fieldsUpTo data (addr ++ [(h + 12, 4), (h + 16, 4), (h + 9, 1)] ++ if ports then [(h + 20, 4)] else [])
  else if ty = 0x86DD then
    let ports := decide (byte (h + 6) = 6 ∨ byte (h + 6) = 17)
    fieldsUpTo data (addr ++ [(h + 8, 16), (h + 24, 16), (h + 6, 1)] ++ if ports then [(h + 40, 4)] else [])
  else fieldsUpTo data addr

/-- The pipeline that takes a frame of the port at lane `e` (R21, R22). -/
def State.ethPipe (s : State) (e : Nat) (data : Bytes) : Nat :=
  if s.ethMode (e / 4) = 3 then 2 * (e / 8) + crc32c (spreadKey data) % 2 else e / 4

/-! ### Frames (R24, R28, R34, R55, R739) -/

/-- The receive path of a port takes a frame, FCS included (R28, R34). -/
def State.ethTake (s : State) (e : Nat) (frame : Bytes) : State :=
  let n := frame.length - 4
  let data := frame.take n
  if frame.length < 4 ∨ leVal (frame.drop n) ≠ ethFcs data then
    (s.sat R.ETH_PORT_CNT_FCS_ERR e 1).countEth e 0x03 1
  else if frame.length < 64 then s.sat R.ETH_PORT_CNT_UNDERSIZE e 1
  else if s.rd R.ETH_PORT_CFG_MAX_FRAME e < frame.length then s.sat R.ETH_PORT_CNT_OVERSIZE e 1
  else
    let s1 := (s.countEth e 0x01 1).countEth e 0x02 frame.length
    match s1.newFrame { Pkt.fresh with pipe := s.ethPipe e data, src := e, data := data, locKind := 1, locDest := e } with
    | some (f, s2) => s2.enterPrism f
    | none => (s1.count 24 0x06 1).countEth e 0x08 1

/-- ETH_FRAME_RECEIVE (R28, R739): a frame arrives on the wire of a port in use whose link is up. With LOOPBACK 1 the wire is ignored;
with LOOPBACK 2 its signal also returns to the wire. -/
def doEthFrameReceive (e : Nat) (frame : Bytes) (s : State) : State :=
  if s.portOn e = true ∧ s.flag R.ETH_PORT_STAT_LINK_UP e = true ∧ s.rd R.ETH_PORT_CFG_LOOPBACK e ≠ 1 then
    let s1 := if s.rd R.ETH_PORT_CFG_LOOPBACK e = 2 then s.emit (.ethFrame e frame false) else s
    s1.ethTake e frame
  else s

/-- Bytes put on the wire, which LOOPBACK 1 also returns to the receive path (R739). -/
def State.ethWire (s : State) (e : Nat) (bytes : Bytes) (aborted : Bool) : State :=
  let s1 := s.emit (.ethFrame e bytes aborted)
  if s1.rd R.ETH_PORT_CFG_LOOPBACK e = 1 then s1.ethTake e bytes else s1

/-- ETH_FRAME_TRANSMIT (R28, R55, R57): the MAC pads and sends the oldest frame handed to it and appends its FCS. A carry mismatch in
segment `badSegment` ends the frame aborted after that segment, with the inverted FCS of the bytes sent. -/
def doEthFrameTransmit (e : Nat) (badSegment : Option Nat) (s : State) : State :=
  match KMap.getD s.ethTx e [] with
  | [] => s
  | f :: r =>
    if s.portOn e = true ∧ s.flag R.ETH_PORT_STAT_LINK_UP e = true then
      let s1 := { s with ethTx := KMap.setD s.ethTx e [] r }
      let bad := match badSegment with
        | some g => decide (g < segmentsOf f.data.length)
        | none => false
      if bad then
        let sent := f.data.take (256 * (badSegment.getD 0 + 1))
        let fcs := leBytes 4 (ethFcs sent ^^^ 0xFFFFFFFF)
        let s2 := ((s1.sat R.ETH_PORT_CNT_TX_ABORT e 1).countEth e 0x06 1).carryFault (unitId 17 (e / 4))
        (s2.ethWire e (sent ++ fcs) true).freeFrame f
      else
        let sent := f.data ++ zeros (60 - f.data.length)
        let s2 := (s1.countEth e 0x04 1).countEth e 0x05 (sent.length + 4)
        (s2.ethWire e (sent ++ leBytes 4 (ethFcs sent)) false).freeFrame f
    else s

/-! ### The meanings of the rows -/

/-- ETH_GRP_MODE_WRITE (R27). -/
def execEthGrpModeWrite (w : Writer) (n : Nat) (val : Nat) (s : State) : Host.Outcome State Fault Refusal :=
  .next (s.after (doEthGrpModeWrite w n val s))

/-- ETH_PORT_CFG_WRITE (R28). -/
def execEthPortCfgWrite (w : Writer) (e : Nat) (val : Nat) (s : State) : Host.Outcome State Fault Refusal :=
  .next (s.after (doEthPortCfgWrite w e val s))

/-- ETH_FRAME_RECEIVE (R28). -/
def execEthFrameReceive (e : Nat) (frame : Bytes) (s : State) : Host.Outcome State Fault Refusal :=
  .next (s.after (doEthFrameReceive e frame s))

/-- ETH_FRAME_TRANSMIT (R28). -/
def execEthFrameTransmit (e : Nat) (badSegment : Option Nat) (s : State) : Host.Outcome State Fault Refusal :=
  .next (s.after (doEthFrameTransmit e badSegment s))

/-- ETH_LINK_UP (R29). -/
def execEthLinkUp (e : Nat) (hiSer : Bool) (s : State) : Host.Outcome State Fault Refusal :=
  .next (s.after (doEthLinkUp e hiSer s))

/-- ETH_LINK_DOWN (R29). -/
def execEthLinkDown (e : Nat) (blockLock : Bool) (amLock : Bool) (localFault : Bool) (remoteFault : Bool) (s : State) :
    Host.Outcome State Fault Refusal :=
  .next (s.after (doEthLinkDown e blockLock amLock localFault remoteFault s))

end Sys2Proof.Machine
end

