-- ==== Sys2Proof/Machine/Thread.lean ====
section
/-!
DEFINITION. What the commands of a Lantern thread share: the words of its instructions, exception entry and return (R182, R183),
instruction boundaries (R186), retirement, halts, and the thread MMU (R215 to R218).
-/

namespace Sys2Proof.Machine

/-! ### Instruction words (R136) -/

/-- Format R. -/
def wordR (op : Nat) (rd ra rb : Reg5) (fn : Nat) : Nat :=
  op <<< 26 ||| rd.val <<< 21 ||| ra.val <<< 16 ||| rb.val <<< 11 ||| fn

/-- Formats I and S. -/
def wordI (op : Nat) (rd ra : Reg5) (imm : Nat) : Nat := op <<< 26 ||| rd.val <<< 21 ||| ra.val <<< 16 ||| imm

/-- Format Q. -/
def wordQ (op : Nat) (rd ra rb rc : Reg5) (qfn : Nat) : Nat :=
  op <<< 26 ||| rd.val <<< 21 ||| ra.val <<< 16 ||| rb.val <<< 11 ||| rc.val <<< 6 ||| qfn

/-! ### Exceptions (R180 to R185) -/

/-- The classes of R180. -/
inductive Cls where
  | illegal | priv | misaligned | access | privAccess | pageFault | memUe | syscall | breakpoint | chLeaseLost | progressBad
  | regfileUe | eclipse | groupEclipse | interrupt
  deriving DecidableEq, Repr

/-- The codes of R180. -/
def Cls.code : Cls → Nat
  | .illegal => 0x01 | .priv => 0x02 | .misaligned => 0x03 | .access => 0x04 | .privAccess => 0x05 | .pageFault => 0x06
  | .memUe => 0x07 | .syscall => 0x08 | .breakpoint => 0x09 | .chLeaseLost => 0x0A | .progressBad => 0x0B
  | .regfileUe => 0x0C | .eclipse => 0x10 | .groupEclipse => 0x11 | .interrupt => 0x20

/-- TSTAT as a 32-bit word (R131). -/
def Thread.tstat (th : Thread) : BitVec 32 :=
  BitVec.ofNat 32 (b2n th.pl1 + 2 * b2n th.ie + 4 * b2n th.exa + 8 * b2n th.xlate + 16 * b2n th.leaseLost)

/-- Push a record into a core's fault queue and set EV0 of t0, with other inputs of t0 in the same cycle (R109, R110). -/
def State.pushFault (s : State) (c : Nat) (r : FltRec) (mask : Nat) : State :=
  let s1 :=
    if (s.core c).fltq.length < 16 then s.modCore c fun k => { k with fltq := k.fltq ++ [r] }
    else (s.wr R.LTN_CORE_FLTQ_STAT_OVF c 1).sat R.LTN_CORE_FLTQ_STAT_LOST c 1
  s1.latchSet (8 * c) (orBit mask 0)

/-- The thread halts (R122, R123): its staged words, reservation and events are untouched, DBG_CAUSE takes the cause, and its
halt request is cleared. A halt of t0 pauses the heartbeat check when HB_PAUSE_ON_HALT is 1 (R112). -/
def State.haltThread (s : State) (t cause : Nat) : State :=
  let c := coreOf t
  let s1 := s.modThr t fun th => { th with st := .halt, stepping := false, blk := none, lens := none, lensIn := [] }
  let s2 := (s1.wr R.LTN_THR_CTL_DBG_CAUSE t cause).wr R.LTN_THR_WAITMASK_MASK t 0
  let s3 := s2.wr R.LTN_DBG_CTL_HALT_REQ c (clearMask (s2.rd R.LTN_DBG_CTL_HALT_REQ c) (1 <<< slotOf t))
  let s4 := if slotOf t = 0 ∧ s3.flag R.LTN_DBG_CTL_HB_PAUSE_ON_HALT c = true then
      s3.modCore c fun k => { k with hbStart := none } else s3
  s4.settle t

/-- A fault raised while the thread's handler is active (R183): the thread is FAULTED and its supervisor told; for t0 the core
stops issuing and Lighthouse is told (R111). -/
def State.nestedFault (s : State) (t : Nat) (cls : Cls) : State :=
  let c := coreOf t
  if slotOf t = 0 then
    (s.modCore c fun k => { k with failed := true }).report (coreUnit s c) .coreFailed 0
  else
    let pc := (s.thr t).pc
    let stop := fun (th : Thread) => { th with st := .faulted, stepping := false, blk := none, lens := none, lensIn := [] }
    let s1 := (s.modThr t stop).wr R.LTN_THR_WAITMASK_MASK t 0
    (s1.pushFault c ⟨cls.code, slotOf t, pc.toNat % 2 ^ 48⟩ 0).settle t

/-- Exception entry (R182) of class `cls` with EINFO `info` and return address `ret`. Every entry but an interrupt's counts as an
exception and its instruction as issued and not retired (R642, R644). -/
def State.enter (s : State) (t : Nat) (cls : Cls) (info : Nat) (ret : Word) : State :=
  let th := s.thr t
  let s0 := s.countThr t 0x03 1
  if th.exa then s0.nestedFault t cls
  else
    let s1 := s0.countThr t (if cls = .interrupt then 0x0F else 0x0E) 1
    let s2 := s1.modThr t fun th =>
      { th with st := .run, estat := th.tstat, epc := ret, eprg := th.prg, ecause := cls.code,
                einfo := BitVec.ofNat 64 info, pl1 := true, ie := false, exa := true, prg := 0, pc := th.evec, blk := none,
                lens := none, lensIn := [] }
    let s3 := s2.wr R.LTN_THR_WAITMASK_MASK t 0
    if th.stepping ∧ cls ≠ .interrupt then s3.haltThread t 4 else s3.settle t

/-- An exception of the present instruction, with EPC on it. -/
def State.raiseAt (s : State) (t : Nat) (cls : Cls) (info : Nat) : State := s.enter t cls info (s.thr t).pc

/-- The "Memory layout" of EINFO (R181). -/
def memInfo (addr acc reason : Nat) : Nat := addr % 2 ^ 48 + acc <<< 48 + reason <<< 50

/-! ### Instruction boundaries (R184 to R186) -/

/-- A hardware breakpoint of the core matches the thread's next instruction (R123). -/
def State.bpMatch (s : State) (t : Nat) : Bool :=
  let c := coreOf t
  s.flag R.LTN_DBG_CTL_BP_EN c && (List.range 4).any fun b =>
    s.flag R.LTN_DBG_BP_EN (4 * c + b) && s.rd R.LTN_DBG_BP_ADDR (4 * c + b) == (s.thr t).pc.toNat / 4

/-- A debug halt request stands for the thread. -/
def State.haltReq (s : State) (t : Nat) : Bool := bitAt (s.rd R.LTN_DBG_CTL_HALT_REQ (coreOf t)) (slotOf t)

/-- An interrupt can be taken (R184). -/
def State.irqReady (s : State) (t : Nat) : Bool :=
  (s.thr t).ie && !(s.thr t).exa && !(s.pendingLines t).isEmpty

/-- Interrupt entry (R185): EINFO holds the lowest asserted line routed to the thread; the return address is the next
instruction, or the WAIT or block instruction in progress (R88, R194). -/
def State.takeInterrupt (s : State) (t : Nat) : State :=
  s.enter t .interrupt ((s.pendingLines t).headD 0) (s.thr t).pc

/-- The first three causes of R186 at an instruction boundary; `none` when none is present. A STEP executes its instruction even
at a hardware breakpoint (R122). -/
def State.boundary (s : State) (t : Nat) : Option State :=
  if s.haltReq t then some (s.haltThread t 1)
  else if s.bpMatch t && !(s.thr t).stepping && (s.thr t).blk.isNone then some (s.haltThread t 3)
  else if s.irqReady t then some (s.takeInterrupt t)
  else none

/-- The thread can issue: it is in RUN, on a core that issues, and has no block instruction or fabric load in progress. -/
def State.canIssue (s : State) (t : Nat) : Bool :=
  decide (t < 768) && (s.thr t).st == .run && (s.thr t).blk.isNone && (s.thr t).lens.isNone && s.lives t

/-- The thread is at an instruction boundary or at the progress record of a block instruction (R194): no load or look-up of its
instruction waits for the fabric. -/
def Thread.atBoundary (th : Thread) : Bool :=
  match th.blk with
  | some b => decide (b.1 < 4)
  | none => th.lens.isNone

/-- Issue an instruction of thread `t`: the causes at the boundary act first (R186), else `k` executes it. A thread that cannot
issue is left as it is. -/
def State.issue (s : State) (t : Nat) (k : State → State) : State :=
  if s.canIssue t then
    match s.boundary t with
    | some s' => s'
    | none => k s
  else s

/-- The instruction retires with the thread's state changed by `f`, and the next instruction is at `npc`. PRG becomes 0 unless
`keep` (R190). A stepped thread halts (R122). -/
def State.retireK (s : State) (t : Nat) (keep : Bool) (npc : Word) (f : Thread → Thread) : State :=
  let th := s.thr t
  let th1 := f th
  let s1 := (s.countThr t 0x02 1).setThr t { th1 with pc := npc, prg := if keep then th1.prg else 0 }
  if th.stepping then s1.haltThread t 4 else s1

/-- The instruction retires and the thread goes on with the next one. -/
def State.retire (s : State) (t : Nat) (f : Thread → Thread) : State := s.retireK t false ((s.thr t).pc + 4) f

/-- The instruction retires and writes RD. -/
def State.result (s : State) (t : Nat) (rd : Reg5) (v : Word) : State := s.retire t fun th => th.setG rd v

/-- PRIV unless the thread is at PL1 (R134); EINFO is the instruction word. -/
def State.privOr (s : State) (t word : Nat) (k : State → State) : State :=
  if (s.thr t).pl1 then k s else s.raiseAt t .priv word

/-- PRIV unless the thread is at PL1 or UPERM grants the unit (R134). -/
def State.upermOr (s : State) (t bit word : Nat) (k : State → State) : State :=
  if (s.thr t).pl1 || bitAt (s.thr t).uperm bit then k s else s.raiseAt t .priv word

/-! ### The thread MMU (R147, R215 to R218) -/

/-- The kinds of access; the code is ACC of R181. -/
inductive AKind where
  | load | store | fetch | atomic
  deriving DecidableEq, Repr

/-- ACC of R181. -/
def AKind.code : AKind → Nat
  | .load => 0 | .store => 1 | .fetch => 2 | .atomic => 3

/-- A leaf's permissions allow the access (R216). -/
def AKind.permits (k : AKind) (r w x : Bool) : Bool :=
  match k with
  | .load => r
  | .store => w
  | .fetch => x
  | .atomic => r && w

/-- What a walk finds: a leaf, a failure with a REASON of R217, or an uncorrectable table word. -/
inductive Walk where
  | leaf (e : TlbEnt)
  | fail (reason : Nat)
  | ue
  deriving DecidableEq, Repr

/-- The entry's must-be-0 bits are set, or R = 0 with W = 1 (R217 FORMAT). -/
def pteBadBits (e : Nat) : Bool :=
  bitsAt e 10 2 != 0 || bitsAt e 48 16 != 0 || (!bitAt e 1 && bitAt e 2)

/-- One level of the walk of R215, from level `n` down: table address, virtual address, access. A lower REASON goes first. -/
def walkFrom (s : State) (asid va : Nat) (k : AKind) (pl1 : Bool) : Nat → Nat → Walk
  | 0, tbl => walkLeaf s asid va k pl1 0 tbl
  | n + 1, tbl =>
    let a := tbl + 8 * bitsAt va (12 + 9 * (n + 1)) 9
    if s.badRange a 8 then .ue
    else
      let e := s.mval a 8
      if !bitAt e 0 then .fail 0
      else if bitAt e 1 || bitAt e 2 || bitAt e 3 then walkLeaf s asid va k pl1 (n + 1) tbl
      else if bitAt e 4 || bitAt e 5 || pteBadBits e then .fail 3
      else if !inHbm s.part (bitsAt e 12 36 * 4096) 4096 then .fail 4
      else walkFrom s asid va k pl1 n (bitsAt e 12 36 * 4096)
where
  /-- The entry at level `n` taken as a leaf. -/
  walkLeaf (s : State) (asid va : Nat) (k : AKind) (pl1 : Bool) (n tbl : Nat) : Walk :=
    let a := tbl + 8 * bitsAt va (12 + 9 * n) 9
    if s.badRange a 8 then .ue
    else
      let e := s.mval a 8
      let r := bitAt e 1
      let w := bitAt e 2
      let x := bitAt e 3
      if !bitAt e 0 then .fail 0
      else if (r || x) && !k.permits r w x then .fail 1
      else if (r || x) && !pl1 && !bitAt e 4 then .fail 2
      else if pteBadBits e || !(r || x) || (n != 3 && bitsAt e 12 (9 * n) != 0) then .fail 3
      else if n = 3 then .fail 5
      else .leaf ⟨asid, bitAt e 5, va / 2 ^ (12 + 9 * n), 12 + 9 * n, bitsAt e 12 36 * 4096, r, w, x, bitAt e 4⟩

/-- The walk of R215 from a page-table base. -/
def walk (s : State) (ptbr asid va : Nat) (k : AKind) (pl1 : Bool) : Walk :=
  let root := bitsAt ptbr 12 36 * 4096
  if inHbm s.part root 4096 then walkFrom s asid va k pl1 3 root else .fail 4

/-- A cached translation serves the address in the address space (R218). -/
def TlbEnt.matches (e : TlbEnt) (asid va : Nat) : Bool := (e.glob || e.asid == asid) && e.vpn == va / 2 ^ e.shift

/-- Physical address through a leaf (R215). -/
def TlbEnt.phys (e : TlbEnt) (va : Nat) : Nat := e.pa + va % 2 ^ e.shift

/-- The cached leaf admits the access. -/
def TlbEnt.admits (e : TlbEnt) (k : AKind) (pl1 : Bool) : Bool := k.permits e.r e.w e.x && (pl1 || e.u)

/-- Translations that one core's TLBs hold: 32 + 64 + 1,024 (R218). -/
def tlbMax : Nat := 1120

/-- Cache a leaf, in place of one for the same page, the oldest entries beyond the capacity leaving. -/
def tlbAdd (cap : Nat) (l : List TlbEnt) (e : TlbEnt) : List TlbEnt :=
  let l1 := (l.filter fun x => !(x.vpn == e.vpn && x.shift == e.shift && x.asid == e.asid)) ++ [e]
  l1.drop (l1.length - cap)

/-- Translate with a list of cached translations: a cached leaf that admits the access is used unless the cache has replaced it
meanwhile, which is a free choice; else the tables are walked and a good leaf is cached (R218, log entry 3). Answers the
physical address or the failed walk, the cached translations and the state. -/
def translateWith (s : State) (cap : Nat) (tlb : List TlbEnt) (ptbr asid va : Nat) (k : AKind) (pl1 : Bool) :
    (Nat ⊕ Walk) × List TlbEnt × Bool × State :=
  let hit := tlb.find? fun e => e.matches asid va && e.admits k pl1
  match hit with
  | some e =>
    let d := s.draw
    if d.1 % 2 = 0 then (.inl (e.phys va), tlb, false, d.2) else go d.2
  | none => go s
where
  go (s : State) : (Nat ⊕ Walk) × List TlbEnt × Bool × State :=
    match walk s ptbr asid va k pl1 with
    | .leaf e => (.inl (e.phys va), tlbAdd cap tlb e, true, s)
    | w => (.inr w, tlb, true, s)

/-- What an access of a thread answers before it is performed: the physical address, or the exception it raises. -/
inductive Xl where
  | pa (a : Nat)
  | exc (cls : Cls) (info : Nat)
  deriving DecidableEq, Repr

/-- Translate an address of thread `t` (R147): bits [63:48] must be zero; XLATE = 0 is the physical address. -/
def State.translate (s : State) (t : Nat) (va : Nat) (k : AKind) : Xl × State :=
  let th := s.thr t
  if 2 ^ 48 ≤ va then (.exc .access (memInfo va k.code 1), s)
  else if !th.xlate then (.pa va, s)
  else
    let c := coreOf t
    let x := translateWith s tlbMax (s.core c).tlb th.ptbr.toNat th.asid va k th.pl1
    let s1 := x.2.2.2.modCore c fun k => { k with tlb := x.2.1 }
    let s2 := if x.2.2.1 then s1.countThr t 0x0A 1 else s1
    match x.1 with
    | .inl a => (.pa a, s2)
    | .inr (.fail r) => (.exc .pageFault (memInfo va k.code r), s2)
    | .inr _ => (.exc .memUe (memInfo va k.code 0), s2)

/-- Items 11 and 12 of R186 on a physical address: PRIV_ACCESS at PL0 of the register space or the SRAM window (R134), and the
regions each access kind reaches (R148). `block` marks a block instruction. -/
def State.checkPhys (s : State) (t va pa : Nat) (k : AKind) (block : Bool) : Option (Cls × Nat) :=
  let rg := region s.part pa
  let priv := decide (rg = .trie ∨ rg = .pktBuf ∨ rg = .mac ∨ rg = .l2 ∨ rg = .sysCache ∨ rg = .regSpace)
  let no (r : Nat) := some (.access, memInfo va k.code r)
  if k = .fetch then
    match rg with
    | .hbm => none
    | .reserved | .l2 | .sysCache => no 0
    | _ => no 3
  else if priv && !(s.thr t).pl1 then some (.privAccess, memInfo va k.code 0)
  else
    match rg with
    | .hbm | .trie | .pktBuf | .mac => none
    | .l2 | .sysCache | .reserved => no 0
    | .regSpace => if k = .atomic || block then no 3 else none
    | .lens => if k = .atomic && !block then no 3 else none

/-- Translate and check an access of thread `t`; the answer is the physical address or the exception. -/
def State.reach (s : State) (t va : Nat) (k : AKind) (block : Bool) : Xl × State :=
  match s.translate t va k with
  | (.pa pa, s1) => match s1.checkPhys t va pa k block with
    | some e => (.exc e.1 e.2, s1)
    | none => (.pa pa, s1)
  | (x, s1) => (x, s1)

/-- Count a poisoned read and raise MEM_UE at the present instruction (R206, R207). -/
def State.raiseUe (s : State) (t va pa n : Nat) (k : AKind) : State :=
  (s.countPoison pa n).raiseAt t .memUe (memInfo va k.code 0)

end Sys2Proof.Machine
end

