-- ==== Sys2Proof/Machine/FabricOps.lean ====
section
/-!
DEFINITION. Operations of the Beacon fabric and of Lens that several families use (13_beacon_fabric.md): packets and their bytes
(R563 to R565), routing (R579), the issue and the end of requests (R567 to R570), outbound windows (R584), and flits (R553).
-/

namespace Sys2Proof.Machine

/-! ### Ports -/

/-- A fabric port beside its registers. -/
def State.fport (s : State) (p : Nat) : FPort := KMap.getD s.fab.ports p FPort.fresh

/-- Set a fabric port. -/
def State.setFport (s : State) (p : Nat) (x : FPort) : State :=
  { s with fab := { s.fab with ports := KMap.setD s.fab.ports p FPort.fresh x } }

/-- Change a fabric port. -/
def State.modFport (s : State) (p : Nat) (f : FPort → FPort) : State := s.setFport p (f (s.fport p))

/-- Packets waiting on a virtual channel. -/
def FPort.outs (x : FPort) (vc : Nat) : List FOut := KMap.getD x.outq vc []

/-- Packets received on a virtual channel. -/
def FPort.ins (x : FPort) (vc : Nat) : List FIn := KMap.getD x.inq vc []

/-- Credit held on a virtual channel. -/
def FPort.cred (x : FPort) (vc : Nat) : Nat := KMap.getD x.credit vc 0

/-- A port is UP (R555). -/
def State.portUp (s : State) (p : Nat) : Bool := decide (p < 8) && s.rd R.BCN_PORT_STAT_STATE p == 3

/-- A port is trained: ISOLATED or UP (R555). -/
def State.portLit (s : State) (p : Nat) : Bool :=
  decide (p < 8) && (s.rd R.BCN_PORT_STAT_STATE p == 2 || s.rd R.BCN_PORT_STAT_STATE p == 3)

/-- Count an event of a Beacon port (R628). -/
def State.countPort (s : State) (p ev n : Nat) : State := s.countSub (34 + p / 4) ev (p % 4) n

/-- Commit a notice (R593). -/
def State.bcnNotice (s : State) (ty port vc node prev : Nat) : State :=
  if s.flag R.BCN_CFG_NOTIFY_EN 0 then
    s.hwCommit (s.rd R.BCN_CFG_NOTIFY_CHAN 0)
      [ty + port * 2 ^ 4 + vc * 2 ^ 7 + node * 2 ^ 9 + prev * 2 ^ 21, s.time]
  else s

/-- The own node ID. -/
def State.node (s : State) : Nat := s.rd R.BCN_NODE_NODE 0

/-- NODE_V. -/
def State.nodeV (s : State) : Bool := s.flag R.BCN_NODE_NODE_V 0

/-! ### Packets (R559, R563 to R565) -/

/-- The virtual channel of a packet type (R559). -/
def vcOf (ptype : Nat) : Nat :=
  if ptype ≤ 1 then 0 else if ptype ≤ 4 then 1 else if ptype = 5 then 2 else 3

/-- Packets with a payload (R564). -/
def FPkt.hasData (p : FPkt) : Bool := decide (p.ptype = 1 ∨ p.ptype = 2 ∨ p.ptype = 5 ∨ p.ptype = 6)

/-- `n` rounded up to a multiple of 4. -/
def pad4 (n : Nat) : Nat := (n + 3) / 4 * 4

/-- Bytes of a packet on the link (R563, R565). -/
def FPkt.size (p : FPkt) : Nat :=
  32 + if p.hasData then pad4 p.data.length + 4 * segmentsOf p.data.length + 8 else 0

/-- Credit that a packet takes (R561). -/
def FPkt.units (p : FPkt) : Nat := (p.size + 63) / 64

/-- A packet with every field zero. -/
def FPkt.zero : FPkt where
  ptype := 0
  ttl := 0
  down := false
  src := 0
  dst := 0
  hash := 0
  tag := 0
  reason := 0
  off := 0
  rlen := 0
  data := []
  poison := 0
  mgmt := none

/-- The carry check of segment `i` of a byte string (R49). -/
def segCheck (bs : Bytes) (i : Nat) : Nat := crc32c ((bs.drop (256 * i)).take 256)

/-- The 32-byte header (R563). -/
def FPkt.header (p : FPkt) : Bytes :=
  leBytes 8 (p.ptype + vcOf p.ptype * 2 ^ 4 + p.ttl * 2 ^ 6 + b2n p.down * 2 ^ 12 + p.src * 2 ^ 16 + p.dst * 2 ^ 28
      + p.hash * 2 ^ 40)
    ++ leBytes 8 (p.tag + (if p.hasData then p.data.length else 0) * 2 ^ 16 + p.reason * 2 ^ 32)
    ++ leBytes 8 p.off ++ leBytes 8 p.rlen

/-- The bytes of a packet: header, payload padded to a multiple of 4, and trailer (R563, R565). -/
def FPkt.encode (p : FPkt) : Bytes :=
  p.header ++
    if p.hasData then
      sliceB p.data 0 (pad4 p.data.length)
        ++ (List.range (segmentsOf p.data.length)).flatMap (fun i => leBytes 4 (segCheck p.data i)) ++ leBytes 8 p.poison
    else []

/-- Segments whose carry check differs from the trailer's (R565). -/
def badTrailer (data trailer : Bytes) : List Nat :=
  (List.range (segmentsOf data.length)).filter fun i => leVal (sliceB trailer (4 * i) 4) != segCheck data i

/-- Read a packet from its bytes; `none` for a reserved PTYPE or a VC that does not match (R563). Also answers the segments whose
carry check differs (R565). -/
def FPkt.decode (b : Bytes) : Option (FPkt × List Nat) :=
  let w0 := leVal (sliceB b 0 8)
  let w1 := leVal (sliceB b 8 8)
  let ty := bitsAt w0 0 4
  if 6 < ty ∨ bitsAt w0 4 2 ≠ vcOf ty then none
  else
    let p0 : FPkt := ⟨ty, bitsAt w0 6 6, bitAt w0 12, bitsAt w0 16 12, bitsAt w0 28 12, bitsAt w0 40 16, bitsAt w1 0 16,
      bitsAt w1 32 4, bitsAt (leVal (sliceB b 16 8)) 0 52, bitsAt (leVal (sliceB b 24 8)) 0 13, [], 0, none⟩
    if p0.hasData then
      let n := bitsAt w1 16 15
      let data := sliceB b 32 n
      let tr := b.drop (32 + pad4 n)
      let bad := badTrailer data tr
      let mask := leVal (sliceB tr (4 * segmentsOf n) 8)
      some ({ p0 with data := data, poison := bad.foldl orBit mask }, bad)
    else some (p0, [])

/-! ### Flits (R553, R556, R557) -/

/-- Put one flit on a port: its link header acknowledges the flits received and returns credit of one virtual channel, which is
a free choice (R553, log entry 3). -/
def State.putFlit (s : State) (p ftype seq : Nat) (nak : Bool) : State :=
  let d := s.draw
  let vc := d.1 % 4
  let x := s.fport p
  let owed := KMap.getD x.owed vc 0
  let cred := Nat.min owed 1023
  let ack := (x.expect + 4095) % 4096
  let h := ftype + seq * 2 ^ 2 + ack * 2 ^ 14 + b2n nak * 2 ^ 26 + vc * 2 ^ 27 + cred * 2 ^ 29
  let s1 := d.2.setFport p { x with owed := KMap.setD x.owed vc 0 (owed - cred) }
  let s2 := (s1.emit (.flit p h)).countPort p 0x01 1
  if nak then s2.countPort p 0x06 1 else s2

/-- A packet has been taken from a receive buffer: its credit is owed to the peer. -/
def State.oweCredit (s : State) (p vc n : Nat) : State :=
  if 8 ≤ p then s
  else s.modFport p fun x => { x with owed := KMap.setD x.owed vc 0 (KMap.getD x.owed vc 0 + n) }

/-- The oldest packet received on a virtual channel of a port, taken out of its queue. -/
def State.takeIn (s : State) (p vc : Nat) : Option (FIn × State) :=
  match (s.fport p).ins vc with
  | [] => none
  | f :: r =>
    some (f, (s.modFport p fun x => { x with inq := KMap.setD x.inq vc [] r }).oweCredit p vc f.pkt.units)

/-- Put a packet into a receive queue, with the window epoch in force (R589). -/
def State.putIn (s : State) (p : Nat) (f : FPkt) : State :=
  s.modFport p fun x =>
    let vc := vcOf f.ptype
    { x with inq := KMap.setD x.inq vc [] (x.ins vc ++ [⟨f, s.rd R.LNS_STATUS_EPOCH 0⟩]) }

/-- Put a packet into the output queue of its virtual channel. -/
def State.putOut (s : State) (p : Nat) (f : FPkt) (again : Bool) : State :=
  s.modFport p fun x =>
    let vc := vcOf f.ptype
    { x with outq := KMap.setD x.outq vc [] (x.outs vc ++ [⟨f, again⟩]) }

/-- Send a management packet to the peer of a port (R572). Its payload bytes are free (log entry 40). -/
def State.sendMgmt (s : State) (p : Nat) (m : Mgmt) : State :=
  let d := s.draw
  let e := d.2.draw
  let f : FPkt := { FPkt.zero with
    ptype := 6, ttl := s.rd R.BCN_CFG_TTL 0, src := s.node, dst := s.rd R.BCN_PORT_STAT_PEER_NODE p
    data := leBytes (1 + d.1 % 4096) e.1, mgmt := some m }
  e.2.putOut p f false

/-! ### Routing (R579) -/

/-- The slots of a routing entry: port, VU and VD. -/
def State.routeSlots (s : State) (d : Nat) : List (Nat × Bool × Bool) :=
  [(s.rd R.BCN_ROUTE_PORT_0 d, s.flag R.BCN_ROUTE_VU_0 d, s.flag R.BCN_ROUTE_VD_0 d),
   (s.rd R.BCN_ROUTE_PORT_1 d, s.flag R.BCN_ROUTE_VU_1 d, s.flag R.BCN_ROUTE_VD_1 d),
   (s.rd R.BCN_ROUTE_PORT_2 d, s.flag R.BCN_ROUTE_VU_2 d, s.flag R.BCN_ROUTE_VD_2 d),
   (s.rd R.BCN_ROUTE_PORT_3 d, s.flag R.BCN_ROUTE_VU_3 d, s.flag R.BCN_ROUTE_VD_3 d)]

/-- What routing a packet answers. -/
inductive Routed where
  | here
  | port (p : Nat)
  | ttlOut
  | noRoute
  deriving DecidableEq, Repr

/-- The lookup of R579. -/
def State.route (s : State) (dst hash ttl : Nat) (down : Bool) : Routed :=
  if dst = s.node then .here
  else if ttl = 0 then .ttlOut
  else
    let use := (s.routeSlots dst).filter fun e => s.portUp e.1 && (if down then e.2.2 else e.2.1)
    if !s.flag R.BCN_ROUTE_V dst || use.isEmpty then .noRoute
    else .port ((use.getD (hash * use.length / 65536) (0, false, false)).1)

/-- A packet that has been routed to a port: one hop fewer, and DOWN after a down link (R579). -/
def State.hop (s : State) (p : Nat) (f : FPkt) : FPkt :=
  { f with ttl := f.ttl - 1, down := f.down || s.flag R.BCN_PORT_STAT_DIR p }

/-- Count a packet that was not routed (R579). -/
def State.countUnrouted (s : State) (r : Routed) : State :=
  match r with
  | .ttlOut => s.sat R.BCN_CNT_TTL_DROP 0 1
  | .noRoute => s.sat R.BCN_CNT_NO_ROUTE 0 1
  | _ => s

/-- Route a response, a frame or a management packet; without a route it is dropped and counted (R579). -/
def State.sendPlain (s : State) (f : FPkt) (again : Bool) : State :=
  match s.route f.dst f.hash f.ttl f.down with
  | .here => s.putIn 8 f
  | .port p => s.putOut p (s.hop p f) again
  | r => s.countUnrouted r

/-- The answer to a request, as the device's own packet (R563, R566, R567). -/
def State.answer (s : State) (q : FPkt) (ptype reason : Nat) (data : Bytes) (poison : Nat) : State :=
  s.sendPlain { FPkt.zero with
    ptype := ptype, ttl := s.rd R.BCN_CFG_TTL 0, src := s.node, dst := q.src, hash := q.hash, tag := q.tag
    reason := reason, data := data, poison := poison } false

/-- Answer a request with a NAK (R568). -/
def State.answerNak (s : State) (q : FPkt) (reason : Nat) : State :=
  (s.answer q 4 reason [] 0).countPort (Nat.min 7 (match s.route q.src q.hash 63 false with
    | .port p => p
    | _ => 0)) 0x06 1

/-! ### The end of a request (R565, R568 to R570, R586) -/

/-- Set a job's status unless a condition was found before (R59). -/
def Job.fail (j : Job) (st : Nat) : Job := if j.status.isNone then { j with status := some st } else j

/-- Change a job, if there is one. -/
def State.modJob (s : State) (n : Nat) (f : Job → Job) : State :=
  match KMap.find s.jobs n with
  | some j => { s with jobs := KMap.put s.jobs n (f j) }
  | none => s

/-- `data` placed at offset `off` of a buffer. -/
def placeAt (buf : Bytes) (off : Nat) (data : Bytes) : Bytes :=
  sliceB buf 0 off ++ data ++ buf.drop (off + data.length)

/-- How a request ended. -/
inductive FEnd where
  | data (bytes : Bytes) (poison : Nat)
  | acked
  | nak (reason : Nat)
  | timeout
  deriving DecidableEq, Repr

/-- The job status of a failed request (R568, R569). -/
def FEnd.jobStatus (e : FEnd) (write : Bool) : Option Nat :=
  match e with
  | .data _ p => if p = 0 then none else some 0x0F
  | .acked => none
  | .nak 0 => some 0x0D
  | .nak 3 => some 0x0F
  | _ => some (if write then 0x04 else 0x03)

/-- The value of a load of `n` bytes, zero-extended or sign-extended (R145). -/
def loadVal (n : Nat) (sext : Bool) (v : Nat) : Word :=
  if sext then BitVec.ofInt 64 (signedOf (8 * n) v) else BitVec.ofNat 64 (v % 2 ^ (8 * n))

/-- A thread's load or block read from the Lens region is answered (R152, R193). -/
def State.lensAnswer (s : State) (t tag : Nat) (e : FEnd) : State :=
  match (s.thr t).lens with
  | none => s
  | some l =>
    if l.req ≠ tag then s
    else
      let s1 := s.modThr t fun th => { th with lens := none }
      match e with
      | .data bs 0 =>
        if (s.thr t).blk.isSome then s1.modThr t fun th => { th with lensIn := th.lensIn ++ [bs] }
        else s1.result t l.rd (loadVal l.n l.sext (leVal bs))
      | .data _ _ => s1.raiseAt t .memUe (memInfo l.va 0 0)
      | _ => s1.raiseAt t .access (memInfo l.va 0 2)

/-- A request ends (R565, R568, R569, R586). -/
def State.endReq (s : State) (tag : Nat) (e : FEnd) : State :=
  match KMap.find s.fab.reqs tag with
  | none => s
  | some q =>
    let s1 := { s with fab := { s.fab with
      reqs := KMap.del s.fab.reqs tag, drain := s.fab.drain.filter fun t => t != tag } }
    let fault (r : Nat) := (s1.sat R.LNS_ACT_OUT_NAK_CNT q.win 1).wr R.LNS_ACT_OUT_LAST_REASON q.win r
    let s2 := if q.write then (match e with
        | .nak r => fault r
        | .timeout => fault 15
        | _ => s1) else s1
    match q.orig with
    | .store => s2
    | .load t => s2.lensAnswer t tag e
    | .job j off => s2.modJob j fun x =>
        match e.jobStatus q.write with
        | some st => x.fail st
        | none => match e with
          | .data bs _ => { x with input := placeAt x.input off bs }
          | _ => x

/-! ### Outbound windows and the issue of requests (R564, R566, R577, R584, R585) -/

/-- The outbound window that translates an access (R584): window, node and offset. -/
def State.outWindow (s : State) (a : Nat) (write : Bool) : Option (Nat × Nat × Nat) :=
  ((List.range 256).find? fun w =>
    s.flag R.LNS_ACT_OUT_EN w
      && (if write then s.flag R.LNS_ACT_OUT_WR w else s.flag R.LNS_ACT_OUT_RD w)
      && decide (s.rd R.LNS_ACT_OUT_LOCAL_BASE w ≤ a / 65536 ∧ a / 65536 ≤ s.rd R.LNS_ACT_OUT_LOCAL_LAST w)).map fun w =>
    (w, s.rd R.LNS_ACT_OUT_NODE w,
      s.rd R.LNS_ACT_OUT_REMOTE_BASE w * 65536 + a - s.rd R.LNS_ACT_OUT_LOCAL_BASE w * 65536)

/-- A tag for a new request: a free choice among those that may be used (R569, log entry 3). -/
def State.freshTag (s : State) : Nat × State :=
  let d := s.draw
  let taken := fun t => (KMap.find s.fab.reqs t).isSome || (match KMap.find s.fab.tagHold t with
    | some till => decide (s.time < till)
    | none => false)
  let tries := (List.range (s.fab.reqs.length + s.fab.tagHold.length + 1)).map fun k => (d.1 + k) % 65536
  ((tries.find? fun t => !taken t).getD 0, d.2)

/-- Issue one READ or WRITE that lies within one 4 KiB block of fabric offset (R564, R577, R579, R585). The answer is the tag. -/
def State.issueReq (s : State) (write : Bool) (win dst off len : Nat) (data : Bytes) (poison unit : Nat) (orig : FOrig) :
    Nat × State :=
  let t := s.freshTag
  let hold := s.time + 2000000 * s.rd R.BCN_TMO_REQ_TMO_MS 0
  let s1 := { t.2 with fab := { t.2.fab with
    reqs := KMap.put t.2.fab.reqs t.1 ⟨write, dst, win, len, orig, s.time⟩
    tagHold := KMap.put t.2.fab.tagHold t.1 hold } }
  let f : FPkt := { FPkt.zero with
    ptype := b2n write, ttl := s.rd R.BCN_CFG_TTL 0, src := s.node, dst := dst, hash := Config.pathHash unit dst % 65536
    tag := t.1, off := off, rlen := if write then 0 else len, data := data, poison := poison }
  let s2 := s1.count 36 0x01 1
  if !s.nodeV then (t.1, s2)
  else
    match s2.route dst f.hash f.ttl false with
    | .here => (t.1, s2.putIn 8 f)
    | .port p => (t.1, s2.putOut p (s2.hop p f) false)
    | r => (t.1, s2.countUnrouted r)

/-- How a request just issued has ended already: NOT_READY without a node ID, NO_ROUTE without a route (R577, R579). -/
def State.issueEnd (s : State) (dst unit : Nat) : Option FEnd :=
  if !s.nodeV then some (.nak 2)
  else match s.route dst (Config.pathHash unit dst % 65536) (s.rd R.BCN_CFG_TTL 0) false with
    | .ttlOut => some (.nak 1)
    | .noRoute => some (.nak 1)
    | _ => none

/-- Issue a request and end it at once where it cannot leave. -/
def State.request (s : State) (write : Bool) (win dst off len : Nat) (data : Bytes) (poison unit : Nat) (orig : FOrig) :
    Nat × State :=
  let r := s.issueReq write win dst off len data poison unit orig
  match s.issueEnd dst unit with
  | some e => (r.1, r.2.endReq r.1 e)
  | none => r

/-- Issue the requests of a transfer of `len` bytes at local address `a` of the Lens region, each within one 4 KiB block of fabric
offset and translated when it is issued (R564, R584). `false` when an address has no window (R42). -/
def State.transfer (s : State) (write : Bool) (a : Nat) (data : Bytes) (poison : Nat) (unit : Nat) (orig : Nat → FOrig) :
    Nat → Nat → Nat → Bool × State
  | 0, _, _ => (true, s)
  | fuel + 1, off, len =>
    if len ≤ off then (true, s)
    else
      match s.outWindow (a + off) write with
      | none => (false, s)
      | some (w, node, fo) =>
        let n := Nat.min (len - off) (4096 - fo % 4096)
        let piece := if write then (data.drop off).take n else []
        let mask := if write then bitsAt poison (off / 256) 17 else 0
        let r := s.request write w node fo n piece mask unit (orig off)
        r.2.transfer write a data poison unit orig fuel (off + n) len

/-! ### Frames to the fabric (R571, R577) -/

/-- HASH of a frame (R566, R571). -/
def frameHash (h : Nat) : Nat := bitsAt h 16 16

/-- Where a frame for fabric node `n` goes (R331, R571, R577, R579). -/
def State.frameRoute (s : State) (n h : Nat) : Routed :=
  if !s.nodeV then .noRoute else s.route n (frameHash h) (s.rd R.BCN_CFG_TTL 0) false

/-- The fabric packet of a frame. -/
def State.framePkt (s : State) (n h : Nat) (data : Bytes) : FPkt :=
  { FPkt.zero with
    ptype := 5, ttl := s.rd R.BCN_CFG_TTL 0, src := s.node, dst := n, hash := frameHash h, data := data }

/-- A fabric port takes a frame: it is UP and holds credit for it beside the frames that wait (R347, R561). -/
def State.fabTakes (s : State) (p len : Nat) : Bool :=
  let x := s.fport p
  let need := (x.outs 2).foldl (fun n o => n + o.pkt.units) (({ FPkt.zero with ptype := 5, data := zeros len } : FPkt).units)
  s.portUp p && decide (need ≤ x.cred 2)

end Sys2Proof.Machine
end

