-- ==== Sys2Proof/Machine/Fabric.lean ====
section
/-!
DEFINITION. The commands of 13_beacon_fabric.md: flits and replay, ports, packets in transit and at their target, joining the fabric,
routing tables, lanes and Lens windows.
-/

namespace Sys2Proof.Machine

/-! ### Topology: candidate, level, direction and routes (R573, R575, R580) -/

/-- The own key: PRIORITY and serial number (R573). -/
def State.ownKey (s : State) : Nat × Nat := (s.rd R.BCN_CFG_PRIORITY 0, s.serial)

/-- Key `a` is better than key `b` (R573). -/
def keyBetter (a b : Nat × Nat) : Bool := decide (b.1 < a.1 ∨ (a.1 = b.1 ∧ a.2 < b.2))

/-- The UP ports with their peer's HELLO. -/
def State.peers (s : State) : List (Nat × Hello) :=
  (List.range 8).filterMap fun p => if s.portUp p then (s.fport p).peer.map fun h => (p, h) else none

/-- The best key among the own and the candidates of the UP neighbours (R573). -/
def State.bestKey (s : State) : Nat × Nat :=
  s.peers.foldl (fun b e => match e.2.cand with
    | some c => if keyBetter c b then c else b
    | none => b) s.ownKey

/-- Keep the candidate of R573; a change starts its time anew. -/
def State.settleCand (s : State) : State :=
  let b := s.bestKey
  if s.fab.cand = some b then s else { s with fab := { s.fab with cand := some b, candAt := s.time } }

/-- The least number of a list, 63 when it is empty. -/
def least63 (l : List Nat) : Nat := l.foldl Nat.min 63

/-- The own level (R575); unknown without a coordinator. -/
def State.levelNow (s : State) : Nat :=
  if s.flag R.BCN_NODE_IS_COORD 0 then 0
  else if s.flag R.BCN_NODE_COORD_V 0 then Nat.min 63 (1 + least63 (s.peers.map fun e => e.2.level)) else 63

/-- The rank of a device as a number (R575): a device without a node ID ranks after every device with one. -/
def rankOf (level : Nat) (node : Option Nat) : Nat :=
  match node with
  | some n => level * 4096 + n
  | none => 64 * 4096 + level

/-- The own node ID, when NODE_V is 1. -/
def State.nodeOpt (s : State) : Option Nat := if s.nodeV then some s.node else none

/-- Keep LEVEL and the directions of the links (R575). -/
def State.settleLevel (s : State) : State :=
  let s1 := s.wr R.BCN_NODE_LEVEL 0 s.levelNow
  let own := rankOf (s1.rd R.BCN_NODE_LEVEL 0) s1.nodeOpt
  s1.peers.foldl (fun s e => s.setFlag R.BCN_PORT_STAT_DIR e.1 (decide (own < rankOf e.2.level e.2.node))) s1

/-- The distance that a neighbour has over down links, or on any legal path (R580); 63: unreachable. -/
def State.peerDist (s : State) (e : Nat × Hello) (dn : Bool) (d : Nat) : Nat :=
  if e.2.node = some d then 0
  else KMap.getD (if dn then (s.fport e.1).dn else (s.fport e.1).any) d 63

/-- One hop more, at most 63. -/
def hop63 (n : Nat) : Nat := Nat.min 63 (n + 1)

/-- What R580 gives for a destination: d_dn, d_any and the slots (port, VU, VD). -/
def State.routeFor (s : State) (d : Nat) : Nat × Nat × List (Nat × Bool × Bool) :=
  let isDown := fun (e : Nat × Hello) => s.flag R.BCN_PORT_STAT_DIR e.1
  let downs := s.peers.filter isDown
  let ups := s.peers.filter fun e => !isDown e
  let ddn := hop63 (least63 (downs.map fun e => s.peerDist e true d))
  let dany := Nat.min ddn (hop63 (least63 (ups.map fun e => s.peerDist e false d)))
  let isVu := fun (e : Nat × Hello) =>
    decide (dany < 63) && hop63 (s.peerDist e (isDown e) d) == dany
  let isVd := fun (e : Nat × Hello) => decide (ddn < 63) && isDown e && hop63 (s.peerDist e true d) == ddn
  let slot := fun (e : Nat × Hello) => (e.1, isVu e, isVd e)
  let vu := (s.peers.filter isVu).take 4
  let vd := s.peers.filter isVd
  let rest := vd.filter fun e => !(vu.any fun x => x.1 == e.1)
  let l := ((vu ++ rest).take 4).map slot
  let l4 := l ++ List.replicate (4 - l.length) (0, false, false)
  let fixed := if !(l4.any fun e => e.2.2) && decide (ddn < 63) then
      match vd with
      | e :: _ => l4.take 3 ++ [slot e]
      | [] => l4
    else l4
  (ddn, dany, fixed)

/-- Write the four slots of an entry. -/
def State.setSlots4 (s : State) (d : Nat) (l : List (Nat × Bool × Bool)) : State :=
  let g := fun (k : Nat) => l.getD k (0, false, false)
  s.wrs d
    [(R.BCN_ROUTE_PORT_0, (g 0).1), (R.BCN_ROUTE_VU_0, b2n (g 0).2.1), (R.BCN_ROUTE_VD_0, b2n (g 0).2.2),
     (R.BCN_ROUTE_PORT_1, (g 1).1), (R.BCN_ROUTE_VU_1, b2n (g 1).2.1), (R.BCN_ROUTE_VD_1, b2n (g 1).2.2),
     (R.BCN_ROUTE_PORT_2, (g 2).1), (R.BCN_ROUTE_VU_2, b2n (g 2).2.1), (R.BCN_ROUTE_VD_2, b2n (g 2).2.2),
     (R.BCN_ROUTE_PORT_3, (g 3).1), (R.BCN_ROUTE_VU_3, b2n (g 3).2.1), (R.BCN_ROUTE_VD_3, b2n (g 3).2.2)]

/-- HOPS of an entry has changed (R576, R593): a node becomes reachable or unreachable; the coordinator starts or ends its hold. -/
def State.hopsChanged (s : State) (d before : Nat) : State :=
  let now := s.rd R.BCN_ROUTE_HOPS d
  let hold := fun (s : State) (g : Option Nat) => match KMap.find s.fab.grants d with
    | some x => { s with fab := { s.fab with grants := KMap.put s.fab.grants d { x with gone := g } } }
    | none => s
  if before = 63 ∧ now ≠ 63 then (hold s none).bcnNotice 6 0 0 d 0
  else if before ≠ 63 ∧ now = 63 then (hold s (some s.time)).bcnNotice 7 0 0 d 0
  else s

/-- The routing engine recomputes one destination (R580, R582). -/
def State.reroute (s : State) (d : Nat) : State :=
  let r := s.routeFor d
  let changed := decide (KMap.getD s.fab.dn d 63 ≠ r.1 ∨ KMap.getD s.fab.any d 63 ≠ r.2.1)
  let s1 := { s with fab := { s.fab with
    dn := KMap.setD s.fab.dn d 63 r.1, any := KMap.setD s.fab.any d 63 r.2.1, dirty := s.fab.dirty || changed } }
  if s1.flag R.BCN_ROUTE_LOCK d then s1
  else
    let before := s1.rd R.BCN_ROUTE_HOPS d
    let slots := s1.routeSlots d
    let s2 := ((s1.setSlots4 d r.2.2).wr R.BCN_ROUTE_HOPS d r.2.1).setFlag R.BCN_ROUTE_V d (decide (r.2.1 < 63))
    let s3 := if slots = s2.routeSlots d then s2 else s2.bump R.BCN_GEN_ROUTE_GEN 0
    s3.hopsChanged d before

/-- The destinations that the neighbours or the own tables know. -/
def State.destinations (s : State) : List Nat :=
  let l := s.peers.foldl (fun l e =>
    let x := s.fport e.1
    ((x.dn.map Prod.fst) ++ (x.any.map Prod.fst)).foldl (fun l d => addOnce d l)
      (match e.2.node with
        | some n => addOnce n l
        | none => l)) []
  let l2 := ((s.fab.dn.map Prod.fst) ++ (s.fab.any.map Prod.fst)).foldl (fun l d => addOnce d l) l
  l2.filter fun d => some d != s.nodeOpt

/-- Ask the coordinator for a node ID, or register the one held, on the lowest-numbered port whose peer has the next lower level
(R576). -/
def State.askId (s : State) : State :=
  let lvl := s.rd R.BCN_NODE_LEVEL 0
  if !s.fab.wantId then s
  else
    match s.peers.find? fun e => e.2.level + 1 == lvl && decide (lvl < 63) with
    | none => s
    | some e =>
      let pref := if s.flag R.BCN_CFG_PREF_V 0 then some (s.rd R.BCN_CFG_PREF_ID 0) else s.fab.lastId
      let s1 := { s with fab := { s.fab with wantId := false } }
      s1.sendMgmt e.1 (.idReq s.serial (if s.nodeV then some s.node else pref) s.nodeV [])

/-- Every consequence of a change of the topology (R573, R575, R576, R580). -/
def State.settleFabric (s : State) : State :=
  let s1 := s.settleCand.settleLevel
  (s1.destinations.foldl State.reroute s1).askId

/-! ### Port states (R555, R558, R572) -/

/-- The width of R583: the largest of 4, 2 and 1 lanes that the lanes good at both ends fill. -/
def widthOf (lanes : Nat) : Nat :=
  let n := (bitList 4 lanes).length
  if n = 4 then 4 else if 2 ≤ n then 2 else n

/-- A port takes a state; STATE changes latch its line (R92) and are notified (R593). -/
def State.setPortState (s : State) (p st : Nat) : State :=
  if s.rd R.BCN_PORT_STAT_STATE p = st then s
  else
    let s1 := ((s.wr R.BCN_PORT_STAT_STATE p st).latchLine (36 + p)).ltr
    if st = 3 then s1.bcnNotice 3 p 0 0 0 else if st = 0 then s1.bcnNotice 4 p 0 0 0 else s1

/-- A port leaves its link: the peer is unknown until HELLOs have been exchanged again (R572). -/
def State.forgetPeer (s : State) (p : Nat) : State :=
  let s1 := s.modFport p fun x => { x with peer := none, mine := none, dn := [], any := [] }
  s1.wrs p [(R.BCN_PORT_STAT_PEER_NODE, 0), (R.BCN_PORT_STAT_PEER_NODE_V, 0), (R.BCN_PORT_STAT_PEER_PORT, 0),
    (R.BCN_PORT_STAT_PEER_LEVEL, 63), (R.BCN_PORT_STAT_DIR, 0)]

/-- A port begins to train: from here its link has 100 ms (R558). -/
def State.portTrain (s : State) (p : Nat) : State :=
  (((s.modFport p fun x => { x with since := s.time }).forgetPeer p).setPortState p 1).settleFabric

/-- A packet whose port went DOWN before it had begun is routed again, once (R558, R579). -/
def State.routeAgain (s : State) (o : FOut) : State :=
  if o.again || o.pkt.ptype == 6 then s
  else if o.pkt.ptype ≤ 1 then
    match s.route o.pkt.dst o.pkt.hash o.pkt.ttl o.pkt.down with
    | .port p => s.putOut p (s.hop p o.pkt) true
    | .here => s.putIn 8 o.pkt
    | r => if o.pkt.src = s.node then (s.countUnrouted r).endReq o.pkt.tag (.nak 1) else (s.countUnrouted r).answerNak o.pkt 1
  else s.sendPlain o.pkt true

/-- A port goes DOWN (R558): what was sent or partly sent is discarded, what waits is routed again. -/
def State.portDown (s : State) (p : Nat) : State :=
  let x := s.fport p
  let waiting := [0, 1, 2].flatMap x.outs
  let s1 := s.setFport p { FPort.fresh with inq := x.inq, peerLanes := x.peerLanes }
  let s2 := ((s1.forgetPeer p).wr R.BCN_PORT_STAT_WIDTH p 0).setPortState p 0
  waiting.foldl State.routeAgain s2.settleFabric

/-- Ports are held in DOWN while EN of the port or of Beacon is 0 (R551, R559). -/
def State.holdPorts (s : State) : State :=
  (List.range 8).foldl (fun s p =>
    if (!s.flag R.BCN_CFG_EN 0 || !s.flag R.BCN_PORT_CFG_EN p) && s.rd R.BCN_PORT_STAT_STATE p != 0 then s.portDown p
    else s) s

/-- Send again every unacknowledged flit (R557). -/
def State.resend (s : State) (p : Nat) : State :=
  let l := (s.fport p).unack
  let s1 := s.modFport p fun x => { x with unack := l.map fun f => { f with sent := s.time } }
  l.foldl (fun s f => s.putFlit p 0 f.seq false) s1

/-- A replay (R557): when the oldest flit has been replayed RETRY_MAX times the port retrains and the fault is reported. -/
def State.replay (s : State) (p : Nat) : State :=
  match (s.fport p).unack with
  | [] => s
  | f :: _ =>
    if s.rd R.BCN_CFG_RETRY_MAX 0 ≤ f.tries then
      ((s.sat R.BCN_PORT_ERR_RETRAINS p 1).report (unitId 13 p) .link 0).portTrain p
    else
      let s1 := (s.sat R.BCN_PORT_ERR_REPLAYS p 1).countPort p 0x03 1
      (s1.modFport p fun x => { x with unack := x.unack.map fun f => { f with tries := f.tries + 1 } }).resend p

/-- Training of a port ends at width `w` (R555, R557, R560, R583): the shares of both ends are exchanged, and what was sent and not
acknowledged is sent again; a new link starts its sequence numbers at 0. -/
def State.linkUp (s : State) (p peerLanes w : Nat) (shares : List Nat) : State :=
  let credit := (List.range 4).foldl (fun m v => KMap.setD m v 0 (64 * shares.getD v 0)) []
  let s1 := s.modFport p fun x =>
    let y := if x.linked then x else { x with seq := 0, expect := 0, unack := [] }
    { y with linked := true, credit := credit, owed := [], empty := [], told := [], nakAt := none,
             peerLanes := peerLanes % 16 }
  let own := [R.BCN_PORT_CFG_VC0_BUF, R.BCN_PORT_CFG_VC1_BUF, R.BCN_PORT_CFG_VC2_BUF, R.BCN_PORT_CFG_VC3_BUF].map fun f => s.rd f p
  ((((s1.emit (.shares p own)).wr R.BCN_PORT_STAT_WIDTH p w).setPortState p 2).resend p).settleFabric

/-- FABRIC_PORT_TRAINED (R555, R557, R560): training ends; each end's buffer shares are the other's credit, in 4 KiB units. -/
def doFabricPortTrained (p peerLanes : Nat) (shares : List Nat) (s : State) : State :=
  if 8 ≤ p ∨ s.rd R.BCN_PORT_STAT_STATE p ≠ 1 then s
  else
    let w := widthOf (s.rd R.BCN_PORT_STAT_LANES_OK p &&& peerLanes)
    if w = 0 then s else s.linkUp p peerLanes w shares

/-- RETRAIN_TIMEOUT (R558): a training not finished within 100 ms takes the port DOWN. -/
def doRetrainTimeout (p : Nat) (s : State) : State :=
  if p < 8 ∧ s.rd R.BCN_PORT_STAT_STATE p = 1 ∧ (s.fport p).since + 100000000 ≤ s.time then s.portDown p else s

/-- FABRIC_SIGNAL_LOSS (R555): a trained port loses its partner's signal and trains. -/
def doFabricSignalLoss (p : Nat) (s : State) : State := if s.portLit p then s.portTrain p else s

/-- FABRIC_SIGNAL_DETECT (R555, R559): a port that is DOWN, with EN 1 and Beacon in use, trains. -/
def doFabricSignalDetect (p : Nat) (s : State) : State :=
  if p < 8 ∧ s.rd R.BCN_PORT_STAT_STATE p = 0 ∧ s.flag R.BCN_PORT_CFG_EN p = true ∧ s.flag R.BCN_CFG_EN 0 = true
      ∧ s.rd R.BCN_PORT_STAT_LANES_OK p ≠ 0 then s.portTrain p
  else s

/-! ### Receiving flits (R553, R556, R557, R563, R565) -/

/-- A bad flit (R556): discarded and counted; the first of an episode is answered by NAK. -/
def State.badFlit (s : State) (p : Nat) : State :=
  let s1 := s.sat R.BCN_PORT_ERR_BAD_FLITS p 1
  if (s1.fport p).nakAt.isSome then s1
  else
    let s2 := s1.modFport p fun x => { x with nakAt := some s1.time }
    s2.putFlit p 1 0 true

/-- One packet is received: a reserved PTYPE or a wrong VC makes it a bad flit of the port (R563); carry checks are compared
(R565); an ISOLATED port takes only management packets (R555). -/
def State.takePacket (s : State) (p : Nat) (b : Bytes) : State :=
  match FPkt.decode b with
  | none => s.sat R.BCN_PORT_ERR_BAD_FLITS p 1
  | some (f, bad) =>
    let s1 := if bad = [] then s else s.carryFault (unitId 13 p)
    if s1.portUp p || f.ptype == 6 then s1.putIn p f else s1.oweCredit p (vcOf f.ptype) f.units

/-- Flits up to ACK are acknowledged (R557). -/
def dropAcked (ack : Nat) (l : List TxFlit) : List TxFlit := l.filter fun f => decide (2048 ≤ (ack + 4096 - f.seq) % 4096)

/-- Credit returned by the peer (R553, R561, R562). -/
def State.takeCredit (s : State) (p vc n : Nat) : State :=
  if n = 0 then s
  else s.modFport p fun x =>
    { x with credit := KMap.setD x.credit vc 0 (x.cred vc + n), empty := KMap.del x.empty vc, told := KMap.del x.told vc }

/-- The peer names its lanes in a CONTROL flit (R583): this end answers with its own when the set is new, and both switch. -/
def State.peerLaneSet (s : State) (p lanes : Nat) : State :=
  let x := s.fport p
  if x.peerLanes = lanes % 16 then s
  else
    let s1 := s.setFport p { x with peerLanes := lanes % 16 }
    let own := s1.rd R.BCN_PORT_STAT_LANES_OK p
    let w := widthOf (own &&& lanes)
    if w = 0 then s1.portDown p
    else ((s1.wr R.BCN_PORT_STAT_WIDTH p w).emit (.lanes p own)).resend p

/-- FLIT_RECEIVE (R552, R553, R556, R557). -/
def doFlitReceive (p : Nat) (f : Flit) (s : State) : State :=
  if !s.portLit p then s
  else
    let s0 := s.countPort p 0x02 1
    if !f.good then s0.badFlit p
    else
      let s1 := (s0.takeCredit p (f.cvc % 4) f.cred).modFport p fun x => { x with unack := dropAcked f.ack x.unack }
      let s2 := if f.nak then s1.replay p else s1
      match f.ftype with
      | 0 =>
        if f.seq = (s2.fport p).expect then
          let s3 := s2.modFport p fun x => { x with expect := (x.expect + 1) % 4096, nakAt := none }
          f.pkts.foldl (fun s b => s.takePacket p b) s3
        else s2.badFlit p
      | 2 => s2.peerLaneSet p f.lanes
      | _ => s2

/-- NAK_RESEND_TIMER (R556): the awaited flit has not arrived 20 µs after the last NAK. -/
def doNakResendTimer (p : Nat) (s : State) : State :=
  match (s.fport p).nakAt with
  | some t =>
    if s.portLit p = true ∧ t + 20000 ≤ s.time then
      (s.modFport p fun x => { x with nakAt := some s.time }).putFlit p 1 0 true
    else s
  | none => s

/-- REPLAY_TIMEOUT (R557): the oldest unacknowledged flit is 20 µs old. -/
def doReplayTimeout (p : Nat) (s : State) : State :=
  match (s.fport p).unack with
  | f :: _ => if s.portLit p = true ∧ f.sent + 20000 ≤ s.time then s.replay p else s
  | [] => s

/-! ### Sending packets (R554, R561, R562) -/

/-- A packet can start on a virtual channel: its credit covers the whole packet; an ISOLATED port sends only HELLO (R555, R561). -/
def State.canStart (s : State) (p vc : Nat) : Bool :=
  match (s.fport p).outs vc with
  | [] => false
  | o :: _ => decide (o.pkt.units ≤ (s.fport p).cred vc)
      && (s.portUp p || (match o.pkt.mgmt with
        | some (.hello _) => true
        | _ => false))

/-- The virtual channel of the next packet (R561): VC3, then VC1, then VC0 and VC2 in turn. -/
def State.nextVc (s : State) (p : Nat) : Option Nat :=
  ([3, 1] ++ if (s.fport p).last2 then [0, 2] else [2, 0]).find? fun vc => s.canStart p vc

/-- Start one packet: its bytes follow those before it in the payload areas of PAYLOAD flits, 236 bytes each; when no other packet can
start, the last flit goes out part filled (R552, R554, log entry 41). -/
def State.startPacket (s : State) (p vc : Nat) (o : FOut) (rest : List FOut) : State :=
  let x := s.fport p
  let cred := x.cred vc - o.pkt.units
  let y : FPort := { x with
    outq := KMap.setD x.outq vc [] rest, credit := KMap.setD x.credit vc 0 cred
    last2 := if vc = 0 then false else if vc = 2 then true else x.last2
    empty := if cred = 0 then KMap.put x.empty vc s.time else x.empty }
  let s1 := (s.setFport p y).emit (.fabric p o.pkt.encode)
  let s2 := match o.pkt.mgmt with
    | some m => s1.emit (.mgmt p m)
    | none => s1
  let total := x.fill + o.pkt.size
  let more := (s2.nextVc p).isSome
  let n := if more then total / 236 else (total + 235) / 236
  let flits := (List.range n).map fun k => (⟨(x.seq + k) % 4096, s2.time, 0⟩ : TxFlit)
  let s3 := s2.modFport p fun z => { z with
    fill := if more then total % 236 else 0, seq := (x.seq + n) % 4096, unack := z.unack ++ flits }
  flits.foldl (fun s f => s.putFlit p 0 f.seq false) s3

/-- FABRIC_PACKET_SEND (R54, R561, R565): the port starts the next packet; `badSegs` are the carry segments whose carry check mismatches
as it leaves. No new flit is sent while 2,048 are unacknowledged (R557). -/
def doFabricPacketSend (p : Nat) (badSegs : List Nat) (s : State) : State :=
  if !s.portLit p then s
  else
    match s.nextVc p with
    | none => s
    | some vc =>
      match (s.fport p).outs vc with
      | [] => s
      | o :: rest =>
        if 2048 < (s.fport p).unack.length + (o.pkt.size + 471) / 236 then s
        else
          let bad := badSegs.filter fun g => decide (g < segmentsOf o.pkt.data.length) && o.pkt.hasData
          let q := { o.pkt with poison := bad.foldl orBit o.pkt.poison }
          let s1 := if bad = [] then s else s.carryFault (unitId 13 p)
          s1.startPacket p vc { o with pkt := q } rest

/-- CREDIT_STALL (R562): a virtual channel of an UP port has held no credit for STALL_MS. -/
def doCreditStall (p vc : Nat) (s : State) : State :=
  let x := s.fport p
  match KMap.find x.empty vc with
  | none => s
  | some t =>
    if s.portUp p = true ∧ KMap.getD x.told vc false = false ∧ t + 1000000 * s.rd R.BCN_TMO_STALL_MS 0 ≤ s.time then
      ((s.setFport p { x with told := KMap.put x.told vc true }).bcnNotice 8 p vc 0 0).report (unitId 13 p) .creditStall vc
    else s

/-! ### Packets in transit and at their target -/

/-- FABRIC_TRANSIT (R563, R579): the oldest packet of a virtual channel that is bound for another node is routed. -/
def doFabricTransit (p vc : Nat) (s : State) : State :=
  match s.takeIn p vc with
  | none => s
  | some (i, s1) =>
    let f := i.pkt
    if vc = 3 ∨ f.dst = s.node then s
    else
      match s1.route f.dst f.hash f.ttl f.down with
      | .port q => (s1.putOut q (s1.hop q f) false).countPort q 0x04 1
      | r =>
        let s2 := s1.countUnrouted r
        if f.ptype ≤ 1 then s2.answerNak f 1 else s2

/-- The value of an inbound window field in an epoch: the active set, or the set it replaced (R588, R589). -/
def State.inField (s : State) (now : Bool) (f : Fld) (w : Nat) : Nat :=
  if now then s.rd f w else KMap.getD s.fab.old (f.key w) (f.rst.at w)

/-- The inbound window that a request matches, as the internal address it translates to (R47, R587). -/
def State.inWindow (s : State) (i : FIn) (len : Nat) : Option Nat :=
  let now := i.epoch == s.rd R.LNS_STATUS_EPOCH 0
  let g := fun f w => s.inField now f w
  let f := i.pkt
  let hit := (List.range 1024).find? fun w =>
    g R.LNS_ACT_IN_EN w == 1
      && f.src &&& g R.LNS_ACT_IN_SRC_MASK w == g R.LNS_ACT_IN_SRC_NODE w &&& g R.LNS_ACT_IN_SRC_MASK w
      && (if f.ptype = 0 then g R.LNS_ACT_IN_RD w else g R.LNS_ACT_IN_WR w) == 1
      && decide (g R.LNS_ACT_IN_OFF_BASE w * 65536 ≤ f.off)
      && decide (f.off + len ≤ g R.LNS_ACT_IN_OFF_LAST w * 65536 + 65536)
  match hit with
  | none => none
  | some w =>
    let a := g R.LNS_ACT_IN_INT_BASE w * 65536 + f.off - g R.LNS_ACT_IN_OFF_BASE w * 65536
    if inHbm s.part a len then some a else none

/-- Requests of the old epoch that have not been performed (R589, R590). -/
def State.oldPending (s : State) : Nat :=
  (List.range 9).foldl (fun n p => n + (((s.fport p).ins 0).filter fun i =>
    i.pkt.dst == s.node && i.epoch != s.rd R.LNS_STATUS_EPOCH 0).length) 0

/-- Keep OLD_PENDING. -/
def State.countOld (s : State) : State := s.wr R.LNS_STATUS_OLD_PENDING 0 s.oldPending

/-- A request refused as a window miss (R587). -/
def State.windowMiss (s : State) (f : FPkt) : State :=
  ((s.sat R.LNS_CNT_MISSES 0 1).count 36 0x03 1).answerNak f 0

/-- The poison mask of a range of memory, by carry segment (R565, R568). -/
def State.poisonMask (s : State) (a n : Nat) : Nat :=
  ((List.range (segmentsOf n)).filter fun g => s.badRange (a + 256 * g) (Nat.min 256 (n - 256 * g))).foldl orBit 0

/-- FABRIC_READ (R567, R568, R587): the oldest request of a port is a READ for this node; index 8 names the requests to itself
(R585). -/
def doFabricRead (p : Nat) (s : State) : State :=
  match s.takeIn p 0 with
  | none => s
  | some (i, s1) =>
    let f := i.pkt
    if f.ptype ≠ 0 ∨ f.dst ≠ s.node then s
    else
      let s2 := s1.countOld.count 36 0x02 1
      if !s.nodeV then s2.answerNak f 2
      else
        match s2.inWindow i f.rlen with
        | none => s2.windowMiss f
        | some a => (s2.countPoison a f.rlen).answer f 2 0 (s2.bytes a f.rlen) (s2.poisonMask a f.rlen)

/-- FABRIC_WRITE (R565, R567, R568, R587). -/
def doFabricWrite (p : Nat) (s : State) : State :=
  match s.takeIn p 0 with
  | none => s
  | some (i, s1) =>
    let f := i.pkt
    if f.ptype ≠ 1 ∨ f.dst ≠ s.node then s
    else
      let s2 := s1.countOld.count 36 0x02 1
      if !s.nodeV then s2.answerNak f 2
      else if f.poison ≠ 0 then s2.answerNak f 3
      else
        match s2.inWindow i f.data.length with
        | none => s2.windowMiss f
        | some a => (s2.setBytes a f.data).answer f 3 0 [] 0

/-- A response arrives: its request ends, or it is late (R570). -/
def State.takeResponse (s : State) (p ty : Nat) (e : FPkt → FEnd) : State :=
  match s.takeIn p 1 with
  | none => s
  | some (i, s1) =>
    if i.pkt.ptype ≠ ty ∨ i.pkt.dst ≠ s.node then s
    else if (KMap.find s1.fab.reqs i.pkt.tag).isNone then s1.sat R.BCN_CNT_LATE_RSP 0 1
    else s1.endReq i.pkt.tag (e i.pkt)

/-- FABRIC_READ_DATA (R565, R570). -/
def doFabricReadData (p : Nat) (s : State) : State := s.takeResponse p 2 fun f => .data f.data f.poison

/-- FABRIC_ACK (R567, R570). -/
def doFabricAck (p : Nat) (s : State) : State := s.takeResponse p 3 fun _ => .acked

/-- FABRIC_NAK (R568, R570, R586). -/
def doFabricNak (p : Nat) (s : State) : State := s.takeResponse p 4 fun f => .nak f.reason

/-- FABRIC_FRAME (R571, R56): a frame enters Prism of pipeline P(k ÷ 2) with source code 24 + k; a poisoned one is dropped; one for
which no cells are free is dropped (R34). -/
def doFabricFrame (p : Nat) (s : State) : State :=
  match s.takeIn p 2 with
  | none => s
  | some (i, s1) =>
    let f := i.pkt
    if f.dst ≠ s.node then s
    else if f.poison ≠ 0 then s1
    else
      let k := p % 8
      match s1.newFrame { Pkt.fresh with
          pipe := k / 2, src := 24 + k, data := f.data, locKind := 3, locDest := f.src } with
      | some (g, s2) => s2.enterPrism g
      | none => s1.count 24 0x06 1

/-- FABRIC_REQ_TIMEOUT (R569): a request has had no answer for REQ_TMO_MS. -/
def doFabricReqTimeout (tag : Nat) (s : State) : State :=
  match KMap.find s.fab.reqs tag with
  | some q =>
    if q.time + 1000000 * s.rd R.BCN_TMO_REQ_TMO_MS 0 ≤ s.time then
      (s.sat R.BCN_CNT_TIMEOUTS 0 1).endReq tag .timeout
    else s
  | none => s

/-! ### Joining the fabric (R572 to R578) -/

/-- The HELLO of a port (R572). -/
def State.helloOf (s : State) (p : Nat) : Hello :=
  ⟨s.serial, s.rd R.BCN_CFG_FABRIC_ID 0, s.flag R.BCN_CFG_EN 0, p, s.nodeOpt, s.rd R.BCN_NODE_LEVEL 0,
    s.rd R.BCN_NODE_TERM 0, s.fab.cand⟩

/-- HELLO_SEND (R572): every 100 µs, and at once when a field has changed. -/
def doHelloSend (p : Nat) (s0 : State) : State :=
  if !s0.portLit p then s0
  else
    let s := s0.settleCand
    let x := s.fport p
    let h := s.helloOf p
    if x.mine ≠ some h ∨ x.mineAt + 100000 ≤ s.time then
      (s.modFport p fun x => { x with mine := some h, mineAt := s.time }).sendMgmt p (.hello h)
    else s

/-- Term `a` is newer than term `b` (R574). -/
def termNewer (a b : Nat) : Bool :=
  let d := (a + 65536 - b) % 65536
  decide (1 ≤ d ∧ d ≤ 32767)

/-- Take note of a term heard (R573). -/
def State.hearTerm (s : State) (t : Nat) : State :=
  if termNewer t s.fab.heard then { s with fab := { s.fab with heard := t } } else s

/-- The oldest management packet of a port is handled; its content is the command's operand (log entry 40). -/
def State.takeMgmt (s : State) (p : Nat) (k : FPkt → State → State) : State :=
  match s.takeIn p 3 with
  | some (i, s1) => k i.pkt s1
  | none => s

/-- HELLO_RECEIVE (R555, R572, R573, R575): the peer's fields are kept; with equal FABRIC_IDs, Beacon in use at both ends and a HELLO
sent, the port is UP, otherwise ISOLATED. -/
def doHelloReceive (p : Nat) (h : Hello) (s : State) : State :=
  if !s.portLit p then s
  else s.takeMgmt p fun _ s1 =>
    let s2 := (s1.modFport p fun x => { x with peer := some h }).hearTerm h.term
    let s3 := s2.wrs p
      [(R.BCN_PORT_STAT_PEER_NODE, h.node.getD 0), (R.BCN_PORT_STAT_PEER_NODE_V, b2n h.node.isSome),
       (R.BCN_PORT_STAT_PEER_PORT, h.port), (R.BCN_PORT_STAT_PEER_LEVEL, h.level)]
    let up := h.fabric == s3.rd R.BCN_CFG_FABRIC_ID 0 && h.en && s3.flag R.BCN_CFG_EN 0 && (s3.fport p).mine.isSome
    (s3.setPortState p (if up then 3 else 2)).settleFabric

/-- The device's node ID becomes `n` (R576, R578, R593): requests under another ID end as NAK NO_ROUTE. -/
def State.takeId (s : State) (n : Nat) : State :=
  let old := s.node
  let had := s.nodeV
  let s1 := if had && old != n then s.fab.reqs.foldl (fun s e => s.endReq e.1 (.nak 1)) s else s
  let s2 := (s1.wr R.BCN_NODE_NODE 0 n).wr R.BCN_NODE_NODE_V 0 1
  let s3 := { s2 with fab := { s2.fab with lastId := some n, wantId := false, refused := none } }
  let s4 := if !had then s3.bcnNotice 0 0 0 n 0 else if old ≠ n then s3.bcnNotice 1 0 0 n old else s3
  let s5 := if s4.flag R.BCN_NODE_IS_COORD 0 then s4.wr R.BCN_NODE_COORD 0 n else s4
  s5.settleFabric

/-- The lowest free node ID (R576). -/
def State.lowestId (s : State) : Option Nat := (List.range 4096).find? fun n => (KMap.find s.fab.grants n).isNone

/-- Record a grant. -/
def State.grant (s : State) (n serial : Nat) (via : Option (Nat × List Nat)) : State :=
  let keep := s.fab.grants.filter fun e => e.2.serial != serial || e.1 == n
  { s with fab := { s.fab with grants := KMap.put keep n ⟨serial, none, via⟩ } }

/-- Answer a device whose request came by `via`: itself when there is none (R576). -/
def State.tellId (s : State) (serial : Nat) (via : Option (Nat × List Nat)) (id : Option Nat) : State :=
  match via, id with
  | some (p, path), _ => s.sendMgmt p (.idReply serial id path)
  | none, some n => s.takeId n
  | none, none => s

/-- The coordinator grants an ID (R576). -/
def State.grantId (s : State) (serial : Nat) (pref : Option Nat) (reg : Bool) (via : Option (Nat × List Nat)) : State :=
  let give := fun (s : State) => match s.lowestId with
    | some n => (s.grant n serial via).tellId serial via (some n)
    | none => s.tellId serial via none
  match pref with
  | none => give s
  | some n =>
    match KMap.find s.fab.grants n with
    | none => (s.grant n serial via).tellId serial via (some n)
    | some g =>
      if g.serial = serial then (s.grant n serial via).tellId serial via (some n)
      else if reg && decide (serial < g.serial) then
        let s1 := (s.grant n serial via).tellId serial via (some n)
        match s1.lowestId with
        | some m => (s1.grant m g.serial g.via).tellId g.serial g.via (some m)
        | none => s1.tellId g.serial g.via none
      else give s

/-- The preferred ID of the device (R576). -/
def State.prefId (s : State) : Option Nat :=
  if s.nodeV then some s.node else if s.flag R.BCN_CFG_PREF_V 0 then some (s.rd R.BCN_CFG_PREF_ID 0) else s.fab.lastId

/-- This node becomes the coordinator of a term above every term it has heard, and grants itself its node ID (R573, R574, R576). -/
def State.becomeCoord (s : State) : State :=
  let term := (s.fab.heard + 1) % 65536
  let s1 := s.wrs 0 [(R.BCN_NODE_IS_COORD, 1), (R.BCN_NODE_COORD_V, 1), (R.BCN_NODE_TERM, term)]
  let s2 := { s1 with fab := { s1.fab with
    heard := term, coord := some s1.ownKey, beatAt := s1.time, grants := [], wantId := false, sentAt := 0 } }
  let s3 := s2.grantId s2.serial s2.prefId s2.nodeV none
  (s3.wr R.BCN_NODE_COORD 0 s3.node).settleFabric.bcnNotice 2 0 0 s3.node 0

/-- COORD_DECLARE (R573, R576): the own key has been the candidate for 2 ms with no accepted coordinator. -/
def doCoordDeclare (s0 : State) : State :=
  let s := s0.settleCand
  if s.flag R.BCN_CFG_EN 0 = true ∧ s.flag R.BCN_NODE_COORD_V 0 = false ∧ s.fab.cand = some s.ownKey
      ∧ s.fab.candAt + 2000000 ≤ s.time then s.becomeCoord else s

/-- COORD_HEARTBEAT_SEND (R574): the coordinator floods a heartbeat every 1 ms. -/
def doCoordHeartbeatSend (s : State) : State :=
  if s.flag R.BCN_NODE_IS_COORD 0 = true ∧ (s.fab.sentAt = 0 ∨ s.fab.sentAt + 1000000 ≤ s.time) then
    let m := Mgmt.beat (s.rd R.BCN_NODE_TERM 0) s.ownKey.1 s.ownKey.2 s.fab.beatSeq
    let s1 := { s with fab := { s.fab with beatSeq := s.fab.beatSeq + 1, sentAt := s.time } }
    s1.peers.foldl (fun s e => s.sendMgmt e.1 m) s1
  else s

/-- A heartbeat is to be accepted (R574): a newer term, or an equal one with a key that is better, or the accepted coordinator's own. -/
def State.acceptBeat (s : State) (term : Nat) (key : Nat × Nat) : Bool :=
  if !s.flag R.BCN_NODE_COORD_V 0 then true
  else termNewer term (s.rd R.BCN_NODE_TERM 0)
    || (term == s.rd R.BCN_NODE_TERM 0 && match s.fab.coord with
      | some k => keyBetter key k || (key == k && !s.flag R.BCN_NODE_IS_COORD 0)
      | none => true)

/-- A heartbeat of node `src` is heard at port `p` (R573, R574): a new one goes on to the other peers; if its sender wins against the
coordinator known here, that sender is the coordinator. -/
def State.hearBeat (s0 : State) (p src term prio serial seq : Nat) : State :=
  let s1 := s0.hearTerm term
  let first := match KMap.find s1.fab.seen serial with
    | some (t, n) => termNewer term t || (term == t && decide (n < seq))
    | none => true
  if !first || serial == s1.serial then s1
  else
    let s2 := { s1 with fab := { s1.fab with seen := KMap.put s1.fab.seen serial (term, seq) } }
    let s3 := (s2.peers.filter fun e => e.1 != p).foldl (fun s e => s.sendMgmt e.1 (.beat term prio serial seq)) s2
    if !s3.acceptBeat term (prio, serial) then s3
    else
      let same := s3.flag R.BCN_NODE_COORD_V 0 && s3.fab.coord == some (prio, serial) && s3.rd R.BCN_NODE_TERM 0 == term
      let s4 := s3.wrs 0 [(R.BCN_NODE_IS_COORD, 0), (R.BCN_NODE_COORD_V, 1), (R.BCN_NODE_TERM, term),
        (R.BCN_NODE_COORD, src)]
      let s5 := { s4 with fab := { s4.fab with coord := some (prio, serial), beatAt := s4.time } }
      if same then s5
      else
        let s6 := { s5 with fab := { s5.fab with grants := [], wantId := true } }
        s6.settleFabric.bcnNotice 2 0 0 src 0

/-- COORD_HEARTBEAT_RECEIVE (R574, R576): the first copy is forwarded on the other UP ports; an accepted one of another coordinator makes
this device follow it and register its node ID. -/
def doCoordHeartbeatReceive (p term prio serial seq : Nat) (s : State) : State :=
  if !s.portUp p then s else s.takeMgmt p fun f s0 => s0.hearBeat p f.src term prio serial seq

/-- COORD_TIMEOUT (R574): no heartbeat has been accepted for 5 ms; the election starts afresh. -/
def doCoordTimeout (s : State) : State :=
  if s.flag R.BCN_NODE_COORD_V 0 = true ∧ s.flag R.BCN_NODE_IS_COORD 0 = false ∧ s.fab.beatAt + 5000000 ≤ s.time then
    let s1 := s.wrs 0 [(R.BCN_NODE_COORD_V, 0), (R.BCN_NODE_COORD, 0)]
    ({ s1 with fab := { s1.fab with coord := none, cand := none, wantId := false } }).settleFabric
  else s

/-- NODE_ID_REQUEST (R576): a request or registration reaches the coordinator, which grants or refuses; another device passes it up
with its path. -/
def doNodeIdRequest (p serial : Nat) (pref : Option Nat) (reg : Bool) (path : List Nat) (s : State) : State :=
  if !s.portUp p then s
  else s.takeMgmt p fun _ s1 =>
    if s1.flag R.BCN_NODE_IS_COORD 0 then s1.grantId serial pref reg (some (p, path))
    else
      let lvl := s1.rd R.BCN_NODE_LEVEL 0
      match s1.peers.find? fun e => e.2.level + 1 == lvl && decide (lvl < 63) with
      | some e => s1.sendMgmt e.1 (.idReq serial pref reg (p :: path))
      | none => s1

/-- NODE_ID_GRANT (R576, R578): the reply comes back along the path; at its device it gives the node ID or refuses one. -/
def doNodeIdGrant (p serial : Nat) (id : Option Nat) (path : List Nat) (s : State) : State :=
  if !s.portUp p then s
  else s.takeMgmt p fun _ s1 =>
    match path with
    | q :: rest => s1.sendMgmt q (.idReply serial id rest)
    | [] =>
      if serial ≠ s1.serial then s1
      else
        match id with
        | some n => s1.takeId (n % 4096)
        | none => { s1 with fab := { s1.fab with refused := some s1.time } }

/-- NODE_ID_RETRY (R576): a refused device retries every 100 ms. -/
def doNodeIdRetry (s : State) : State :=
  match s.fab.refused with
  | some t =>
    if t + 100000000 ≤ s.time then
      ({ s with fab := { s.fab with refused := none, wantId := true } }).askId
    else s
  | none => s

/-- NODE_ID_HOLD_EXPIRE (R576): ID_HOLD_S after a node became unreachable its ID is free. -/
def doNodeIdHoldExpire (id : Nat) (s : State) : State :=
  match KMap.find s.fab.grants id with
  | some g => match g.gone with
    | some t =>
      if t + 1000000000 * s.rd R.BCN_TMO_ID_HOLD_S 0 ≤ s.time then
        { s with fab := { s.fab with grants := KMap.del s.fab.grants id } }
      else s
    | none => s
  | none => s

/-! ### Routing tables (R580 to R582) -/

/-- The own distances of 1,024 destinations from `first`: the own node is 0 hops away. -/
def State.distances (s : State) (m : KMap Nat) (first : Nat) : List Nat :=
  (List.range 1024).map fun k => if s.nodeOpt = some (first + k) then 0 else KMap.getD m (first + k) 63

/-- ROUTE_UPDATE_SEND (R580): after a change, and in full every 100 ms, to every UP neighbour. -/
def doRouteUpdateSend (s : State) : State :=
  if s.fab.dirty = true ∨ s.fab.distAt + 100000000 ≤ s.time then
    let s1 := { s with fab := { s.fab with dirty := false, distAt := s.time } }
    s1.peers.foldl (fun s e => [0, 1024, 2048, 3072].foldl (fun s first =>
      s.sendMgmt e.1 (.dist first (s1.distances s1.fab.dn first) (s1.distances s1.fab.any first))) s) s1
  else s

/-- Put a list of distances into a table from `first` on. -/
def putDist (m : KMap Nat) (first : Nat) (l : List Nat) : KMap Nat :=
  (l.foldl (fun a v => (KMap.setD a.1 a.2 63 v, a.2 + 1)) (m, first)).1

/-- ROUTE_UPDATE_RECEIVE (R575, R580). -/
def doRouteUpdateReceive (p first : Nat) (dn any : List Nat) (s : State) : State :=
  if !s.portUp p then s
  else s.takeMgmt p fun _ s1 =>
    (s1.modFport p fun x => { x with
      dn := putDist x.dn first (dn.take 1024), any := putDist x.any first (any.take 1024) }).settleFabric

/-- A write of BCN_ROUTE (R581, R582): a change of the slots increments ROUTE_GEN. -/
def State.wrRoute (s : State) (w : Writer) (d val : Nat) : State :=
  let before := s.rd R.BCN_ROUTE_HOPS d
  let slots := s.routeSlots d
  let s1 := s.wrReg w Reg.BCN_ROUTE d val
  let s2 := if slots = s1.routeSlots d then s1 else s1.bump R.BCN_GEN_ROUTE_GEN 0
  s2.hopsChanged d before

/-- ROUTE_ENTRY_WRITE (R582). -/
def doRouteEntryWrite (w : Writer) (d val : Nat) (s : State) : State :=
  if d < 4096 ∧ s.mayWrite w (Reg.BCN_ROUTE.off d) = true then s.wrRoute w d val else s

/-! ### Lanes (R583) -/

/-- LANE_RETIRE (R558, R583): a lane of a port is retired; the port runs on what is left, or goes DOWN. -/
def doLaneRetire (p lane : Nat) (s : State) : State :=
  if 8 ≤ p ∨ 4 ≤ lane ∨ bitAt (s.rd R.BCN_PORT_STAT_LANES_OK p) lane = false then s
  else
    let ok := clearMask (s.rd R.BCN_PORT_STAT_LANES_OK p) (1 <<< lane)
    let s1 := s.wr R.BCN_PORT_STAT_LANES_OK p ok
    if !s1.portLit p then s1
    else
      let w := widthOf (ok &&& (s1.fport p).peerLanes)
      if w = 0 then s1.portDown p
      else (((s1.wr R.BCN_PORT_STAT_WIDTH p w).emit (.lanes p ok)).resend p).bcnNotice 5 p 0 0 0

/-! ### Lens windows (R586, R588 to R592) -/

/-- The pairs of a staged field and its active copy. -/
def lensPairs : List (Fld × Fld) :=
  [(R.LNS_OUT_EN, R.LNS_ACT_OUT_EN), (R.LNS_OUT_RD, R.LNS_ACT_OUT_RD), (R.LNS_OUT_WR, R.LNS_ACT_OUT_WR),
   (R.LNS_OUT_LOCAL_BASE, R.LNS_ACT_OUT_LOCAL_BASE), (R.LNS_OUT_LOCAL_LAST, R.LNS_ACT_OUT_LOCAL_LAST),
   (R.LNS_OUT_NODE, R.LNS_ACT_OUT_NODE), (R.LNS_OUT_REMOTE_BASE, R.LNS_ACT_OUT_REMOTE_BASE)]
  ++ [(R.LNS_IN_EN, R.LNS_ACT_IN_EN), (R.LNS_IN_RD, R.LNS_ACT_IN_RD), (R.LNS_IN_WR, R.LNS_ACT_IN_WR),
   (R.LNS_IN_SRC_NODE, R.LNS_ACT_IN_SRC_NODE), (R.LNS_IN_SRC_MASK, R.LNS_ACT_IN_SRC_MASK),
   (R.LNS_IN_OFF_BASE, R.LNS_ACT_IN_OFF_BASE), (R.LNS_IN_OFF_LAST, R.LNS_ACT_IN_OFF_LAST),
   (R.LNS_IN_INT_BASE, R.LNS_ACT_IN_INT_BASE)]

/-- The entries of the register file that belong to a field. -/
def State.fieldEntries (s : State) (f : Fld) : KMap Nat := s.regs.filter fun e => e.1 / 2 ^ 24 == f.id

/-- Copy one staged field of every window into the active set. -/
def State.activate (s : State) (a : Fld × Fld) : State :=
  let cleared := s.regs.filter fun e => e.1 / 2 ^ 24 != a.2.id
  { s with regs := (s.fieldEntries a.1).foldl (fun m e => KMap.put m (a.2.id * 2 ^ 24 + e.1 % 2 ^ 24) e.2) cleared }

/-- GO of LNS_COMMIT (R588, R590, R592). -/
def State.lensGo (s : State) : State :=
  if !s.flag R.LNS_STATUS_COMMIT_DONE 0 then s.wr R.LNS_COMMIT_REFUSED 0 1
  else
    let old := lensPairs.foldl (fun m a => (s.fieldEntries a.2).foldl (fun m e => KMap.put m e.1 e.2) m) []
    let s1 := lensPairs.foldl State.activate { s with fab := { s.fab with old := old, commitAt := s.time } }
    (((s1.bump R.LNS_STATUS_EPOCH 0).wrs 0 [(R.LNS_STATUS_COMMIT_DONE, 0), (R.LNS_COMMIT_REFUSED, 0)]).countOld).count
      36 0x04 1

/-- LENS_COMMIT (R588). -/
def doLensCommit (w : Writer) (s : State) : State := if s.mayWrite w (Reg.LNS_COMMIT.off 0) then s.lensGo else s

/-- COMMIT_DONE sets (R590, R92). -/
def State.lensDone (s : State) : State := (s.countOld.wr R.LNS_STATUS_COMMIT_DONE 0 1).latchLine 34

/-- LENS_COMMIT_DONE (R590): every request of the old epoch has performed its access. -/
def doLensCommitDone (s : State) : State :=
  if s.flag R.LNS_STATUS_COMMIT_DONE 0 = false ∧ s.oldPending = 0 then s.lensDone else s

/-- The requests of the earlier epoch that still wait for this node are refused and counted (R590). -/
def State.forceOld (s : State) : State :=
  let isOld := fun (i : FIn) => i.pkt.dst == s.node && i.epoch != s.rd R.LNS_STATUS_EPOCH 0
  (List.range 9).foldl (fun s p =>
    let l := ((s.fport p).ins 0).filter isOld
    let s2 := s.modFport p fun x => { x with inq := KMap.setD x.inq 0 [] ((x.ins 0).filter fun i => !isOld i) }
    l.foldl (fun s i => ((s.oweCredit p 0 i.pkt.units).sat R.LNS_CNT_FORCED 0 1).answerNak i.pkt 0) s2) s

/-- LENS_COMMIT_FORCE (R590): at 10 µs the requests of the old epoch that have not been issued are refused. -/
def doLensCommitForce (s : State) : State :=
  if s.flag R.LNS_STATUS_COMMIT_DONE 0 = false ∧ s.fab.commitAt + 10000 ≤ s.time then s.forceOld.lensDone else s

/-- GO of LNS_WR_DRAIN (R586): DONE clears; the WRITEs outstanding are waited for. -/
def State.drainWrites (s : State) : State :=
  let l := (s.fab.reqs.filter fun e => e.2.write).map Prod.fst
  ({ s with fab := { s.fab with drain := l } }).wr R.LNS_WR_DRAIN_DONE 0 0

/-- LENS_WR_DRAIN (R586). -/
def doLensWrDrain (w : Writer) (s : State) : State := if s.mayWrite w (Reg.LNS_WR_DRAIN.off 0) then s.drainWrites else s

/-- LENS_WR_DRAIN_DONE (R586, R92): every WRITE issued before GO has been answered or has timed out. -/
def doLensWrDrainDone (s : State) : State :=
  if s.flag R.LNS_WR_DRAIN_DONE 0 = false ∧ s.fab.drain = [] then (s.wr R.LNS_WR_DRAIN_DONE 0 1).latchLine 35 else s

/-! ### The meanings of the rows -/

/-- FLIT_RECEIVE (R556). -/
def execFlitReceive (p : Nat) (f : Flit) (s : State) : Host.Outcome State Fault Refusal :=
  .next (s.after (doFlitReceive p f s))

/-- NAK_RESEND_TIMER (R556). -/
def execNakResendTimer (p : Nat) (s : State) : Host.Outcome State Fault Refusal :=
  .next (s.after (doNakResendTimer p s))

/-- REPLAY_TIMEOUT (R557). -/
def execReplayTimeout (p : Nat) (s : State) : Host.Outcome State Fault Refusal :=
  .next (s.after (doReplayTimeout p s))

/-- FABRIC_PORT_TRAINED (R555). -/
def execFabricPortTrained (p : Nat) (peerLanes : Nat) (shares : List Nat) (s : State) : Host.Outcome State Fault Refusal :=
  .next (s.after (doFabricPortTrained p peerLanes shares s))

/-- RETRAIN_TIMEOUT (R558). -/
def execRetrainTimeout (p : Nat) (s : State) : Host.Outcome State Fault Refusal :=
  .next (s.after (doRetrainTimeout p s))

/-- FABRIC_PACKET_SEND (R561). -/
def execFabricPacketSend (p : Nat) (badSegs : List Nat) (s : State) : Host.Outcome State Fault Refusal :=
  .next (s.after (doFabricPacketSend p badSegs s))

/-- CREDIT_STALL (R562). -/
def execCreditStall (p : Nat) (vc : Nat) (s : State) : Host.Outcome State Fault Refusal :=
  .next (s.after (doCreditStall p vc s))

/-- FABRIC_TRANSIT (R579). -/
def execFabricTransit (p : Nat) (vc : Nat) (s : State) : Host.Outcome State Fault Refusal :=
  .next (s.after (doFabricTransit p vc s))

/-- FABRIC_READ (R567). -/
def execFabricRead (p : Nat) (s : State) : Host.Outcome State Fault Refusal :=
  .next (s.after (doFabricRead p s))

/-- FABRIC_WRITE (R567). -/
def execFabricWrite (p : Nat) (s : State) : Host.Outcome State Fault Refusal :=
  .next (s.after (doFabricWrite p s))

/-- FABRIC_READ_DATA (R565). -/
def execFabricReadData (p : Nat) (s : State) : Host.Outcome State Fault Refusal :=
  .next (s.after (doFabricReadData p s))

/-- FABRIC_ACK (R567). -/
def execFabricAck (p : Nat) (s : State) : Host.Outcome State Fault Refusal :=
  .next (s.after (doFabricAck p s))

/-- FABRIC_NAK (R568). -/
def execFabricNak (p : Nat) (s : State) : Host.Outcome State Fault Refusal :=
  .next (s.after (doFabricNak p s))

/-- FABRIC_FRAME (R571). -/
def execFabricFrame (p : Nat) (s : State) : Host.Outcome State Fault Refusal :=
  .next (s.after (doFabricFrame p s))

/-- FABRIC_REQ_TIMEOUT (R569). -/
def execFabricReqTimeout (tag : Nat) (s : State) : Host.Outcome State Fault Refusal :=
  .next (s.after (doFabricReqTimeout tag s))

/-- HELLO_SEND (R572). -/
def execHelloSend (p : Nat) (s : State) : Host.Outcome State Fault Refusal :=
  .next (s.after (doHelloSend p s))

/-- HELLO_RECEIVE (R572). -/
def execHelloReceive (p : Nat) (h : Hello) (s : State) : Host.Outcome State Fault Refusal :=
  .next (s.after (doHelloReceive p h s))

/-- COORD_DECLARE (R573). -/
def execCoordDeclare (s : State) : Host.Outcome State Fault Refusal :=
  .next (s.after (doCoordDeclare s))

/-- COORD_HEARTBEAT_SEND (R574). -/
def execCoordHeartbeatSend (s : State) : Host.Outcome State Fault Refusal :=
  .next (s.after (doCoordHeartbeatSend s))

/-- COORD_HEARTBEAT_RECEIVE (R574). -/
def execCoordHeartbeatReceive (p : Nat) (term : Nat) (prio : Nat) (serial : Nat) (seq : Nat) (s : State) :
    Host.Outcome State Fault Refusal :=
  .next (s.after (doCoordHeartbeatReceive p term prio serial seq s))

/-- COORD_TIMEOUT (R574). -/
def execCoordTimeout (s : State) : Host.Outcome State Fault Refusal :=
  .next (s.after (doCoordTimeout s))

/-- NODE_ID_REQUEST (R576). -/
def execNodeIdRequest (p : Nat) (serial : Nat) (pref : Option Nat) (reg : Bool) (path : List Nat) (s : State) :
    Host.Outcome State Fault Refusal :=
  .next (s.after (doNodeIdRequest p serial pref reg path s))

/-- NODE_ID_GRANT (R576). -/
def execNodeIdGrant (p : Nat) (serial : Nat) (id : Option Nat) (path : List Nat) (s : State) :
    Host.Outcome State Fault Refusal :=
  .next (s.after (doNodeIdGrant p serial id path s))

/-- NODE_ID_RETRY (R576). -/
def execNodeIdRetry (s : State) : Host.Outcome State Fault Refusal :=
  .next (s.after (doNodeIdRetry s))

/-- NODE_ID_HOLD_EXPIRE (R576). -/
def execNodeIdHoldExpire (id : Nat) (s : State) : Host.Outcome State Fault Refusal :=
  .next (s.after (doNodeIdHoldExpire id s))

/-- ROUTE_UPDATE_SEND (R580). -/
def execRouteUpdateSend (s : State) : Host.Outcome State Fault Refusal :=
  .next (s.after (doRouteUpdateSend s))

/-- ROUTE_UPDATE_RECEIVE (R580). -/
def execRouteUpdateReceive (p : Nat) (first : Nat) (dn : List Nat) (any : List Nat) (s : State) :
    Host.Outcome State Fault Refusal :=
  .next (s.after (doRouteUpdateReceive p first dn any s))

/-- ROUTE_ENTRY_WRITE (R582). -/
def execRouteEntryWrite (w : Writer) (d : Nat) (val : Nat) (s : State) : Host.Outcome State Fault Refusal :=
  .next (s.after (doRouteEntryWrite w d val s))

/-- LANE_RETIRE (R583). -/
def execLaneRetire (p : Nat) (lane : Nat) (s : State) : Host.Outcome State Fault Refusal :=
  .next (s.after (doLaneRetire p lane s))

/-- LENS_COMMIT (R588). -/
def execLensCommit (w : Writer) (s : State) : Host.Outcome State Fault Refusal :=
  .next (s.after (doLensCommit w s))

/-- LENS_COMMIT_DONE (R590). -/
def execLensCommitDone (s : State) : Host.Outcome State Fault Refusal :=
  .next (s.after (doLensCommitDone s))

/-- LENS_COMMIT_FORCE (R590). -/
def execLensCommitForce (s : State) : Host.Outcome State Fault Refusal :=
  .next (s.after (doLensCommitForce s))

/-- LENS_WR_DRAIN (R586). -/
def execLensWrDrain (w : Writer) (s : State) : Host.Outcome State Fault Refusal :=
  .next (s.after (doLensWrDrain w s))

/-- LENS_WR_DRAIN_DONE (R586). -/
def execLensWrDrainDone (s : State) : Host.Outcome State Fault Refusal :=
  .next (s.after (doLensWrDrainDone s))

/-- FABRIC_SIGNAL_LOSS (R555). -/
def execFabricSignalLoss (p : Nat) (s : State) : Host.Outcome State Fault Refusal :=
  .next (s.after (doFabricSignalLoss p s))

/-- FABRIC_SIGNAL_DETECT (R555). -/
def execFabricSignalDetect (p : Nat) (s : State) : Host.Outcome State Fault Refusal :=
  .next (s.after (doFabricSignalDetect p s))

end Sys2Proof.Machine
end

