-- ==== Sys2Proof/Machine/Crypto.lean ====
section
/-!
DEFINITION. The ciphers of Glint (R367, R384, R385): AES of FIPS 197, its modes of SP 800-38A to 38E, and ChaCha20-Poly1305 of
RFC 8439, over byte strings. The spec names these standards and lays down no algorithm of its own (log entry 8).
-/

namespace Sys2Proof.Machine

/-! ### AES (FIPS 197) -/

/-- Multiplication by x in the field of AES. -/
def xtime (a : Byte) : Byte := if a.msb then (a <<< 1) ^^^ 0x1B else a <<< 1

/-- Multiplication in the field of AES. -/
def gmul (a b : Byte) : Byte :=
  ((List.range 8).foldl (fun (p : Byte × Byte) i => (if b.getLsbD i then p.1 ^^^ p.2 else p.1, xtime p.2)) (0, a)).1

/-- The inverse in the field of AES: the 254th power. -/
def ginv (a : Byte) : Byte :=
  let a2 := gmul a a
  let a3 := gmul a2 a
  let a6 := gmul a3 a3
  let a12 := gmul a6 a6
  let a15 := gmul a12 a3
  let a30 := gmul a15 a15
  let a60 := gmul a30 a30
  let a120 := gmul a60 a60
  let a126 := gmul a120 a6
  let a127 := gmul a126 a
  gmul a127 a127

/-- SubBytes of one byte. -/
def aesSub (a : Byte) : Byte :=
  let b := ginv a
  b ^^^ b.rotateLeft 1 ^^^ b.rotateLeft 2 ^^^ b.rotateLeft 3 ^^^ b.rotateLeft 4 ^^^ 0x63

/-- InvSubBytes of one byte. -/
def aesInvSub (a : Byte) : Byte :=
  ginv (a.rotateLeft 1 ^^^ a.rotateLeft 3 ^^^ a.rotateLeft 6 ^^^ 0x05)

/-- Bytewise exclusive or, as long as the shorter string. -/
def xorB (a b : Bytes) : Bytes := List.zipWith (fun x y => x ^^^ y) a b

/-- The next word of a key schedule from the words before it, newest first; `nk` words of key. -/
def keyWord (nk i : Nat) (w : List Bytes) (rcon : Byte) : Bytes :=
  let t := w.headD []
  let t1 :=
    if i % nk = 0 then
      let r := (t.drop 1 ++ t.take 1).map aesSub
      xorB r [rcon, 0, 0, 0]
    else if nk = 8 ∧ i % 8 = 4 then t.map aesSub
    else t
  xorB (w.getD (nk - 1) []) t1

/-- Extend a key schedule by `n` words from word `i` on. -/
def keyExtend (nk : Nat) : Nat → Nat → Byte → List Bytes → List Bytes
  | 0, _, _, w => w
  | n + 1, i, rcon, w => keyExtend nk n (i + 1) (if i % nk = 0 then xtime rcon else rcon) (keyWord nk i w rcon :: w)

/-- The round keys of a key of 16 or 32 bytes, in order. -/
def roundKeys (key : Bytes) : List Bytes :=
  let nk := key.length / 4
  let start := (List.range nk).map fun i => sliceB key (4 * i) 4
  let w := (keyExtend nk (4 * (nk + 7) - nk) nk 1 start.reverse).reverse
  (List.range (nk + 7)).map fun r => (w.getD (4 * r) []) ++ (w.getD (4 * r + 1) []) ++ (w.getD (4 * r + 2) [])
    ++ (w.getD (4 * r + 3) [])

/-- ShiftRows of a block of 16 bytes in column order. -/
def shiftRows (b : Bytes) : Bytes := (List.range 16).map fun i => b.getD ((i + 4 * (i % 4)) % 16) 0

/-- InvShiftRows. -/
def invShiftRows (b : Bytes) : Bytes := (List.range 16).map fun i => b.getD ((i + 16 - 4 * (i % 4)) % 16) 0

/-- One column times a circulant matrix given by its first row. -/
def mixColumn (m0 m1 m2 m3 : Byte) (c : Bytes) : Bytes :=
  let m := [m0, m1, m2, m3]
  (List.range 4).map fun r =>
    (List.range 4).foldl (fun x k => x ^^^ gmul (m.getD ((k + 4 - r) % 4) 0) (c.getD k 0)) 0

/-- MixColumns with a matrix. -/
def mixColumns (m0 m1 m2 m3 : Byte) (b : Bytes) : Bytes :=
  (List.range 4).flatMap fun j => mixColumn m0 m1 m2 m3 (sliceB b (4 * j) 4)

/-- The middle rounds of the cipher. -/
def aesRounds : List Bytes → Bytes → Bytes
  | [], b => b
  | [k], b => xorB (shiftRows (b.map aesSub)) k
  | k :: r, b => aesRounds r (xorB (mixColumns 2 3 1 1 (shiftRows (b.map aesSub))) k)

/-- Encrypt one block under a key of 16 or 32 bytes. -/
def aesEnc (key b : Bytes) : Bytes :=
  match roundKeys key with
  | k :: r => aesRounds r (xorB b k)
  | [] => b

/-- The middle rounds of the inverse cipher, over the round keys from the last. -/
def aesInvRounds : List Bytes → Bytes → Bytes
  | [], b => b
  | [k], b => xorB ((invShiftRows b).map aesInvSub) k
  | k :: r, b => aesInvRounds r (mixColumns 14 11 13 9 (xorB ((invShiftRows b).map aesInvSub) k))

/-- Decrypt one block under a key of 16 or 32 bytes. -/
def aesDec (key b : Bytes) : Bytes :=
  match (roundKeys key).reverse with
  | k :: r => aesInvRounds r (xorB b k)
  | [] => b

/-! ### Modes of operation -/

/-- Blocks of 16 bytes that cover `n` bytes. -/
def blocks16 (n : Nat) : Nat := (n + 15) / 16

/-- The key stream of counter mode: block `i` is the cipher of the counter block that `next` gives. -/
def ctrStream (key : Bytes) (next : Nat → Bytes) (n : Nat) : Bytes :=
  (List.range (blocks16 n)).flatMap fun i => aesEnc key (next i)

/-- CTR of SP 800-38A: the counter block increases as a 128-bit big-endian integer (R384). -/
def aesCtr (key iv data : Bytes) : Bytes :=
  xorB data (ctrStream key (fun i => beBytes 16 ((beVal iv + i) % 2 ^ 128)) data.length)

/-- Multiplication by H in the field of GHASH (SP 800-38D): bit 127 of a value is the first bit. -/
def ghashMul (x h : Nat) : Nat :=
  ((List.range 128).foldl (fun (p : Nat × Nat) i =>
    (if bitAt x (127 - i) then p.1 ^^^ p.2 else p.1,
     if p.2 % 2 = 1 then (p.2 / 2) ^^^ (0xE1 * 2 ^ 120) else p.2 / 2)) (0, h)).1

/-- GHASH of a byte string padded to whole blocks. -/
def ghash (h : Nat) (data : Bytes) : Nat :=
  (List.range (blocks16 data.length)).foldl (fun y i => ghashMul (y ^^^ beVal (sliceB data (16 * i) 16)) h) 0

/-- A byte string padded with zeros to whole blocks. -/
def pad16 (data : Bytes) : Bytes := sliceB data 0 (16 * blocks16 data.length)

/-- GCM of SP 800-38D with a 12-byte IV: the text, enciphered or deciphered. -/
def gcmText (key iv data : Bytes) : Bytes :=
  xorB data (ctrStream key (fun i => iv ++ beBytes 4 ((2 + i) % 2 ^ 32)) data.length)

/-- The 16-byte tag of GCM over the ciphertext. -/
def gcmTag (key iv aad ct : Bytes) : Bytes :=
  let h := beVal (aesEnc key (zeros 16))
  let y := ghash h (pad16 aad ++ pad16 ct ++ beBytes 8 (8 * aad.length) ++ beBytes 8 (8 * ct.length))
  xorB (beBytes 16 y) (aesEnc key (iv ++ beBytes 4 1))

/-- Doubling of an XTS tweak (SP 800-38E), little-endian. -/
def xtsDouble (t : Nat) : Nat := if t < 2 ^ 127 then 2 * t else (2 * t - 2 ^ 128) ^^^ 0x87

/-- One data unit of XTS: blocks in order under the running tweak. -/
def xtsBlocks (f : Bytes → Bytes) (data : Bytes) : Nat → Nat → Nat → Bytes
  | 0, _, _ => []
  | n + 1, i, t =>
    let tb := leBytes 16 t
    xorB (f (xorB (sliceB data (16 * i) 16) tb)) tb ++ xtsBlocks f data n (i + 1) (xtsDouble t)

/-- XTS over whole data units of `du` bytes; the tweak of unit `i` is the first one plus `i` (R384). -/
def aesXts (k1 k2 : Bytes) (dec : Bool) (tweak du : Nat) (data : Bytes) : Bytes :=
  (List.range (data.length / du)).flatMap fun i =>
    let t := leVal (aesEnc k2 (leBytes 16 ((tweak + i) % 2 ^ 128)))
    xtsBlocks (if dec then aesDec k1 else aesEnc k1) (sliceB data (du * i) du) (du / 16) 0 t

/-- Doubling of a CMAC subkey (SP 800-38B), big-endian. -/
def cmacDouble (t : Nat) : Nat := if t < 2 ^ 127 then 2 * t else (2 * t - 2 ^ 128) ^^^ 0x87

/-- CMAC of a byte string: 16 bytes. -/
def aesCmac (key data : Bytes) : Bytes :=
  let k1 := cmacDouble (beVal (aesEnc key (zeros 16)))
  let n := Nat.max 1 (blocks16 data.length)
  let tail := data.drop (16 * (n - 1))
  let last := if tail.length = 16 then xorB tail (beBytes 16 k1)
    else xorB (sliceB (tail ++ [0x80]) 0 16) (beBytes 16 (cmacDouble k1))
  let c := (List.range (n - 1)).foldl (fun c i => aesEnc key (xorB c (sliceB data (16 * i) 16))) (zeros 16)
  aesEnc key (xorB c last)

/-! ### ChaCha20-Poly1305 (RFC 8439) -/

/-- The quarter round on words `a`, `b`, `c`, `d` of the state. -/
def quarter (st : List Nat) (a b c d : Nat) : List Nat :=
  let m := 2 ^ 32
  let rol (x n : Nat) := (x <<< n ||| x >>> (32 - n)) % m
  let g (l : List Nat) (i : Nat) := l.getD i 0
  let s1 := setNth st a ((g st a + g st b) % m)
  let s2 := setNth s1 d (rol (g s1 d ^^^ g s1 a) 16)
  let s3 := setNth s2 c ((g s2 c + g s2 d) % m)
  let s4 := setNth s3 b (rol (g s3 b ^^^ g s3 c) 12)
  let s5 := setNth s4 a ((g s4 a + g s4 b) % m)
  let s6 := setNth s5 d (rol (g s5 d ^^^ g s5 a) 8)
  let s7 := setNth s6 c ((g s6 c + g s6 d) % m)
  setNth s7 b (rol (g s7 b ^^^ g s7 c) 7)

/-- A column round and a diagonal round. -/
def doubleRound (s : List Nat) : List Nat :=
  let s := quarter (quarter (quarter (quarter s 0 4 8 12) 1 5 9 13) 2 6 10 14) 3 7 11 15
  quarter (quarter (quarter (quarter s 0 5 10 15) 1 6 11 12) 2 7 8 13) 3 4 9 14

/-- The block function. -/
def chachaBlock (key nonce : Bytes) (ctr : Nat) : Bytes :=
  let w (b : Bytes) (n : Nat) := (List.range n).map fun i => leVal (sliceB b (4 * i) 4)
  let st := [0x61707865, 0x3320646e, 0x79622d32, 0x6b206574] ++ w key 8 ++ [ctr % 2 ^ 32] ++ w nonce 3
  let out := (List.range 10).foldl (fun s _ => doubleRound s) st
  (List.range 16).flatMap fun i => leBytes 4 ((st.getD i 0 + out.getD i 0) % 2 ^ 32)

/-- ChaCha20 from counter 1. -/
def chachaText (key nonce data : Bytes) : Bytes :=
  xorB data ((List.range ((data.length + 63) / 64)).flatMap fun i => chachaBlock key nonce (1 + i))

/-- Poly1305 of a byte string. -/
def poly1305 (key data : Bytes) : Bytes :=
  let r := leVal (key.take 16) &&& 0x0FFFFFFC0FFFFFFC0FFFFFFC0FFFFFFF
  let p := 2 ^ 130 - 5
  let a := (List.range (blocks16 data.length)).foldl (fun a i =>
    (a + leVal (((data.drop (16 * i)).take 16) ++ [1])) * r % p) 0
  leBytes 16 ((a + leVal ((key.drop 16).take 16)) % 2 ^ 128)

/-- The tag of ChaCha20-Poly1305 over the ciphertext. -/
def chachaTag (key nonce aad ct : Bytes) : Bytes :=
  poly1305 ((chachaBlock key nonce 0).take 32)
    (pad16 aad ++ pad16 ct ++ leBytes 8 aad.length ++ leBytes 8 ct.length)

/-! ### Context labels (R366, R367, R372) -/

/-- ALG of a label. -/
def labelAlg (l : Bytes) : Nat := (l.getD 30 0).toNat % 16

/-- SLOT of a label. -/
def labelSlot (l : Bytes) : Nat := (l.getD 31 0).toNat % 16

/-- A label names something: its ALG is not reserved and its must-be-0 bits are 0 (R368). -/
def labelGood (l : Bytes) : Bool :=
  decide (labelAlg l ≤ 10) && decide ((l.getD 30 0).toNat < 16) && decide ((l.getD 31 0).toNat < 16)

/-- Key bytes of an ALG (R367); for XTS, of each of its two keys. -/
def algKey (a : Nat) : Nat := if a = 8 ∨ a = 10 then 32 else if a = 9 then 16 else if a % 2 = 0 then 16 else 32

/-- Z of R372 from a root key, a label and a binding. -/
def deriveZ (root label : Bytes) (binding : Nat) : Bytes :=
  kmac256 root (label ++ leBytes 2 binding) 512 (ascii "GLINT-DERIVE-1")

/-- The first key of Z. -/
def keyOf (a : Nat) (z : Bytes) : Bytes := z.take (algKey a)

/-- The second key of XTS. -/
def keyTwo (a : Nat) (z : Bytes) : Bytes := (z.drop 32).take (algKey a)

/-! ### Job headers (R384 to R386) -/

/-- The classes of ALG. -/
inductive AlgKind where
  | gcm | ctr | xts | cmac | chacha
  deriving DecidableEq, Repr

/-- The class of an ALG; XPN codes are GCM in a look-aside job (log entry 44). -/
def algKind (a : Nat) : AlgKind :=
  if a ≤ 1 then .gcm else if a ≤ 3 then .ctr else if a ≤ 5 then .xts else if a ≤ 7 then .cmac else if a = 8 then .chacha else .gcm

/-- The kind has a tag that the last byte of input decides (R395). -/
def AlgKind.aead (k : AlgKind) : Bool := k == .gcm || k == .chacha

/-- A job header (R384). -/
structure JobHdr where
  open_  : Bool
  first  : Bool
  host   : Bool
  mbz    : Bool
  aadLen : Nat
  payLen : Nat
  duLen  : Nat
  iv     : Bytes
  out    : Nat
  tag    : Bytes
  tagLen : Nat
  deriving DecidableEq, Repr

/-- Read a job header. -/
def jobHdr (b : Bytes) : JobHdr where
  open_ := bitAt (leVal (sliceB b 0 2)) 0
  first := bitAt (leVal (sliceB b 0 2)) 1
  host := bitAt (leVal (sliceB b 0 2)) 2
  mbz := decide (8 ≤ leVal (sliceB b 0 2)) || decide (leVal (sliceB b 2 2) ≠ 0) || decide (leVal (sliceB b 57 7) ≠ 0)
  aadLen := leVal (sliceB b 4 4)
  payLen := leVal (sliceB b 8 4)
  duLen := leVal (sliceB b 12 4)
  iv := sliceB b 16 16
  out := leVal (sliceB b 32 8)
  tag := sliceB b 40 16
  tagLen := leVal (sliceB b 56 1)

/-- The fields of a header break the rules of R384 for the class of the ALG (R386). -/
def JobHdr.bad (h : JobHdr) (k : AlgKind) (len : Nat) (isHost : Bool) : Bool :=
  let tail := leVal (sliceB h.iv 12 4) != 0
  h.mbz || decide (len ≠ 64 + h.aadLen + h.payLen) || (isHost && h.host)
    || (h.first && !(h.open_ && k.aead))
    || match k with
      | .gcm => h.duLen != 0 || tail || !decide (12 ≤ h.tagLen ∧ h.tagLen ≤ 16)
      | .chacha => h.duLen != 0 || tail || h.tagLen != 16
      | .ctr => h.aadLen != 0 || h.duLen != 0 || h.tagLen != 0
      | .xts => h.aadLen != 0 || h.tagLen != 0
          || !decide (512 ≤ h.duLen ∧ h.duLen ≤ 65536 ∧ h.duLen % 16 = 0 ∧ h.payLen % h.duLen = 0)
      | .cmac => h.aadLen != 0 || h.duLen != 0 || leVal h.iv != 0 || !decide (8 ≤ h.tagLen ∧ h.tagLen ≤ 16)

/-- Bytes that a job writes when it completes OK (R385). -/
def JobHdr.outLen (h : JobHdr) (k : AlgKind) : Nat :=
  match k with
  | .gcm | .chacha => if h.open_ then h.payLen else h.payLen + h.tagLen
  | .ctr | .xts => h.payLen
  | .cmac => if h.open_ then 0 else h.tagLen

/-- The text that `data`, a prefix of the payload, becomes. -/
def JobHdr.text (h : JobHdr) (alg : Nat) (z data : Bytes) : Bytes :=
  match algKind alg with
  | .gcm => gcmText (keyOf alg z) (h.iv.take 12) data
  | .chacha => chachaText (keyOf alg z) (h.iv.take 12) data
  | .ctr => aesCtr (keyOf alg z) h.iv data
  | .xts => aesXts (keyOf alg z) (keyTwo alg z) h.open_ (leVal h.iv) h.duLen data
  | .cmac => []

/-- The tag over the whole input: AAD and payload as read. -/
def JobHdr.mac (h : JobHdr) (alg : Nat) (z aad data : Bytes) : Bytes :=
  let ct := if h.open_ then data else h.text alg z data
  (match algKind alg with
    | .gcm => gcmTag (keyOf alg z) (h.iv.take 12) aad ct
    | .chacha => chachaTag (keyOf alg z) (h.iv.take 12) aad ct
    | .cmac => aesCmac (keyOf alg z) data
    | _ => []).take h.tagLen

/-- The output of a job from what it has read so far, `input` (R385): text as it goes, then the tag of a SEAL. An OPEN job with
VERIFY_FIRST writes in its second pass (R398). -/
def jobOutput (alg : Nat) (z input : Bytes) (pass : Nat) : Bytes :=
  let h := jobHdr input
  let k := algKind alg
  let pay := (input.drop (64 + h.aadLen)).take h.payLen
  let whole := decide (64 + h.aadLen + h.payLen ≤ input.length)
  let aad := sliceB input 64 h.aadLen
  if h.first && pass == 1 then []
  else
    match k with
    | .cmac => if whole && !h.open_ then h.mac alg z aad pay else []
    | _ => h.text alg z pay ++ if whole && !h.open_ && k.aead then h.mac alg z aad pay else []

end Sys2Proof.Machine
end

