-- ==== Sys2Proof/Machine/Flags.lean ====
section
/-!
DEFINITION. The conditions and statuses that Lantern instructions compute: comparisons (R140, R156), and the status codes of
channel and event instructions (R98), of TLOOK (R163), of DMA submission (R169) and of completions (R58). Lantern has no
condition-code register.
-/

namespace Sys2Proof.Machine

/-- The comparisons of R140 and R156. -/
inductive Cond where
  | eq | ne | lt | ge | ltu | geu
  deriving DecidableEq, Repr

/-- The value of a comparison (R156). -/
def Cond.holds (c : Cond) (a b : Word) : Bool :=
  match c with
  | .eq => a == b
  | .ne => a != b
  | .lt => a.slt b
  | .ge => !a.slt b
  | .ltu => a.ult b
  | .geu => !a.ult b

/-- A comparison as a word: 1 or 0. -/
def condWord (b : Bool) : Word := if b then 1 else 0

/-- Status codes of channel and event instructions (R98). -/
inductive ChStat where
  | ok | full | empty | closed | busy | scope | stageFull | notBound
  deriving DecidableEq, Repr

/-- The code of a status (R98). -/
def ChStat.code : ChStat → Nat
  | .ok => 0 | .full => 1 | .empty => 2 | .closed => 3 | .busy => 4 | .scope => 5 | .stageFull => 6 | .notBound => 7

/-- Status codes of TLOOK (R163). -/
inductive LookStat where
  | hit | miss | uncorrectable | badArg
  deriving DecidableEq, Repr

/-- The code of a TLOOK status. -/
def LookStat.code : LookStat → Nat
  | .hit => 0 | .miss => 1 | .uncorrectable => 2 | .badArg => 3

/-- Submission statuses of DMAQ and CRYPT JOB (R169). -/
inductive SubStat where
  | ok | full | closed | scope | badArg
  deriving DecidableEq, Repr

/-- The code of a submission status. -/
def SubStat.code : SubStat → Nat
  | .ok => 0 | .full => 1 | .closed => 3 | .scope => 5 | .badArg => 8

/-- Completion status codes (R58). -/
inductive CplStat where
  | ok | malformed | fragTableBad | dmaReadFault | dmaWriteFault | bmeLost | tagFail | keyDenied | aborted | abortedFwAct
  | atsFault | pageUnresolved | unitRetiredRetry | windowMiss | lenConflict | carryCheck
  deriving DecidableEq, Repr

/-- The code of a completion status. -/
def CplStat.code : CplStat → Nat
  | .ok => 0x00 | .malformed => 0x01 | .fragTableBad => 0x02 | .dmaReadFault => 0x03 | .dmaWriteFault => 0x04
  | .bmeLost => 0x05 | .tagFail => 0x06 | .keyDenied => 0x07 | .aborted => 0x08 | .abortedFwAct => 0x09
  | .atsFault => 0x0A | .pageUnresolved => 0x0B | .unitRetiredRetry => 0x0C | .windowMiss => 0x0D | .lenConflict => 0x0E
  | .carryCheck => 0x0F

end Sys2Proof.Machine
end

