-- ==== Sys2Proof/Machine/HostOps.lean ====
section
/-!
DEFINITION. The data movement of jobs (R222 to R231, R463, R473): host addresses through the translation cache, internal addresses
through the DMA engine's walker, reads into a job's buffer and writes of its output, and the completion entries that end them
(R521 to R527), with the notices (R540), the Mirror logs (R546 to R548) and the quiescence of a function (R543).
-/

namespace Sys2Proof.Machine

/-! ### Jobs -/

/-- A job that moves nothing. -/
def Job.fresh (o : Origin) : Job where
  origin := o
  opc := 0
  desc := []
  fn := none
  pasid := none
  pmr := false
  gtid := none
  xlate := false
  pl1 := true
  ptbr := 0
  asid := 0
  order := false
  userTag := 0
  outChan := none
  src := .none_
  dst := .none_
  started := false
  got := 0
  input := []
  output := []
  done := 0
  badFrom := none
  issued := false
  torn := false
  status := none
  aux := 0
  hold := none
  scrub := none
  zeroed := 0
  incomplete := false
  pass := 1
  total := 0
  passed := true
  taint := false
  stall := none
  cluster := none
  frame := none
  table := false

/-- The job's remote side is host memory. -/
def Job.onHost (j : Job) : Bool :=
  match j.src, j.dst with
  | .host _, _ => true
  | _, .host _ => true
  | _, _ => false

/-- Set a job. -/
def State.setJob (s : State) (n : Nat) (j : Job) : State := { s with jobs := KMap.put s.jobs n j }

/-- Remove a job. -/
def State.endJob (s : State) (n : Nat) : State := { s with jobs := KMap.del s.jobs n }

/-- Add a job; the answer is its number. -/
def State.addJob (s : State) (j : Job) : Nat × State :=
  (s.nextJob, { s with jobs := KMap.put s.jobs s.nextJob j, nextJob := s.nextJob + 1 })

/-- The ranges of a side. -/
def Side.ranges : Side → List (Nat × Nat)
  | .none_ => []
  | .host l => l
  | .inner l => l
  | .chan _ => []

/-- Bytes that a list of ranges names. -/
def rangeLen (l : List (Nat × Nat)) : Nat := l.foldl (fun n e => n + e.2) 0

/-- Bytes of a side. -/
def Side.len (x : Side) : Nat := rangeLen x.ranges

/-- The address of offset `o` of a list of ranges, and the bytes from there to the end of its range. -/
def rangeAt : List (Nat × Nat) → Nat → Option (Nat × Nat)
  | [], _ => none
  | (a, n) :: r, o => if o < n then some (a + o, n - o) else rangeAt r (o - n)

/-- Bytes of a job's source held without a gap: what it has asked for, up to the first read that is outstanding. -/
def State.avail (s : State) (n : Nat) (j : Job) : Nat :=
  let a := s.hif.reads.foldl (fun m e => if e.2.job = n ∧ e.2.dead = .no then Nat.min m e.2.off else m) j.got
  s.fab.reqs.foldl (fun m e => match e.2.orig with
    | .job k o => if k = n ∧ !e.2.write then Nat.min m o else m
    | _ => m) a

/-- A fabric request of a job is outstanding. -/
def State.fabricBusy (s : State) (n : Nat) : Bool :=
  s.fab.reqs.any fun e => match e.2.orig with
    | .job k _ => k == n
    | _ => false

/-! ### Functions (R457, R473, R477, R485) -/

/-- The PF whose settings govern a function (R471, R474). -/
def State.govern (s : State) (f : Nat) : FnCfg := s.fcfg ((s.pfOf f).getD f)

/-- A function may issue requests now: Bus Master Enable 1, in D0, no FLR in progress. -/
def State.mayIssue (s : State) (f : Nat) : Bool :=
  (s.fcfg f).bme && s.rd R.HIF_FN_STAT_DSTATE f == 0 && !s.flag R.HIF_FN_STAT_FLR_BUSY f

/-- A host transfer needs a setting that its function does not have (R473). -/
def State.pasidBad (s : State) (f : Nat) (pasid : Option Nat) (pmr : Bool) : Bool :=
  (match pasid with
    | some p => !(s.govern f).pasidEn || decide (2 ^ 20 ≤ p)
    | none => false)
  || (pmr && !(s.govern f).privEn)

/-- Outstanding non-posted requests that a link holds (R463). -/
def State.linkCap (s : State) (l : Nat) : Nat := if s.flag R.HIF_LINK_STAT_FLIT l then 4096 else 768

/-- A link has room for one more non-posted request (R463). -/
def State.linkRoom (s : State) (l : Nat) : Bool :=
  decide ((s.hif.reads.filter fun e => s.linkOf e.2.fn == l).length
    + (s.hif.treqs.filter fun r => r.wait == .transReq && s.linkOf r.pg.fn == l).length < s.linkCap l)

/-- A tag for a host read or a translation request: a free choice among those that are not outstanding (R463, log entry 3). -/
def State.hostTag (s : State) : Nat × State :=
  let d := s.draw
  let used := fun t => (KMap.find s.hif.reads t).isSome || s.hif.treqs.any fun r => r.wait == .transReq && r.tag == t
  let tries := (List.range (s.hif.reads.length + s.hif.treqs.length + 1)).map fun k => (d.1 + k) % 16384
  ((tries.find? fun t => !used t).getD 0, d.2)

/-! ### The translation cache (R222 to R224, R470) -/

/-- The host page of a job's address: the page of the Smallest Translation Unit (R470). -/
def State.hostPage (s : State) (j : Job) (f a : Nat) : HPage :=
  let u := 2 ^ (s.fcfg f).stu
  ⟨f, j.pasid, j.pmr, a / 4096 / u * u⟩

/-- An ATC entry serves an address. -/
def AtcEnt.covers (e : AtcEnt) (pg : HPage) (a : Nat) : Bool :=
  e.pg.fn == pg.fn && e.pg.pasid == pg.pasid && e.pg.pmr == pg.pmr && e.pg.page * 4096 / 2 ^ e.size == a / 2 ^ e.size

/-- The entry that serves an address with the needed permission. -/
def State.atcFind (s : State) (pg : HPage) (a : Nat) (w : Bool) : Option AtcEnt :=
  s.hif.atc.find? fun e => e.covers pg a && (if w then e.w else e.r)

/-- The ATC set of an entry (R222). -/
def AtcEnt.set (e : AtcEnt) : Nat :=
  Config.atcSet e.pg.fn ((e.pg.pasid.map (· + 1)).getD 0 * 2 + b2n e.pg.pmr) (e.pg.page * 4096 / 2 ^ e.size) % 1024

/-- Fill an entry; the least recently used one of its eight ways leaves (R222). The list runs from the least recently used. -/
def atcAdd (l : List AtcEnt) (e : AtcEnt) : List AtcEnt :=
  let l1 := l.filter fun x => !(x.pg == e.pg && x.size == e.size)
  let same := l1.filter fun x => x.set == e.set
  (match same with
    | old :: _ => if 8 ≤ same.length then l1.filter fun x => !(x == old) else l1
    | [] => l1) ++ [e]

/-- Ask for the translation of a page, sharing a request that is in progress (R224). -/
def State.needPage (s : State) (pg : HPage) (w : Bool) : State :=
  if s.hif.treqs.any fun r => r.pg == pg then
    { s with hif := { s.hif with treqs := s.hif.treqs.map fun r =>
        if r.pg = pg then { r with needR := r.needR || !w, needW := r.needW || w } else r } }
  else if (s.hif.treqs.filter fun r => r.wait == .transReq).length < 256 ∧ s.linkRoom (s.linkOf pg.fn) = true then
    let t := s.hostTag
    let s1 := { t.2 with hif := { t.2.hif with
      treqs := t.2.hif.treqs ++ [(⟨pg, !w, w, .transReq, false, false, t.1, s.time⟩ : TReq)] } }
    (s1.sendTlp (s1.linkOf pg.fn) (.transRequest pg t.1)).countHost pg.fn 0x06 1
  else s

/-- What a host request of a job goes out with: its address as issued, or nothing while its translation is not held. -/
def State.hostAddr (s : State) (j : Job) (f a : Nat) (w : Bool) : Option (HAddr × Option HPage) × State :=
  if !(s.fcfg f).atsEn then (some (⟨f, a, false, j.pasid, j.pmr⟩, none), s)
  else
    let pg := s.hostPage j f a
    match s.atcFind pg a w with
    | some e =>
      let s1 := { s with hif := { s.hif with atc := (s.hif.atc.filter fun x => !(x == e)) ++ [e] } }
      (some (⟨f, e.base + a % 2 ^ e.size, true, j.pasid, j.pmr⟩, some e.pg), s1.countHost f 0x07 1)
    | none => (none, s.needPage pg w)

/-! ### The Mirror log (R546 to R548) -/

/-- What a Mirror log keeps beside its registers. -/
def State.mir (s : State) (m : Nat) : MirRun := KMap.getD s.hif.mir m MirRun.fresh

/-- Set it. -/
def State.setMir (s : State) (m : Nat) (x : MirRun) : State :=
  { s with hif := { s.hif with mir := KMap.setD s.hif.mir m MirRun.fresh x } }

/-- Record one granule in a log (R547, R548). -/
def State.mirrorOne (s : State) (m g : Nat) (pasid : Option Nat) : State :=
  let x := s.mir m
  if x.filter.contains (g, pasid) then s
  else
    let live := s.rd R.HIF_MIR_STAT_LIVE m
    if 2 ^ s.rd R.HIF_MIR_CFG_SIZE_LOG2 m ≤ live then s.wr R.HIF_MIR_STAT_FULL m 1
    else
      let act := s.rd R.HIF_MIR_CTL_ACTIVE m
      let shift := if s.flag R.HIF_MIR_CFG_GRAN m then 16 else 12
      let a := s.rd R.HIF_MIR_BUF_BASE (2 * m + act) * 4096 + 16 * live
      let rec_ := leBytes 8 (1 + 2 * b2n pasid.isSome + g * 2 ^ shift) ++ leBytes 8 (pasid.getD 0)
      ((s.setBytes a rec_).wr R.HIF_MIR_STAT_LIVE m (live + 1)).setMir m
        { x with filter := ((g, pasid) :: x.filter).take 1024 }

/-- The Mirror logs in use for a function. -/
def State.mirrorsOf (s : State) (f : Nat) : List Nat :=
  (List.range 64).filter fun m => s.flag R.HIF_MIR_CFG_EN m && s.rd R.HIF_MIR_CFG_FUNC m == f

/-- Record a memory write of a function (R546). -/
def State.mirror (s : State) (f a n : Nat) (pasid : Option Nat) : State :=
  (s.mirrorsOf f).foldl (fun s m =>
    let shift := if s.flag R.HIF_MIR_CFG_GRAN m then 16 else 12
    let g0 := a / 2 ^ shift
    (List.range ((a + n - 1) / 2 ^ shift - g0 + 1)).foldl (fun s k => s.mirrorOne m (g0 + k) pasid) s) s

/-! ### Reading a job's source (R227, R463) -/

/-- Issue the next host read of a job; `none` while it cannot be issued. The flush read of a Mirror log has length zero (R549). -/
def State.readHost (s : State) (n : Nat) (j : Job) (l : List (Nat × Nat)) : Option State × State :=
  match j.fn, rangeAt l j.got with
  | some f, some (a, room) =>
    if !s.mayIssue f || !s.linkRoom (s.linkOf f) then (none, s)
    else
      match s.hostAddr j f a false with
      | (none, s1) => (none, s1)
      | (some (ha, via), s1) =>
        let k := Nat.min room (Nat.min (4096 - a % 4096) (128 * 2 ^ (s.fcfg f).mrrs))
        let t := s1.hostTag
        let s2 := { t.2 with hif := { t.2.hif with reads := KMap.put t.2.hif.reads t.1 ⟨n, j.got, k, f, via, s.time, .no⟩ } }
        let out := match j.origin with
          | .flush _ => 0
          | _ => k
        (some (((s2.emit (.hostRead ha out t.1)).countHost f 0x01 1).setJob n { j with got := j.got + k, issued := true }), s1)
  | _, _ => (none, s)

/-- The cluster of a job's submitter. -/
def Job.cl (j : Job) : Nat := clusterOf (j.gtid.getD 0)

/-- The translations that a cluster's DMA engine holds. -/
def State.dmaTlb (s : State) (cl : Nat) : List TlbEnt := KMap.getD s.ltn.dmaTlb cl []

/-- The physical address of a local address of a job (R147, R173, R218, R232). -/
def State.dmaXl (s : State) (j : Job) (a : Nat) (k : AKind) : (Nat ⊕ Walk) × State :=
  if 2 ^ 48 ≤ a then (.inr (.fail 4), s)
  else if !j.xlate then (.inl a, s)
  else
    let x := translateWith s 256 (s.dmaTlb j.cl) j.ptbr.toNat j.asid a k j.pl1
    let s1 := { x.2.2.2 with ltn := { x.2.2.2.ltn with dmaTlb := KMap.setD x.2.2.2.ltn.dmaTlb j.cl [] x.2.1 } }
    (x.1, if x.2.2.1 then s1.count (53 + j.cl) 0x04 1 else s1)

/-- The number of a free local hold of a cluster (R230). -/
def State.freeHold (s : State) (cl : Nat) : Option Nat :=
  (List.range 64).find? fun h => (KMap.find s.ltn.holds (64 * cl + h)).isNone

/-- The words of the message that tells a pager of a held transfer (R230). -/
def holdWords (j : Job) (a reason h : Nat) (write : Bool) : List Nat :=
  match j.origin with
  | .ring _ r q =>
    [a % 2 ^ 48 + reason * 2 ^ 48 + b2n write * 2 ^ 51 + h * 2 ^ 52,
     r + q * 2 ^ 8 + j.gtid.getD 0 * 2 ^ 24 + j.asid * 2 ^ 34]
  | _ => []

/-- A local access of a job fails (R230, R231): it is held for the pager, or the job ends with the fault of its side. -/
def State.localFault (s : State) (n : Nat) (j : Job) (a : Nat) (w : Walk) (write : Bool) : State :=
  let fault := j.fail (if write then CplStat.dmaWriteFault.code else CplStat.dmaReadFault.code)
  let cl := j.cl
  let chan := s.rd R.MEM_XLF_CFG_CHAN cl
  match w with
  | .fail r =>
    if r ≤ 1 ∧ s.flag R.MEM_XLF_CFG_EN cl = true then
      match s.freeHold cl with
      | some h =>
        if s.chanRoom chan then
          let till := s.time + 1000000 * s.rd R.MEM_XLF_CFG_TMO_MS cl
          let s1 := (s.setJob n { j with hold := some h }).hwCommit chan (holdWords j a r h write)
          { s1 with ltn := { s1.ltn with holds := KMap.put s1.ltn.holds (64 * cl + h) (n, till, write) } }.count (53 + cl) 0x03 1
        else s.setJob n fault
      | none => s.setJob n fault
    else s.setJob n fault
  | _ => s.setJob n fault

/-- Read the next internal bytes of a job: HBM at once, the Lens outbound region by requests whose answers come later (R42, R152,
R207). -/
def State.readInner (s : State) (n : Nat) (j : Job) (l : List (Nat × Nat)) : State :=
  match rangeAt l j.got with
  | none => s
  | some (a, room) =>
    let k := Nat.min room (4096 - a % 4096)
    match s.dmaXl j a .load with
    | (.inr w, s1) => s1.localFault n j a w false
    | (.inl pa, s1) =>
      match region s.part pa with
      | .hbm =>
        if s1.badRange pa k then (s1.countPoison pa k).setJob n (j.fail CplStat.carryCheck.code)
        else s1.setJob n { j with input := placeAt j.input j.got (s1.bytes pa k), got := j.got + k }
      | .lens =>
        let s2 := s1.setJob n { j with got := j.got + k }
        let r := s2.transfer false pa [] 0 (unitId 30 j.cl) (fun o => .job n (j.got + o)) (k + 1) 0 k
        if r.1 then r.2 else r.2.modJob n fun x => x.fail CplStat.dmaReadFault.code
      | _ => s1.setJob n (j.fail CplStat.dmaReadFault.code)

/-- A job may go on moving data. -/
def Job.moving (j : Job) : Bool := j.started && j.status.isNone && j.hold.isNone && !j.torn

/-- One read of a job's source; `none` when nothing can be read now. -/
def State.srcStep (s : State) (n : Nat) : Option State × State :=
  match KMap.find s.jobs n with
  | none => (none, s)
  | some j =>
    if !j.moving || j.scrub.isSome || decide (j.src.len ≤ j.got) then (none, s)
    else
      match j.src with
      | .host l => s.readHost n j l
      | .inner l => (some (s.readInner n j l), s)
      | _ => (none, s)

/-- Read as much of a job's source as can be read now. -/
def State.srcRun (n : Nat) : Nat → State → State
  | 0, s => s
  | fuel + 1, s =>
    match s.srcStep n with
    | (some s1, _) => State.srcRun n fuel s1
    | (none, s1) => s1

/-! ### Writing a job's output (R227, R229, R463) -/

/-- Issue a host write (R463, R546). -/
def State.hostWrite (s : State) (ha : HAddr) (a : Nat) (data : Bytes) (ro ep : Bool) : State :=
  (((s.mirror ha.fn a data.length ha.pasid).emit (.hostWrite ha data ro ep)).countHost ha.fn 0x01 1).countHost ha.fn 0x03
    data.length

/-- Completion entries never carry Relaxed Ordering (R38, R463). -/
def Job.relaxed (j : Job) (c : FnCfg) : Bool :=
  c.ro && match j.origin with
    | .cpl _ _ => false
    | _ => true

/-- Issue the next host write of a job; `none` while it cannot be issued. From `badFrom` on, data goes out poisoned (R55). -/
def State.writeHost (s : State) (n : Nat) (j : Job) (l : List (Nat × Nat)) : Option State × State :=
  match j.fn, rangeAt l j.done with
  | some f, some (a, room) =>
    if !s.mayIssue f then (none, s)
    else
      match s.hostAddr j f a true with
      | (none, s1) => (none, s1)
      | (some (ha, _), s1) =>
        let c := s.fcfg f
        let k := Nat.min (Nat.min room (j.output.length - j.done)) (Nat.min (4096 - a % 4096) (128 * 2 ^ c.mps))
        let ep := match j.badFrom with
          | some b => decide (b < j.done + k)
          | none => false
        let s2 := s1.hostWrite ha a ((j.output.drop j.done).take k) (j.relaxed c) ep
        (some (s2.setJob n { j with done := j.done + k, issued := true, zeroed := j.zeroed + if j.scrub.isSome then k else 0 }), s1)
  | _, _ => (none, s)

/-- Write the next internal bytes of a job (R42, R152, R205). -/
def State.writeInner (s : State) (n : Nat) (j : Job) (l : List (Nat × Nat)) : State :=
  match rangeAt l j.done with
  | none => s.setJob n { j with done := j.output.length }
  | some (a, room) =>
    let k := Nat.min (Nat.min room (j.output.length - j.done)) (4096 - a % 4096)
    match s.dmaXl j a .store with
    | (.inr w, s1) => s1.localFault n j a w true
    | (.inl pa, s1) =>
      let data := (j.output.drop j.done).take k
      let j1 := { j with done := j.done + k, zeroed := j.zeroed + if j.scrub.isSome then k else 0 }
      match region s.part pa with
      | .hbm => (s1.setBytes pa data).setJob n j1
      | .lens =>
        let r := (s1.setJob n j1).transfer true pa data 0 (unitId 30 j.cl) (fun _ => .job n 0) (k + 1) 0 k
        if r.1 then r.2 else r.2.modJob n fun x => ({ x with done := j.done }).fail CplStat.dmaWriteFault.code
      | _ => s1.setJob n (j.fail CplStat.dmaWriteFault.code)

/-- The words of a channel segment: the last one padded with zeros (R399). -/
def segWords (d : Bytes) : List Nat := (List.range ((d.length + 7) / 8)).map fun i => leVal (sliceB d (8 * i) 8)

/-- Commit the next segment of a job's output to its channel; `none` while it cannot be committed (R399, R401). The last segment of
an OPEN job waits for the verdict. -/
def State.writeChan (s : State) (n : Nat) (j : Job) (c : Nat) : Option State × State :=
  let k := Nat.min 64 (j.total - j.done)
  let last := decide (j.total ≤ j.done + k)
  if j.output.length < j.done + k ∨ (last && !j.passed) = true then (none, s)
  else if !s.flag R.LTN_CH_CFG_ENABLE c then (some (s.setJob n (j.fail 0x82)), s)
  else if !s.chanRoom c then (none, s.setJob n { j with stall := some (j.stall.getD s.time) })
  else
    let s1 := s.hwCommitF c (segWords ((j.output.drop j.done).take k)) (j.taint && !last) false
    (some (s1.setJob n { j with done := j.done + k, stall := none }), s)

/-- One write of a job's output; `none` when nothing can be written now. -/
def State.dstStep (s : State) (n : Nat) : Option State × State :=
  match KMap.find s.jobs n with
  | none => (none, s)
  | some j =>
    if !j.moving || decide (j.output.length ≤ j.done) then (none, s)
    else
      match j.dst with
      | .none_ => (none, s)
      | .host l => s.writeHost n j l
      | .inner l => (some (s.writeInner n j l), s)
      | .chan c => s.writeChan n j c

/-- Write as much of a job's output as can be written now. -/
def State.dstRun (n : Nat) : Nat → State → State
  | 0, s => s
  | fuel + 1, s =>
    match s.dstStep n with
    | (some s1, _) => State.dstRun n fuel s1
    | (none, s1) => s1

/-- A job's output so far: the input of a DMA transfer (R168); what Glint makes of the input of a job that has its key (R385). -/
def State.syncOut (s : State) (n : Nat) : State :=
  match KMap.find s.jobs n with
  | none => s
  | some j =>
    let got := j.input.take (s.avail n j)
    if j.opc = 0xFE then s.setJob n { j with output := got }
    else
      match KMap.find s.glint.keys n with
      | some k => if j.scrub.isSome then s else s.setJob n { j with output := jobOutput k.alg k.z got j.pass }
      | none => s

/-- Move as much of a job's data as can be moved now. -/
def State.pump (s : State) (n : Nat) : State :=
  match KMap.find s.jobs n with
  | none => s
  | some j =>
    let s1 := (State.srcRun n (j.src.len - j.got + 1) s).syncOut n
    match KMap.find s1.jobs n with
    | none => s1
    | some k => State.dstRun n (k.output.length - k.done + 1) s1

/-- Start a job: a host side whose settings the function lacks ends it without a request (R473). -/
def State.startJob (s : State) (n : Nat) : State :=
  match KMap.find s.jobs n with
  | none => s
  | some j =>
    let bad := match j.fn with
      | some f => s.pasidBad f j.pasid j.pmr
      | none => false
    match bad, j.src, j.dst with
    | true, .host _, _ => s.setJob n { j.fail CplStat.dmaReadFault.code with started := true }
    | true, _, .host _ => s.setJob n { j.fail CplStat.dmaWriteFault.code with started := true }
    | _, _, _ => s.setJob n { j with started := true }

/-! ### Function-reset notices (R540) -/

/-- WAITING shows the notices that wait. -/
def State.noticeCount (s : State) : State := s.wr R.HIF_NOTICE_STAT_WAITING 0 s.hif.notices.length

/-- A notice is lost (R540). -/
def State.noticeLost (s : State) : State := (s.sat R.HIF_NOTICE_STAT_LOST 0 1).wr R.HIF_NOTICE_STAT_OVF 0 1

/-- Commit the notice of an event, or let it wait (R540). -/
def State.notice (s : State) (ev scope fn : Nat) : State :=
  let dev := decide (6 ≤ ev ∧ ev ≤ 9)
  let chan := s.rd R.HIF_NOTICE_CFG_CHAN 0
  let w := fn % 4096 + ev * 2 ^ 12 + scope * 2 ^ 16
  if !s.flag R.HIF_NOTICE_CFG_EN 0 || (dev && !s.flag R.HIF_NOTICE_CFG_DEV_EV 0) then s
  else if !s.flag R.LTN_CH_CFG_ENABLE chan then s.noticeLost
  else if s.hif.notices.isEmpty && s.chanRoom chan then s.hwCommit chan [w, s.time]
  else if s.hif.notices.length < 64 then
    ({ s with hif := { s.hif with notices := s.hif.notices ++ [(w, s.time)] } }).noticeCount
  else s.noticeLost

/-! ### Completion queues (R521 to R527) -/

/-- The indices at which a field of one bit that resets to 0 is set. -/
def State.setBits (s : State) (f : Fld) : List Nat :=
  ((s.regs.filter fun e => e.1 / 2 ^ 24 == f.id).filter fun e => e.2 == 1).map fun e => e.1 % 2 ^ 24

/-- The enabled CQs of a function. -/
def State.cqsOf (s : State) (f : Nat) : List Nat := (s.setBits R.QM_CQ_EN).filter fun c => s.rd R.QM_CQ_FUNC c == f

/-- The enabled SQs of a function. -/
def State.sqsOf (s : State) (f : Nat) : List Nat := (s.setBits R.QM_SQ_EN).filter fun q => s.rd R.QM_SQ_FUNC q == f

/-- What the queue manager keeps for a CQ beside its record. -/
def State.cqRun (s : State) (c : Nat) : CqRun := KMap.getD s.qm.cq c CqRun.fresh

/-- Set it. -/
def State.setCqRun (s : State) (c : Nat) (x : CqRun) : State :=
  { s with qm := { s.qm with cq := KMap.setD s.qm.cq c CqRun.fresh x } }

/-- What the queue manager keeps for an SQ beside its record. -/
def State.sqRun (s : State) (q : Nat) : SqRun := KMap.getD s.qm.sq q SqRun.fresh

/-- Set it. -/
def State.setSqRun (s : State) (q : Nat) (x : SqRun) : State :=
  { s with qm := { s.qm with sq := KMap.setD s.qm.sq q SqRun.fresh x } }

/-- Entries of a CQ's ring. -/
def State.cqSize (s : State) (c : Nat) : Nat := 2 ^ s.rd R.QM_CQ_SIZE_LOG2 c

/-- FREE of R526. -/
def State.cqFree (s : State) (c : Nat) : Nat :=
  s.cqSize c - (s.rd R.QM_CQ_TAIL c + 65536 - s.rd R.QM_CQ_HEAD c) % 65536

/-- The queue manager may fetch one more descriptor for a CQ (R526). -/
def State.cqOpen (s : State) (c : Nat) : Bool :=
  decide (s.rd R.QM_CQ_OUTSTANDING c + s.rd R.QM_CQ_SPILLED c < s.cqFree c + 1024)

/-- BACKPRESSURE follows R526. -/
def State.settleCq (s : State) (c : Nat) : State := s.setFlag R.QM_CQ_BACKPRESSURE c (!s.cqOpen c)

/-- Count an event of the queue manager against a function's link (R628). -/
def State.countQm (s : State) (f ev n : Nat) : State := s.countSub 30 ev (s.linkOf f) n

/-- Send the message of a CQ (R523). -/
def State.cqMessage (s : State) (c : Nat) : State :=
  (s.setCqRun c { s.cqRun c with since := 0, first := none }).msix (s.rd R.QM_CQ_FUNC c) (s.rd R.QM_CQ_VECTOR c)

/-- An entry has been written to a CQ's ring: messages under R523. -/
def State.coalesce (s : State) (c : Nat) (now : Bool) : State :=
  let x := s.cqRun c
  let n := x.since + 1
  let s1 := s.setCqRun c { x with since := n, first := some (x.first.getD s.time) }
  if s.flag R.QM_CQ_IRQ_EN c && (now || decide (Nat.max 1 (s.rd R.QM_CQ_COAL_CNT c) ≤ n)) then s1.cqMessage c else s1

/-- NVMe commands that the storage front-end has fetched for a function and not ended (R543). -/
def State.nvmeJobs (s : State) (f : Nat) : Nat :=
  (s.nvm.slots.filter fun e => e.2.fn == f && !e.2.posted).length

/-- NVMe completion entries of a function that are not in their ring (R543). -/
def State.nvmeSpilled (s : State) (f : Nat) : Bool := s.nvm.cqs.any fun e => e.2.fn == f && !e.2.spilled.isEmpty

/-- JOBS of a function (R543): fetched work whose completion entry is not in the ring. -/
def State.fnJobs (s : State) (f : Nat) : Nat :=
  (s.cqsOf f).foldl (fun n c => n + s.rd R.QM_CQ_OUTSTANDING c) 0
    + (s.jobs.filter fun e => match e.2.origin with
      | .cpl c _ => s.rd R.QM_CQ_FUNC c == f
      | .ncpl _ _ => e.2.fn == some f
      | _ => false).length
    + s.nvmeJobs f

/-- The conditions of R543 hold for a function. -/
def State.fnIdle (s : State) (f : Nat) : Bool :=
  s.fnJobs f == 0 && (s.cqsOf f).all (fun c => s.rd R.QM_CQ_SPILLED c == 0) && !s.nvmeSpilled f
    && !(s.hif.reads.any fun e => e.2.fn == f) && !(s.hif.treqs.any fun r => r.pg.fn == f)
    && !s.flag R.HIF_FN_STAT_TORN f

/-- QUIESCED follows R543; it is told of when it becomes 1. -/
def State.settleFn (s : State) (f : Nat) : State :=
  let q := s.flag R.HIF_FN_QCTL_QUIESCE f && s.fnIdle f
  let was := s.flag R.HIF_FN_QCTL_QUIESCED f
  if q == was then s
  else
    let s1 := s.setFlag R.HIF_FN_QCTL_QUIESCED f q
    if q then s1.notice 10 0 f else s1

/-- The write of a completion entry goes on: once it is written, messages follow (R39). An entry whose translation is refused is not
written (log entry 42). -/
def State.settleCpl (s : State) (n c : Nat) (now : Bool) : State :=
  let s1 := s.pump n
  match KMap.find s1.jobs n with
  | none => s1
  | some j =>
    if j.status.isSome then (s1.endJob n).settleFn (s.rd R.QM_CQ_FUNC c)
    else if j.output.length ≤ j.done then
      (((s1.endJob n).countQm (s.rd R.QM_CQ_FUNC c) 0x04 1).coalesce c now).settleFn (s.rd R.QM_CQ_FUNC c)
    else s1

/-- Write an entry to the ring (R522): slot and PHASE from TAIL, which advances. -/
def State.ringEntry (s : State) (c : Nat) (entry : Bytes) (now spilled : Bool) : State :=
  let t := s.rd R.QM_CQ_TAIL c
  let k := s.rd R.QM_CQ_SIZE_LOG2 c
  let phase := (bitsAt t k 1 + 1) % 2
  let flags := ((entry.getD 31 0).toNat &&& 2) + phase + 4 * b2n spilled
  let bytes := entry.take 31 ++ [BitVec.ofNat 8 flags]
  let f := s.rd R.QM_CQ_FUNC c
  let j : Job := { Job.fresh (.cpl c now) with
    fn := some f
    pasid := if s.flag R.QM_CQ_PV c then some (s.rd R.QM_CQ_PASID c) else none
    pmr := s.flag R.QM_CQ_PMR c
    dst := .host [(s.rd R.QM_CQ_BASE c * 4096 + 32 * (t % 2 ^ k), 32)]
    output := bytes }
  let a := (s.wr R.QM_CQ_TAIL c (t + 1)).addJob j
  (a.2.startJob a.1).settleCpl a.1 c now

/-- The place of spilled entry number `i` of a CQ (R524). -/
def State.spillAddr (s : State) (c i : Nat) : Nat :=
  s.rd R.QM_CFG_SPILL_BASE 0 * 2 ^ 29 + 32768 * c + 32 * (i % 1024)

/-- Raise an event of QM_PF_EVT: a message each time a bit goes from 0 to 1 (R527). -/
def State.pfEvent (s : State) (f : Nat) (bit : Fld) : State :=
  match s.pfOf f with
  | none => s
  | some p =>
    if s.flag bit p then s
    else
      let s1 := s.wr bit p 1
      if s1.flag R.QM_PF_EVT_EN p then s1.msix p (s1.rd R.QM_PF_EVT_VEC p) else s1

/-- CQ_OVERFLOW (R527). -/
def State.cqOverflow (s : State) (c : Nat) : State :=
  if s.flag R.QM_CQ_OVERFLOW c then s
  else
    let f := s.rd R.QM_CQ_FUNC c
    let s1 := ((s.wr R.QM_CQ_OVERFLOW c 1).msix f (s.rd R.QM_CQ_VECTOR c)).pfEvent f R.QM_PF_EVT_CQ_OVF
    match s.pfOf f with
    | some p => s1.wr R.QM_PF_EVT_LAST_CQ p c
    | none => s1

/-- An entry goes to the spill area (R524). -/
def State.spill (s : State) (c : Nat) (entry : Bytes) (now : Bool) : State :=
  let x := s.cqRun c
  let s1 := (s.setBytes (s.spillAddr c x.spillAt) entry).setCqRun c
    { x with spillAt := (x.spillAt + 1) % 1024, nows := x.nows ++ [now] }
  let s2 := (s1.wr R.QM_CQ_SPILLED c (s.rd R.QM_CQ_SPILLED c + 1)).countQm (s.rd R.QM_CQ_FUNC c) 0x05 1
  if s.cqFree c = 0 then s2.cqOverflow c else s2

/-- Post an entry to a CQ (R521 to R527): to the ring, or behind the spilled ones. -/
def State.post (s : State) (c : Nat) (entry : Bytes) (now : Bool) : State :=
  let f := s.rd R.QM_CQ_FUNC c
  let s1 := s.wr R.QM_CQ_OUTSTANDING c (s.rd R.QM_CQ_OUTSTANDING c - 1)
  let s2 := if s.rd R.QM_CQ_SPILLED c ≠ 0 ∨ s.cqFree c = 0 ∨ s.mayIssue f = false then s1.spill c entry now
    else s1.ringEntry c entry now false
  (s2.settleCq c).settleFn f

/-- The bytes of a completion entry (R521), PHASE aside. -/
def entryBytes (user aux done tag sq head status opc : Nat) (noDesc : Bool) : Bytes :=
  leBytes 8 user ++ leBytes 8 aux ++ leBytes 4 done ++ leBytes 2 tag ++ leBytes 2 sq ++ leBytes 2 head
    ++ leBytes 1 status ++ leBytes 1 opc ++ zeros 3 ++ leBytes 1 (2 * b2n noDesc)

/-- IRQ_NOW of a descriptor (R500). -/
def descNow (d : Bytes) : Bool := (d.getD 1 0).getLsbD 0

/-- Complete a descriptor of an SQ (R521). -/
def State.complete (s : State) (q : Nat) (d : Bytes) (status done aux : Nat) : State :=
  let e := entryBytes (leVal (sliceB d 24 8)) aux done (leVal (sliceB d 2 2)) (s.rd R.QM_SQ_LOCAL q) (s.rd R.QM_SQ_CI q) status
    (leVal (sliceB d 0 1)) false
  let s1 := if status = 1 then s.countQm (s.rd R.QM_SQ_FUNC q) 0x07 1 else s
  s1.post (s.rd R.QM_SQ_CQ q) e (descNow d)

/-- Complete a descriptor that could not be read (R506). -/
def State.completeUnread (s : State) (q status : Nat) : State :=
  s.post (s.rd R.QM_SQ_CQ q) (entryBytes 0 0 0 0 (s.rd R.QM_SQ_LOCAL q) (s.rd R.QM_SQ_CI q) status 0 true) false

/-! ### Frames on their way to a receive queue (R516, R518) -/

/-- The oldest delivery of a receive queue. -/
def State.oldestRx (s : State) (q : Nat) : Option Nat :=
  (s.jobs.find? fun e => match e.2.origin with
    | .rx q1 _ => q1 == q
    | _ => false).map fun e => e.1

/-- Posted buffers of a receive queue whose function returns them, that no frame has taken, complete ABORTED in ring order (R542). -/
def State.returnRx (s : State) (q : Nat) : State :=
  let f := s.rd R.QM_SQ_FUNC q
  if s.flag R.HIF_FN_QCTL_QUIESCE f && s.flag R.HIF_FN_QCTL_RX_RETURN f && (KMap.getD s.tm.rxq q []).isEmpty
      && (s.oldestRx q).isNone then
    let l := (s.sqRun q).posted
    l.foldl (fun s d => s.complete q d.bytes CplStat.aborted.code 0 0) (s.setSqRun q { s.sqRun q with posted := [] })
  else s

/-- A delivery that has moved its data, or failed, completes when it is the oldest of its queue (R515, R516). -/
def State.settleRx (s : State) (n q : Nat) : State :=
  let s1 := s.pump n
  match KMap.find s1.jobs n with
  | none => s1
  | some j =>
    let ended := j.status.isSome || decide (j.output.length ≤ j.done)
    if ended && !j.torn && s1.oldestRx q == some n then
      let st := match j.status with
        | some st => st
        | none => if j.badFrom.isSome then CplStat.carryCheck.code else 0
      let s2 := (s1.endJob n).freeFrame { Pkt.fresh with handle := j.frame.getD 0, data := j.output }
      (s2.complete q j.desc st j.done j.aux).returnRx q
    else s1

/-! ### Completion queues of NVMe controllers (R407, R408, R419, R424) -/

/-- What the storage front-end keeps for a controller. -/
def State.nctl (s : State) (f : Nat) : NCtl := KMap.getD s.nvm.ctls f NCtl.fresh

/-- Change what the storage front-end keeps. -/
def State.modNvm (s : State) (k : Nvm → Nvm) : State := { s with nvm := k s.nvm }

/-- Set a controller. -/
def State.setNctl (s : State) (f : Nat) (x : NCtl) : State :=
  s.modNvm fun n => { n with ctls := KMap.setD n.ctls f NCtl.fresh x }

/-- Change a controller. -/
def State.modNctl (s : State) (f : Nat) (k : NCtl → NCtl) : State := s.setNctl f (k (s.nctl f))

/-- Set a completion queue. -/
def State.setNcq (s : State) (c : Nat) (q : NCq) : State := s.modNvm fun n => { n with cqs := KMap.put n.cqs c q }

/-- Free slots of a ring: NVMe keeps one slot of a ring empty. -/
def NCq.free (q : NCq) : Nat := q.size - 1 - (q.tail + q.size - q.head) % q.size

/-- Commands that R526 still admits for a completion queue. -/
def State.ncqRoom (s : State) (c : Nat) : Nat :=
  match KMap.find s.nvm.cqs c with
  | none => 0
  | some q => q.free + 1024 - ((s.nvm.slots.filter fun e => e.2.cq == c && !e.2.posted).length + q.spilled.length)

/-- An entry has been written to a controller's ring: its message, under the Interrupt Coalescing feature. -/
def State.ncqIrq (s : State) (c : Nat) : State :=
  match KMap.find s.nvm.cqs c with
  | none => s
  | some q =>
    let x := s.nctl q.fn
    let e := KMap.getD x.coal q.vec (0, s.time)
    if !q.ien then s
    else if q.id = 0 ∨ x.tim = 0 ∨ x.cd.contains q.vec = true ∨ x.thr ≤ e.1 then
      (s.setNctl q.fn { x with coal := KMap.del x.coal q.vec }).msix q.fn q.vec
    else s.setNctl q.fn { x with coal := KMap.put x.coal q.vec (e.1 + 1, e.2) }

/-- The write of an entry goes on (R38, R39). -/
def State.settleNcpl (s : State) (n c : Nat) : State :=
  let s1 := s.pump n
  match KMap.find s1.jobs n with
  | none => s1
  | some j =>
    let f := j.fn.getD 0
    if j.status.isSome then (s1.endJob n).settleFn f
    else if j.output.length ≤ j.done then ((s1.endJob n).ncqIrq c).settleFn f
    else s1

/-- Write an entry to the ring with the Phase Tag of its slot. -/
def State.ncqEntry (s : State) (c : Nat) (q : NCq) (e : Bytes) (id : Nat) : State :=
  let w := leVal (sliceB e 14 2)
  let bytes := e.take 14 ++ leBytes 2 (w / 2 * 2 + b2n q.phase)
  let wrap := decide (q.tail + 1 = q.size)
  let s1 := s.setNcq c { q with tail := if wrap then 0 else q.tail + 1, phase := if wrap then !q.phase else q.phase }
  let j : Job := { Job.fresh (.ncpl c id) with
    fn := some q.fn, dst := .host [(q.base + 16 * q.tail, 16)], output := bytes }
  let a := s1.addJob j
  (a.2.startJob a.1).settleNcpl a.1 c

/-- An entry goes to the spill area (R408, R524, R527). -/
def State.ncqSpill (s : State) (c : Nat) (q : NCq) (e : Bytes) (id : Nat) : State :=
  let first := decide (q.free = 0) && !q.ovf
  let s1 := (s.setBytes (s.spillAddr c q.spillAt) e).setNcq c
    { q with spillAt := (q.spillAt + 1) % 1024, spilled := q.spilled ++ [id], ovf := q.ovf || first }
  if first then (s1.msix q.fn q.vec).pfEvent q.fn R.QM_PF_EVT_CQ_OVF else s1

/-- Post an entry of a controller, to the ring or behind the spilled ones (R408, R424). -/
def State.postNvme (s : State) (c : Nat) (e : Bytes) (id : Nat) : State :=
  match KMap.find s.nvm.cqs c with
  | none => s
  | some q =>
    if q.spilled.isEmpty && decide (0 < q.free) && s.mayIssue q.fn then s.ncqEntry c q e id else s.ncqSpill c q e id

/-- Move the oldest spilled entry of a controller's queue into its ring (R408, R525). -/
def State.moveNvmeSpill (s : State) (c : Nat) : State :=
  match KMap.find s.nvm.cqs c with
  | none => s
  | some q => match q.spilled with
    | [] => s
    | id :: r =>
      if q.free = 0 ∨ s.mayIssue q.fn = false then s
      else
        let a := s.spillAddr c (q.spillAt + 1024 - q.spilled.length)
        let bad := s.badRange a 16
        let e := if bad then zeros 14 ++ leBytes 2 (2 * 4) else s.bytes a 16
        let s1 := if bad then (s.countPoison a 16).report (memUnit s.part a) .eccUe (bitsAt a 6 32) else s
        (s1.ncqEntry c { q with spilled := r } e id).settleFn q.fn

/-- Go on with one job. -/
def State.settleJob (s : State) (n : Nat) : State :=
  match KMap.find s.jobs n with
  | none => s
  | some j => match j.origin with
    | .cpl c now => s.settleCpl n c now
    | .ncpl c _ => s.settleNcpl n c
    | .rx q _ => s.settleRx n q
    | _ => s.pump n

/-- Go on with every job, in the order in which they began. -/
def State.kick (s : State) : State := (s.jobs.map fun e => e.1).foldl State.settleJob s

/-! ### Failed translations (R224, R397) -/

/-- The next host request of a job waits on a page: its address there, and whether it is a write. -/
def State.waitsOn (s : State) (n : Nat) (pg : HPage) : Bool :=
  match KMap.find s.jobs n with
  | none => false
  | some j => match j.fn with
    | none => false
    | some f =>
      let on := fun (l : List (Nat × Nat)) (o : Nat) (w : Bool) => match rangeAt l o with
        | some (a, _) => s.hostPage j f a == pg && (s.atcFind pg a w).isNone
        | none => false
      j.moving && (s.fcfg f).atsEn &&
        ((match j.src with
          | .host l => j.scrub.isNone && on l j.got false
          | _ => false)
        || (match j.dst with
          | .host l => decide (j.done < j.output.length) && on l j.done true
          | _ => false))

/-- The translation of a page is refused for a job: it ends with the status (R224); while output is being zeroed, the writes to that
page are left out (R397). -/
def State.refusePage (s : State) (st n : Nat) : State :=
  s.modJob n fun j =>
    if j.scrub.isSome then
      match j.dst, j.fn with
      | .host l, some f => match rangeAt l j.done with
        | some (a, room) =>
          let u := 4096 * 2 ^ (s.fcfg f).stu
          { j with done := j.done + Nat.min room (u - a % u), incomplete := true }
        | none => j
      | _, _ => j
    else j.fail st

/-- Every job that waits on a page ends with the status, and goes on otherwise. -/
def State.failPage (s : State) (pg : HPage) (st : Nat) : State :=
  let l := (s.jobs.map fun e => e.1).filter fun n => s.waitsOn n pg
  (l.foldl (fun s n => s.refusePage st n) s).kick

end Sys2Proof.Machine
end

