-- ==== Sys2Proof/Machine/Operands.lean ====
section
/-!
DEFINITION. The operand forms and results of the Lantern arithmetic (R139 to R144, R153): extension of immediates, shifts, bit
fields, products and quotients, as functions of 64-bit words.
-/

namespace Sys2Proof.Machine

/-- sext() of an immediate (R139). -/
def sext {n : Nat} (x : BitVec n) : Word := x.signExtend 64

/-- zext() of an immediate (R139). -/
def zext {n : Nat} (x : BitVec n) : Word := x.setWidth 64

/-- sext32 of the low 32 bits of a word. -/
def sext32 (x : Word) : Word := (x.setWidth 32).signExtend 64

/-- A shift amount: the low six bits of an operand (R140). -/
def shAmt (b : Word) : Nat := b.toNat % 64

/-- Shifts of R140 and R141, by kind: 0 SHL, 1 SHR, 2 SRA, 3 ROR. -/
def shiftBy (kind : Nat) (a : Word) (n : Nat) : Word :=
  match kind with
  | 0 => a <<< n
  | 1 => a >>> n
  | 2 => a.sshiftRight n
  | _ => a.rotateRight n

/-- Leading zeros, 0 to 64. -/
def clz (a : Word) : Nat := if a = 0 then 64 else 63 - a.toNat.log2

/-- Trailing zeros, 0 to 64. -/
def ctz (a : Word) : Nat :=
  match (List.range 64).find? fun i => a.getLsbD i with
  | some i => i
  | none => 64

/-- Set bits. -/
def popc (a : Word) : Nat := ((List.range 64).filter fun i => a.getLsbD i).length

/-- The eight bytes in reverse order. -/
def bswap (a : Word) : Word := BitVec.ofNat 64 (leVal (leBytes 8 a.toNat).reverse)

/-- A field width of EXT and INS: 0 means 64. -/
def fieldWidth (b : Word) : Nat := if bitsAt b.toNat 7 6 = 0 then 64 else bitsAt b.toNat 7 6

/-- A mask of `w` ones. -/
def maskOnes (w : Nat) : Word := BitVec.ofNat 64 (2 ^ w - 1)

/-- EXT of R140. -/
def extBits (a b : Word) : Word :=
  if b.getLsbD 6 || bitsAt b.toNat 13 51 != 0 then 0 else (a >>> shAmt b) &&& maskOnes (fieldWidth b)

/-- INS of R140: `old` is RD. -/
def insBits (old a b : Word) : Word :=
  let m := maskOnes (fieldWidth b) <<< shAmt b
  (old &&& ~~~m) ||| ((a <<< shAmt b) &&& m)

/-- IMMZ and IMMK of R142: the immediate in lane `hw`. -/
def lane (hw : BitVec 2) (imm : BitVec 16) : Word := (zext imm) <<< (16 * hw.toNat)

/-- IMMK: lane `hw` of `old` replaced. -/
def setLane (old : Word) (hw : BitVec 2) (imm : BitVec 16) : Word :=
  (old &&& ~~~((maskOnes 16) <<< (16 * hw.toNat))) ||| lane hw imm

/-- High 64 bits of the unsigned product (R143). -/
def mulhu (a b : Word) : Word := BitVec.ofNat 64 (a.toNat * b.toNat / 2 ^ 64)

/-- High 64 bits of the signed product (R143). -/
def mulhs (a b : Word) : Word := BitVec.ofInt 64 (a.toInt * b.toInt / 2 ^ 64)

/-- DIVU (R143, R144). -/
def divu (a b : Word) : Word := if b = 0 then BitVec.allOnes 64 else BitVec.ofNat 64 (a.toNat / b.toNat)

/-- DIVS (R143, R144): truncated towards zero; −2^63 by −1 wraps to −2^63. -/
def divs (a b : Word) : Word := if b = 0 then BitVec.allOnes 64 else BitVec.ofInt 64 (a.toInt.tdiv b.toInt)

/-- REMU (R143, R144). -/
def remu (a b : Word) : Word := if b = 0 then a else BitVec.ofNat 64 (a.toNat % b.toNat)

/-- REMS (R143, R144): the sign follows `a`. -/
def rems (a b : Word) : Word := if b = 0 then a else BitVec.ofInt 64 (a.toInt.tmod b.toInt)

/-- The operations of the ATOM group on words of `w` bits (R153), by FN[3:0] without SWAP and CAS. -/
inductive AtomOp where
  | swap | add | and | or | xor | min | max | minu | maxu
  deriving DecidableEq, Repr

/-- The new value of an atomic, as the low `w` bits (R153). -/
def AtomOp.apply (op : AtomOp) (w old b : Nat) : Nat :=
  let m := 2 ^ w
  match op with
  | .swap => b % m
  | .add => (old + b) % m
  | .and => old &&& b % m
  | .or => old ||| b % m
  | .xor => (old ^^^ b) % m
  | .min => if signedOf w old ≤ signedOf w b then old else b % m
  | .max => if signedOf w old ≤ signedOf w b then b % m else old
  | .minu => Nat.min old (b % m)
  | .maxu => Nat.max old (b % m)

end Sys2Proof.Machine
end

