-- ==== Sys2Proof/Machine/LanternSys.lean ====
section
/-!
DEFINITION. The system commands of 03_lantern_isa.md: SRR to NOPS (R132, R177 to R179), fences, CTRRD (R176), and the faults a fetch or a reserved word raises (R137, R186).
-/

namespace Sys2Proof.Machine

/-- The system register numbers of R131. -/
def sysRegs : List Nat := [0, 1, 2, 3, 4, 5, 6, 7, 8, 9, 0xA, 0xB, 0xC, 0x10, 0x11, 0x12]

/-- The value of a system register (R131); CYCLE is a free value, since the model keeps no cycle count (log entry 3). -/
def State.sysReg (s : State) (t n : Nat) : Word × State :=
  let th := s.thr t
  match n with
  | 0 => (th.tstat.setWidth 64, s)
  | 1 => (th.estat.setWidth 64, s)
  | 2 => (th.epc, s)
  | 3 => (BitVec.ofNat 64 th.ecause, s)
  | 4 => (th.einfo, s)
  | 5 => (th.evec, s)
  | 6 => (th.escratch, s)
  | 7 => (th.prg, s)
  | 8 => (th.eprg, s)
  | 9 => (th.dmactx, s)
  | 0xA => (BitVec.ofNat 64 th.uperm, s)
  | 0xB => (th.ptbr, s)
  | 0xC => (BitVec.ofNat 64 th.asid, s)
  | 0x10 => (BitVec.ofNat 64 t, s)
  | 0x11 => (BitVec.ofNat 64 s.time, s)
  | _ => (BitVec.ofNat 64 s.draw.1, s.draw.2)

/-- SRW, field by field under the register's table (R131, R177); RO registers ignore it. -/
def Thread.setSys (th : Thread) (n : Nat) (v : Word) : Thread :=
  let x := v.toNat
  match n with
  | 0 => { th with ie := bitAt x 1, xlate := bitAt x 3 }
  | 1 => { th with estat := BitVec.ofNat 32 (x % 32) }
  | 2 => { th with epc := v }
  | 5 => { th with evec := v &&& ~~~(63 : Word) }
  | 6 => { th with escratch := v }
  | 7 => { th with prg := v }
  | 8 => { th with eprg := v }
  | 9 => { th with dmactx := BitVec.ofNat 64 (x % 2 ^ 34) }
  | 0xA => { th with uperm := x % 8 }
  | 0xB => { th with ptbr := BitVec.ofNat 64 (bitsAt x 12 36 * 4096) }
  | 0xC => { th with asid := x % 2 ^ 16 }
  | _ => th

/-- SRR (R132, R190): a reserved number raises ILLEGAL; PL0 reads only GTID, TIMEBASE, CYCLE and PRG. SRR naming PRG leaves PRG
unchanged. -/
def doSrr (t : Nat) (rd : Reg5) (reg : BitVec 12) (s : State) : State :=
  s.issue t fun s =>
    let n := reg.toNat
    let word := wordI 0x30 rd 0 n
    if n ∉ sysRegs then s.raiseAt t .illegal word
    else if !(s.thr t).pl1 && !decide (n = 0x10 ∨ n = 0x11 ∨ n = 0x12 ∨ n = 7) then s.raiseAt t .priv word
    else
      let v := s.sysReg t n
      v.2.retireK t (n == 7) ((s.thr t).pc + 4) fun th => th.setG rd v.1

/-- SRW (R132, R177, R190): PL1 only; a reserved number raises ILLEGAL at either level. -/
def doSrw (t : Nat) (ra : Reg5) (reg : BitVec 12) (s : State) : State :=
  s.issue t fun s =>
    let n := reg.toNat
    let word := wordI 0x30 0 ra (1 <<< 12 + n)
    if n ∉ sysRegs then s.raiseAt t .illegal word
    else s.privOr t word fun s =>
      (s.retireK t (n == 7) ((s.thr t).pc + 4) fun th => th.setSys n (th.greg ra)).settle t

/-- SYSCALL (R177, R180): the return address is the next instruction. -/
def doSyscall (t : Nat) (code : BitVec 12) (s : State) : State :=
  s.issue t fun s => s.enter t .syscall code.toNat ((s.thr t).pc + 4)

/-- ERET (R182): PL1 only. -/
def doEret (t : Nat) (s : State) : State :=
  s.issue t fun s => s.privOr t (wordI 0x30 0 0 (3 <<< 12)) fun s =>
    (s.retireK t true ((s.thr t).epc &&& ~~~(3 : Word)) fun th =>
      { th with ie := th.estat.getLsbD 1, xlate := th.estat.getLsbD 3, pl1 := th.estat.getLsbD 0, exa := false,
                prg := th.eprg }).settle t

/-- BRK (R123, R196): with a debugger connection the thread halts after the BRK; without one BREAKPOINT is raised. -/
def doBrk (t : Nat) (code : BitVec 12) (s : State) : State :=
  s.issue t fun s =>
    if s.flag R.LTN_DBG_CTL_BP_EN (coreOf t) then
      (((s.countThr t 0x02 1).modThr t fun th => { th with pc := th.pc + 4, prg := 0 })).haltThread t 2
    else s.enter t .breakpoint code.toNat ((s.thr t).pc + 4)

/-- IEN (R177): PL1 only. -/
def doIen (t : Nat) (s : State) : State :=
  s.issue t fun s => s.privOr t (wordI 0x30 0 0 (5 <<< 12)) fun s =>
    (s.retire t fun th => { th with ie := true }).settle t

/-- IDIS (R177): PL1 only. -/
def doIdis (t : Nat) (s : State) : State :=
  s.issue t fun s => s.privOr t (wordI 0x30 0 0 (6 <<< 12)) fun s =>
    (s.retire t fun th => { th with ie := false }).settle t

/-- A cached translation falls under a removal (R178): scope 0 the page holding `arg` in `asid`, scope 1 the ASID `arg`, scope 2
every one. Global entries match any ASID (R218). -/
def removed (scope asid arg : Nat) (e : TlbEnt) : Bool :=
  match scope with
  | 0 => e.matches asid (arg % 2 ^ 48)
  | 1 => e.glob || e.asid == arg % 2 ^ 16
  | _ => true

/-- Remove cached translations of one core. -/
def State.tlbDrop (s : State) (c scope asid arg : Nat) : State :=
  s.modCore c fun k => { k with tlb := k.tlb.filter fun e => !removed scope asid arg e }

/-- Remove cached translations of a cluster's DMA engine (R220). -/
def State.dmaTlbDrop (s : State) (cl scope asid arg : Nat) : State :=
  { s with ltn := { s.ltn with
    dmaTlb := KMap.setD s.ltn.dmaTlb cl [] ((KMap.getD s.ltn.dmaTlb cl []).filter fun e => !removed scope asid arg e) } }

/-- TLBI (R178, R220): PL1 only; scope 3 raises ILLEGAL. The core's TLBs and its cluster's DMA engine lose the translations. -/
def doTlbi (t : Nat) (ra : Reg5) (scope : BitVec 2) (s : State) : State :=
  s.issue t fun s =>
    let word := wordI 0x30 0 ra (7 <<< 12 + scope.toNat)
    if scope = 3 then s.raiseAt t .illegal word
    else s.privOr t word fun s =>
      let th := s.thr t
      let arg := (th.greg ra).toNat
      ((s.tlbDrop (coreOf t) scope.toNat th.asid arg).dmaTlbDrop (clusterOf t) scope.toNat th.asid arg).retire t id

/-- NOPS (R177): a serialising no-op. -/
def doNops (t : Nat) (s : State) : State := s.issue t fun s => s.retire t id

/-- FENCE (R155): the thread's accesses are performed in command order, so only the instruction retires. -/
def doFence (t : Nat) (s : State) : State := s.issue t fun s => s.retire t id

/-- IFENCE (R155, R212): instruction caches hold no stale line in the model, so only the instruction retires. -/
def doIfence (t : Nat) (s : State) : State := s.issue t fun s => s.retire t id

/-- What CTRRD reads of counter `c` of block `b` (R176, R637): VALUE and SAT, live or of the last snapshot. -/
def State.ctrWord (s : State) (b c : Nat) (snap : Bool) : Nat :=
  let i := ctrIx b c
  if s.blockAbsent b then 0
  else if snap then s.rd R.LUM_SNAP_VALUE i + s.rd R.LUM_SNAP_SAT i <<< 63
  else s.rd R.LUM_VAL_VALUE i + s.rd R.LUM_VAL_SAT i <<< 63

/-- CTRRD (R176, R641): PL0 reads only blocks with USER = 1; block 71 and above read 0. -/
def doCtrrd (t : Nat) (rd ra : Reg5) (s : State) : State :=
  s.issue t fun s =>
    let a := ((s.thr t).greg ra).toNat
    let b := bitsAt a 0 7
    if 71 ≤ b then s.result t rd 0
    else if !(s.thr t).pl1 && !s.flag R.LUM_BLK_CTL_USER b then s.raiseAt t .priv (wordR 0x2E rd ra 0 0)
    else
      let v := s.ctrWord b (bitsAt a 7 3) (bitAt a 10)
      (s.count 68 0x01 1).result t rd (BitVec.ofNat 64 v)

/-! ### Reserved words (R136 to R138, R141, R153, R155, R157, R161, R177) -/

/-- The register fields and function field of a word of format R, Q or I. -/
def fRd (w : Nat) : Nat := bitsAt w 21 5
def fRa (w : Nat) : Nat := bitsAt w 16 5
def fRb (w : Nat) : Nat := bitsAt w 11 5
def fRc (w : Nat) : Nat := bitsAt w 6 5
def fFn (w : Nat) : Nat := bitsAt w 0 11
def fQ (w : Nat) : Nat := bitsAt w 0 6
def fImm (w : Nat) : Nat := bitsAt w 0 16

/-- A SYS word is an instruction (R177). -/
def legalSys (w : Nat) : Bool :=
  let lo := bitsAt w 0 12
  let rd0 := fRd w == 0
  let ra0 := fRa w == 0
  match bitsAt w 12 4 with
  | 0 => ra0 && sysRegs.contains lo
  | 1 => rd0 && sysRegs.contains lo
  | 2 => rd0 && ra0
  | 3 => rd0 && ra0 && lo == 0
  | 4 => rd0 && ra0
  | 5 => rd0 && ra0 && lo == 0
  | 6 => rd0 && ra0 && lo == 0
  | 7 => rd0 && decide (lo < 3)
  | 8 => rd0 && ra0 && lo == 0
  | _ => false

/-- A CHAN word is an instruction (R157). -/
def legalChan (w : Nat) : Bool :=
  let op := bitsAt w 0 4
  bitsAt w 7 4 == 0 && (op == 5 || bitsAt w 4 3 == 0) &&
    (match op with
     | 0 | 1 | 2 => fRb w == 0
     | 3 => true
     | 4 | 5 => fRa w == 0 && fRb w == 0
     | _ => false)

/-- The word is an instruction: no reserved OP, FN, QFN or sub-function, no non-zero bit where zero is required, and no non-zero
register field that the instruction does not use (R137). -/
def legalWord (w : Nat) : Bool :=
  let fn := fFn w
  match bitsAt w 26 6 with
  | 0x01 => decide (fn < 0x18) && (!decide (0x12 ≤ fn ∧ fn ≤ 0x15) || fRb w == 0)
  | 0x06 => bitsAt w 8 8 == 0
  | 0x09 | 0x0A => bitsAt w 18 3 == 0
  | 0x0B => decide (fn < 8)
  | 0x1C => bitsAt w 5 6 == 0 && decide (bitsAt w 0 4 < 0xA)
  | 0x1D => decide (fn < 2) && fRd w == 0 && fRa w == 0 && fRb w == 0
  | 0x28 => legalChan w
  | 0x29 => fn == 0
  | 0x2A => decide (fn < 2) && fRb w == 0
  | 0x2B =>
    (match fQ w with
     | 0 | 2 | 3 | 4 => fRb w == 0
     | 1 => true
     | _ => false)
  | 0x2C =>
    (match fQ w with
     | 0 => true
     | 1 => fRc w == 0
     | _ => false)
  | 0x2D =>
    (match fQ w with
     | 0 | 1 | 2 => true
     | 3 => fRa w == 0 && fRb w == 0 && fRc w == 0
     | _ => false)
  | 0x2E => fRb w == 0 && fn == 0
  | 0x30 => legalSys w
  | 0x31 => decide (fQ w < 4)
  | 0x02 | 0x03 | 0x04 | 0x05 | 0x07 | 0x08 => true
  | 0x10 | 0x11 | 0x12 | 0x13 | 0x14 | 0x15 | 0x16 => true
  | 0x18 | 0x19 | 0x1A | 0x1B => true
  | 0x20 | 0x21 | 0x22 | 0x23 | 0x24 | 0x25 | 0x26 | 0x27 => true
  | _ => false

/-- ILLEGAL_INSTRUCTION (R137): a word that is no instruction raises ILLEGAL, with EINFO the word. -/
def doIllegalInstruction (t word : Nat) (s : State) : State :=
  s.issue t fun s => if legalWord (word % 2 ^ 32) then s else s.raiseAt t .illegal (word % 2 ^ 32)

/-- INSTRUCTION_FETCH_FAULT (R156, R186): the fetch of the next instruction faults, and the thread enters its handler with EPC at
the fetched address. -/
def doInstructionFetchFault (t : Nat) (s : State) : State :=
  s.issue t fun s =>
    let pc := (s.thr t).pc.toNat
    match s.reach t pc .fetch false with
    | (.exc cls info, s1) => s1.raiseAt t cls info
    | (.pa pa, s1) => if s1.badRange pa 4 then s1.raiseUe t pc pa 4 .fetch else s1

/-! ### The meanings of the rows -/

/-- FENCE (R155). -/
def execFence (t : Nat) (s : State) : Host.Outcome State Fault Refusal :=
  .next (s.after (doFence t s))

/-- IFENCE (R212). -/
def execIfence (t : Nat) (s : State) : Host.Outcome State Fault Refusal :=
  .next (s.after (doIfence t s))

/-- CTRRD (R176). -/
def execCtrrd (t : Nat) (rd : Reg5) (ra : Reg5) (s : State) : Host.Outcome State Fault Refusal :=
  .next (s.after (doCtrrd t rd ra s))

/-- SRR (R132). -/
def execSrr (t : Nat) (rd : Reg5) (reg : BitVec 12) (s : State) : Host.Outcome State Fault Refusal :=
  .next (s.after (doSrr t rd reg s))

/-- SRW (R179). -/
def execSrw (t : Nat) (ra : Reg5) (reg : BitVec 12) (s : State) : Host.Outcome State Fault Refusal :=
  .next (s.after (doSrw t ra reg s))

/-- SYSCALL (R177). -/
def execSyscall (t : Nat) (code : BitVec 12) (s : State) : Host.Outcome State Fault Refusal :=
  .next (s.after (doSyscall t code s))

/-- ERET (R182). -/
def execEret (t : Nat) (s : State) : Host.Outcome State Fault Refusal :=
  .next (s.after (doEret t s))

/-- BRK (R196). -/
def execBrk (t : Nat) (code : BitVec 12) (s : State) : Host.Outcome State Fault Refusal :=
  .next (s.after (doBrk t code s))

/-- IEN (R177). -/
def execIen (t : Nat) (s : State) : Host.Outcome State Fault Refusal :=
  .next (s.after (doIen t s))

/-- IDIS (R177). -/
def execIdis (t : Nat) (s : State) : Host.Outcome State Fault Refusal :=
  .next (s.after (doIdis t s))

/-- TLBI (R178). -/
def execTlbi (t : Nat) (ra : Reg5) (scope : BitVec 2) (s : State) : Host.Outcome State Fault Refusal :=
  .next (s.after (doTlbi t ra scope s))

/-- NOPS (R177). -/
def execNops (t : Nat) (s : State) : Host.Outcome State Fault Refusal :=
  .next (s.after (doNops t s))

/-- ILLEGAL_INSTRUCTION (R137). -/
def execIllegalInstruction (t : Nat) (word : Nat) (s : State) : Host.Outcome State Fault Refusal :=
  .next (s.after (doIllegalInstruction t word s))

/-- INSTRUCTION_FETCH_FAULT (R186). -/
def execInstructionFetchFault (t : Nat) (s : State) : Host.Outcome State Fault Refusal :=
  .next (s.after (doInstructionFetchFault t s))

end Sys2Proof.Machine
end

