-- ==== Sys2Proof/Machine/Translation.lean ====
section
/-!
DEFINITION. Memory and translation (04_memory_translation.md) with the DMA engine (R168 to R173): completion rings, transfers and
their holds, the scrubber and its code, removals of translations, and the exchange of translation and page requests with the host
(R222 to R226, R470, R472, R474, R475).
-/

namespace Sys2Proof.Machine

/-! ### DMA completion rings (R170 to R172) -/

/-- The instance number of a ring. -/
def ringIx (cl r : Nat) : Nat := 256 * cl + r

/-- A write of LTN_DMA_RING_CFG: ENABLE is taken or refused (R170). -/
def State.wrDmaRing (s : State) (i val : Nat) : State :=
  let on := bitAt val 0
  if s.flag R.LTN_DMA_RING_CFG_ENABLE i then
    if on || s.rd R.LTN_DMA_RING_STAT_INFLIGHT i ≠ 0 then s else s.wr R.LTN_DMA_RING_CFG_ENABLE i 0
  else
    let s1 := (s.setField R.LTN_DMA_RING_CFG_SIZE_LOG2 i val).setField R.LTN_DMA_RING_CFG_OWNER i val
    if !on then s1
    else
      let k := s1.rd R.LTN_DMA_RING_CFG_SIZE_LOG2 i
      let base := s1.rd R.LTN_DMA_RING_BASE_BASE i * 32
      let bad := !decide (4 ≤ k ∧ k ≤ 12) || !inHbm s.part base (32 * 2 ^ k) || decide (base % (32 * 2 ^ k) ≠ 0)
        || decide (clusterOf (s1.rd R.LTN_DMA_RING_CFG_OWNER i) ≠ i / 256)
      if bad then s1.wr R.LTN_DMA_RING_CFG_CFG_ERR i 1
      else
        let s2 := s1.wrs i [(R.LTN_DMA_RING_CFG_ENABLE, 1), (R.LTN_DMA_RING_CFG_CFG_ERR, 0),
          (R.LTN_DMA_RING_STAT_UNACKED, 0), (R.LTN_DMA_RING_STAT_NEXT_SEQ, 0)]
        { s2 with ltn := { s2.ltn with ringAt := KMap.setD s2.ltn.ringAt i 0 0 } }

/-- DMA_RING_ENABLE (R170). -/
def doDmaRingEnable (w : Writer) (cluster r val : Nat) (s : State) : State :=
  let i := ringIx cluster r
  if cluster < 12 ∧ r < 256 ∧ s.mayWrite w (Reg.LTN_DMA_RING_CFG.off i) = true then s.wrDmaRing i val else s

/-- Drop what the host side and the fabric still owe a job that ends. -/
def State.forgetJob (s : State) (n : Nat) : State :=
  let cut := fun (e : Nat × HRead) => if e.2.job = n then (e.1, { e.2 with job := 0 }) else e
  let s1 := { s with hif := { s.hif with reads := s.hif.reads.map cut } }
  { s1 with ltn := { s1.ltn with holds := s1.ltn.holds.filter fun e => e.2.1 != n } }

/-- A transfer or CRYPT JOB ends: its ring entry is written and DMA_DONE inputs are set (R172, R522). -/
def State.finishRing (s : State) (n status done : Nat) : State :=
  match KMap.find s.jobs n with
  | none => s
  | some j => match j.origin with
    | .ring cl r q =>
      let i := ringIx cl r
      let k := s.rd R.LTN_DMA_RING_CFG_SIZE_LOG2 i
      let t := KMap.getD s.ltn.ringAt i 0
      let phase := (bitsAt t k 1 + 1) % 2
      let e := (entryBytes j.userTag j.aux done q 0 0 status j.opc false).take 31 ++ [BitVec.ofNat 8 phase]
      let s1 := ((s.forgetJob n).endJob n).setBytes (s.rd R.LTN_DMA_RING_BASE_BASE i * 32 + 32 * (t % 2 ^ k)) e
      let s2 := { s1 with ltn := { s1.ltn with ringAt := KMap.setD s1.ltn.ringAt i 0 ((t + 1) % 65536) } }
      let s3 := s2.wrs i [(R.LTN_DMA_RING_STAT_INFLIGHT, s.rd R.LTN_DMA_RING_STAT_INFLIGHT i - 1),
        (R.LTN_DMA_RING_STAT_UNACKED, s.rd R.LTN_DMA_RING_STAT_UNACKED i + 1)]
      let s4 := ((s3.count (53 + cl) 0x01 1).count (53 + cl) 0x02 done).latchAll
        ((s3.boundTo 5 r).filter fun e => clusterOf e.1 == cl)
      match j.gtid with
      | some t => s4.settleCore (coreOf t)
      | none => s4
    | _ => s

/-- The job of a transfer, by ring and sequence number. -/
def State.ringJob (s : State) (cl r q : Nat) : Option (Nat × Job) := s.jobs.find? fun e => e.2.origin == .ring cl r q

/-- DMA_TRANSFER_START (R168): a transfer starts once ORDER allows it, and moves what it can. -/
def doDmaTransferStart (cluster ring seq : Nat) (s : State) : State :=
  match s.ringJob cluster ring seq with
  | none => s
  | some (n, j) =>
    let earlier := s.jobs.any fun e => decide (e.1 < n) && e.2.gtid == j.gtid && e.2.gtid.isSome
    if j.started || j.opc != 0xFE || (j.order && earlier) then s
    else
      let lost := match j.fn with
        | some f => j.onHost && !(s.fcfg f).bme
        | none => false
      if lost then s.setJob n { j.fail CplStat.bmeLost.code with started := true }
      else (s.startJob n).pump n

/-- A job has moved all its data, with every fabric request answered, or has failed. -/
def State.moved (s : State) (n : Nat) (j : Job) : Bool :=
  j.status.isSome || (decide (j.src.len ≤ s.avail n j ∧ j.src.len ≤ j.done) && !s.fabricBusy n)

/-- DMA_TRANSFER_COMPLETE (R172). -/
def doDmaTransferComplete (cluster ring seq : Nat) (s : State) : State :=
  match s.ringJob cluster ring seq with
  | none => s
  | some (n, j) =>
    if j.opc = 0xFE ∧ j.started = true ∧ s.moved n j = true then s.finishRing n (j.status.getD 0) j.done else s

/-! ### Local holds (R228, R231, R232) -/

/-- A held transfer fails: the status of the side that faulted. -/
def State.failHold (s : State) (cl h : Nat) : State :=
  match KMap.find s.ltn.holds (64 * cl + h) with
  | none => s
  | some (n, _, w) =>
    let st := if w then CplStat.dmaWriteFault.code else CplStat.dmaReadFault.code
    ({ s with ltn := { s.ltn with holds := KMap.del s.ltn.holds (64 * cl + h) } }).modJob n fun j =>
      { j.fail st with hold := none }

/-- A held transfer goes on from the start of the carry segment that holds its progress record (R228): what it had read beyond is
read again. -/
def State.resumeHold (s : State) (cl h : Nat) : State :=
  match KMap.find s.ltn.holds (64 * cl + h) with
  | none => s
  | some (n, _, w) =>
    let s1 := ({ s with ltn := { s.ltn with holds := KMap.del s.ltn.holds (64 * cl + h) } }).forgetJob n
    let s2 := s1.modJob n fun j =>
      let o := if w then j.done else j.got
      let at_ := o - o % 256
      { j with hold := none, got := at_, input := j.input.take at_, done := Nat.min j.done at_ }
    s2.pump n

/-- XLF_RESPONSE (R231): a write of MEM_XLF_RESP. -/
def State.wrXlf (s : State) (val : Nat) : State :=
  if bitAt val 10 then s.failHold (bitsAt val 0 4) (bitsAt val 4 6) else s.resumeHold (bitsAt val 0 4) (bitsAt val 4 6)

/-- XLF_RESPONSE (R231). -/
def doXlfResponse (w : Writer) (val : Nat) (s : State) : State :=
  if s.mayWrite w (Reg.MEM_XLF_RESP.off 0) then s.wrXlf val else s

/-- XLF_HOLD_TIMEOUT (R231). -/
def doXlfHoldTimeout (cluster hold : Nat) (s : State) : State :=
  match KMap.find s.ltn.holds (64 * cluster + hold) with
  | some (_, till, _) => if hold < 64 ∧ till ≤ s.time then s.failHold cluster hold else s
  | none => s

/-! ### The protecting code and the scrubber (R203, R204, R206, R208) -/

/-- The remainder of a polynomial of degree below `n + 14` modulo G(x) of R203. -/
def bchRem : Nat → Nat → Nat
  | 0, v => v
  | n + 1, v => bchRem n (if bitAt v (n + 14) then v ^^^ (0x4377 <<< n) else v)

/-- Where bit `i` of an 80-bit word, D[63:0] then C[15:0], stands in the codeword of R203; C[14] stands in none. -/
def bchPlace (i : Nat) : Option Nat :=
  if i < 64 then some (i + 14) else if i < 78 then some (i - 64) else if i = 79 then some 78 else none

/-- The syndrome of an error mask over the 80 bits (R204): the code is linear, so it is that of the word read. -/
def bchSyn (e : Nat) : Nat :=
  bchRem 65 ((List.range 80).foldl (fun v i => if bitAt e i then (match bchPlace i with
    | some p => v ^^^ 1 <<< p
    | none => v) else v) 0)

/-- Parity of the 80 bits. -/
def parity80 (e : Nat) : Bool := ((List.range 80).filter fun i => bitAt e i).length % 2 == 1

/-- The bits that take part in the syndrome. -/
def bchBits : List Nat := (List.range 80).filter fun i => i != 78

/-- What the decoder finds for an error mask (R204): the bits it corrects, or `none` for an uncorrectable word. -/
def decode80 (e : Nat) : Option Nat :=
  let s := bchSyn e
  let q := parity80 e
  if s = 0 then some (if q then 1 <<< 78 else 0)
  else
    match bchBits.find? fun i => bchSyn (1 <<< i) == s with
    | some i => some (if q then 1 <<< i else 1 <<< i ||| 1 <<< 78)
    | none =>
      if q then none
      else
        (bchBits.findSome? fun i =>
          (bchBits.find? fun k => decide (i < k) && bchSyn (1 <<< i ||| 1 <<< k) == s).map fun k => 1 <<< i ||| 1 <<< k)

/-- The scrubber reads the word that holds `a` with an upset of its 80 stored bits, and handles it under R206. -/
def State.scrubWord (s : State) (a upset : Nat) : State :=
  let a0 := 8 * (a / 8)
  match decode80 upset with
  | none =>
    let d := s.mval a0 8 ^^^ bitsAt upset 0 64
    ((List.range 8).foldl (fun s k => s.setByte (a0 + k) (BitVec.ofNat 8 (d / 256 ^ k))) s).uncorrectable a0
  | some fix =>
    let e := upset ^^^ fix
    let d := s.mval a0 8 ^^^ bitsAt e 0 64
    let p := s.bad a0 != bitAt e 79
    let s1 := ((List.range 8).foldl (fun s k => s.setByte (a0 + k) (BitVec.ofNat 8 (d / 256 ^ k))) s).setBad a0 p
    let s2 := if fix = 0 then s1 else s1.correctedWord a0
    if p then s2.sat R.MEM_ECC_CNT_POISON_READS 0 1 else s2

/-- Two addresses of HBM lie in one scrub burst: 64 KiB of one pseudo-channel (R208). -/
def sameBurst (p : Part) (a b : Nat) : Bool :=
  pseudoChannel p a == pseudoChannel p b && localOffset p a / 65536 == localOffset p b / 65536

/-- PATROL_SCRUB (R208): a burst of HBM, or one word of SRAM; `upset` is what the word at `addr` has suffered. -/
def doPatrolScrub (addr upset : Nat) (s : State) : State :=
  match region s.part addr with
  | .hbm =>
    if !s.flag R.MEM_SCRUB_CTL_HBM_EN 0 then s
    else
      let others := s.poison.filter fun e =>
        e.2 && decide (8 * e.1 < hbmSize s.part) && e.1 != addr / 8 && sameBurst s.part (8 * e.1) addr
      let s1 := if others.isEmpty then s else s.sat R.MEM_ECC_CNT_POISON_READS 0 others.length
      (s1.scrubWord addr (upset % 2 ^ 80)).countSub (37 + pseudoChannel s.part addr / 32) 0x06
        (pseudoChannel s.part addr % 32 / 4) 1024
  | .trie | .pktBuf | .l2 | .sysCache | .mac =>
    if s.flag R.MEM_SCRUB_CTL_SRAM_EN 0 then s.scrubWord addr (upset % 2 ^ 80) else s
  | _ => s

/-! ### Removal across clusters (R221) -/

/-- A write of MEM_TLBI_CTL (R221). -/
def State.wrTlbi (s : State) (w : Writer) (val : Nat) : State :=
  let go := bitAt val 14
  if s.flag R.MEM_TLBI_CTL_BUSY 0 then (if go then s.wr R.MEM_TLBI_CTL_REFUSED 0 1 else s)
  else
    let s1 := s.wrReg w Reg.MEM_TLBI_CTL 0 val
    if go then
      { (s1.wrs 0 [(R.MEM_TLBI_CTL_BUSY, 1), (R.MEM_TLBI_CTL_REFUSED, 0)]) with ltn := { s1.ltn with
        tlbi := some (s1.rd R.MEM_TLBI_CTL_SCOPE 0, s1.rd R.MEM_TLBI_CTL_CLUSTERS 0, s1.rd R.MEM_TLBI_CTL_ASID 0,
          s1.rd R.MEM_TLBI_ARG_ARG 0) } }
    else s1

/-- TLBI_GO (R221). -/
def doTlbiGo (w : Writer) (val : Nat) (s : State) : State :=
  if s.mayWrite w (Reg.MEM_TLBI_CTL.off 0) then s.wrTlbi w val else s

/-- TLBI_DONE (R221): the selected clusters hold none of the translations any more. -/
def doTlbiDone (s : State) : State :=
  match s.ltn.tlbi with
  | none => s
  | some (scope, mask, asid, arg) =>
    let s1 := ((List.range 12).filter fun cl => bitAt mask cl).foldl (fun s cl =>
      ((List.range 8).foldl (fun s k => s.tlbDrop (8 * cl + k) scope asid arg) s).dmaTlbDrop cl scope asid arg) s
    ({ s1 with ltn := { s1.ltn with tlbi := none } }.wr R.MEM_TLBI_CTL_BUSY 0 0).latchLine 48

/-! ### Errors of the host side (R474 to R476) -/

/-- Record an AER condition of a function, numbered by the rows of R476. -/
def State.aer (s : State) (f c : Nat) : State :=
  let x := s.fcfg f
  s.setFcfg f { x with aer := addOnce c x.aer }

/-- The completion timeout of a function, in ns (R474); a reserved value is never in force (R13). -/
def State.cplTimeout (s : State) (f : Nat) : Nat :=
  match (s.govern f).cplTo with
  | 0x1 => 100000
  | 0x2 => 10000000
  | 0x5 => 55000000
  | 0x6 => 210000000
  | 0x9 => 900000000
  | 0xA => 3500000000
  | 0xD => 13000000000
  | 0xE => 64000000000
  | _ => 50000000

/-! ### Translation and page requests (R224, R225) -/

/-- Change the requests in progress. -/
def State.setTreqs (s : State) (l : List TReq) : State := { s with hif := { s.hif with treqs := l } }

/-- The request in progress for a page. -/
def State.treq (s : State) (pg : HPage) : Option TReq := s.hif.treqs.find? fun r => r.pg == pg

/-- Replace the request in progress for a page. -/
def State.putTreq (s : State) (r : TReq) : State := s.setTreqs (s.hif.treqs.map fun x => if x.pg = r.pg then r else x)

/-- End the request in progress for a page. -/
def State.delTreq (s : State) (pg : HPage) : State := s.setTreqs (s.hif.treqs.filter fun x => !(x.pg == pg))

/-- Ask again for the translation of a page (R224, R226), unless the function may issue no request. -/
def State.askAgain (s : State) (r : TReq) (again : Bool) : State :=
  if s.mayIssue r.pg.fn then
    let t := s.hostTag
    ((t.2.putTreq { r with wait := .transReq, again := again, stale := false, tag := t.1, since := s.time }).sendTlp
      (s.linkOf r.pg.fn) (.transRequest r.pg t.1)).countHost r.pg.fn 0x06 1
  else s.delTreq r.pg

/-- Settle the functions whose requests a message has ended. -/
def State.afterPage (s : State) (pg : HPage) : State := s.kick.settleFn pg.fn

/-- The PF whose PRI a function shares (R472). -/
def State.priOf (s : State) (f : Nat) : Nat := (s.pfOf f).getD f

/-- Bytes, as a power of two, of a translation as the ATC holds it: 4 KiB to 1 GiB (R222). -/
def atcSize (n : Nat) : Nat := Nat.min (Nat.max n 12) 30

/-- The entry that a granted translation fills (R222): a larger one is held as the 1 GiB that covers the page asked for. -/
def atcEntry (pg : HPage) (size base : Nat) (r w : Bool) : AtcEnt :=
  let k := atcSize size
  ⟨pg, k, base + (pg.page * 4096 % 2 ^ size) / 2 ^ k * 2 ^ k, r, w⟩

/-- What a Translation Completion does (R224). -/
def State.takeTranslation (pg : HPage) (res : AtsResult) (s : State) : State :=
  match s.treq pg with
  | none => s.aer pg.fn 3
  | some q =>
    if q.wait ≠ .transReq then s.aer pg.fn 3
    else if q.stale then s.askAgain q q.again
    else
      match res with
      | .failed => ((s.delTreq pg).failPage pg CplStat.atsFault.code).afterPage pg
      | .granted size base r w =>
        let s1 := if r || w then
            { s with hif := { s.hif with atc := atcAdd s.hif.atc (atcEntry pg size base r w) } } else s
        if (r || !q.needR) && (w || !q.needW) then (s1.delTreq pg).afterPage pg
        else if q.again then (((s1.delTreq pg).kick).failPage pg CplStat.atsFault.code).afterPage pg
        else
          let c := s.fcfg (s.priOf pg.fn)
          if c.priStop then (((s1.delTreq pg).kick).failPage pg CplStat.pageUnresolved.code).afterPage pg
          else if c.priEn then (s1.putTreq { q with wait := .pageSlot }).kick
          else (((s1.delTreq pg).kick).failPage pg CplStat.atsFault.code).afterPage pg

/-- ATS_TRANSLATION_COMPLETION (R224). -/
def doAtsTranslationCompletion (pg : HPage) (res : AtsResult) (s : State) : State :=
  (s.takeTranslation pg res).tlpIn (s.linkOf pg.fn)

/-- PAGE_REQUEST_ISSUE (R225, R472, R479): a page request goes out when the allocation has a slot free. -/
def doPageRequestIssue (pg : HPage) (s : State) : State :=
  match s.treq pg with
  | none => s
  | some q =>
    let p := s.priOf pg.fn
    let out := (s.hif.treqs.filter fun r => r.wait == .pageReq && s.priOf r.pg.fn == p).length
    if q.wait = .pageSlot ∧ s.mayIssue pg.fn = true ∧ out < (s.fcfg p).priAlloc then
      ((s.putTreq { q with wait := .pageReq, since := s.time }).sendTlp (s.linkOf pg.fn) (.pageRequest pg q.needW)).countHost pg.fn 0x08 1
    else s

/-- What a PRG Response does (R224, R225, R472). -/
def State.takePrg (pg : HPage) (code : PrgCode) (s : State) : State :=
  match s.treq pg with
  | none => s.aer pg.fn 3
  | some q =>
    if q.wait ≠ .pageReq then s.aer pg.fn 3
    else
      match code with
      | .success => s.askAgain q true
      | .invalidRequest => ((s.delTreq pg).failPage pg CplStat.pageUnresolved.code).afterPage pg
      | .responseFailure =>
        let p := s.priOf pg.fn
        let s1 := (s.delTreq pg).setFcfg p { s.fcfg p with priStop := true }
        (s1.failPage pg CplStat.pageUnresolved.code).afterPage pg

/-- PRG_RESPONSE (R224, R225, R472). -/
def doPrgResponse (pg : HPage) (code : PrgCode) (s : State) : State := (s.takePrg pg code).tlpIn (s.linkOf pg.fn)

/-- PAGE_REQUEST_TIMEOUT (R224, R225). -/
def doPageRequestTimeout (pg : HPage) (s : State) : State :=
  match s.treq pg with
  | none => s
  | some q =>
    if q.wait = .pageReq ∧ q.since + 1000000 * s.rd R.MEM_PRI_TMO_TMO_MS 0 ≤ s.time then
      ((s.delTreq pg).failPage pg CplStat.pageUnresolved.code).afterPage pg
    else s

/-- PRI_ENABLE (R225, R472). -/
def doPriEnable (pf alloc : Nat) (s : State) : State :=
  if pf < 8 then s.viaCfg pf fun s => s.setFcfg pf { s.fcfg pf with priEn := true, priStop := false, priAlloc := alloc } else s

/-! ### Invalidation (R226, R482) -/

/-- A page of a function lies in the range of an invalidation, and its PASID is the one named. -/
def pageIn (g : HPage) (k fn : Nat) (pasid : Option Nat) (page size : Nat) : Bool :=
  g.fn == fn && g.pasid == pasid
    && decide (g.page * 4096 / 2 ^ k * 2 ^ k < page * 4096 + 2 ^ size ∧ page * 4096 < g.page * 4096 / 2 ^ k * 2 ^ k + 2 ^ k)

/-- What an Invalidate Request does (R226). -/
def State.takeInval (fn tag : Nat) (pasid : Option Nat) (page size : Nat) (s : State) : State :=
  if s.flag R.HIF_FN_STAT_FLR_BUSY fn then s.sendTlp (s.linkOf fn) (.invalidateDone fn tag)
  else if 32 ≤ (s.hif.invals.filter fun v => v.fn == fn).length then s
  else
    let gone := s.hif.atc.filter fun e => pageIn e.pg e.size fn pasid page size
    let reads := (s.hif.reads.filter fun r => match r.2.via with
      | some g => gone.any fun e => e.pg == g
      | none => false).map fun r => r.1
    let stu := 12 + (s.fcfg fn).stu
    ({ s with hif := { s.hif with
      atc := s.hif.atc.filter fun e => !gone.contains e
      treqs := s.hif.treqs.map fun (r : TReq) => if pageIn r.pg stu fn pasid page size then { r with stale := true } else r
      invals := s.hif.invals ++ [(⟨fn, tag, reads⟩ : Inval)] } }).countHost fn 0x09 1

/-- ATS_INVALIDATE_REQUEST (R226). -/
def doAtsInvalidateRequest (fn tag : Nat) (pasid : Option Nat) (page size : Nat) (s : State) : State :=
  (s.takeInval fn tag pasid page size).tlpIn (s.linkOf fn)

/-- INVALIDATION_COMPLETION (R226): every read that used a removed translation has ended. -/
def doInvalidationCompletion (fn tag : Nat) (s : State) : State :=
  match s.hif.invals.find? fun v => v.fn == fn && v.tag == tag with
  | none => s
  | some v =>
    if v.reads.all fun t => (KMap.find s.hif.reads t).isNone then
      ({ s with hif := { s.hif with invals := s.hif.invals.filter fun x => !(x == v) } }).sendTlp (s.linkOf fn) (.invalidateDone fn tag)
    else s

/-! ### Host reads (R474, R475, R477, R480) -/

/-- A read ends: no invalidation waits for it any more. -/
def State.dropRead (s : State) (tag : Nat) : State :=
  { s with hif := { s.hif with
    reads := KMap.del s.hif.reads tag
    invals := s.hif.invals.map fun (v : Inval) => { v with reads := v.reads.filter fun t => t != tag } } }

/-- What the completion of a host read does (R475). -/
def State.takeRead (tag : Nat) (r : HRead) (ok poisoned : Bool) (data : Bytes) (s : State) : State :=
  let s1 := s.dropRead tag
  match r.dead with
  | .bme => (s1.sat R.HIF_FN_STAT_BME_LOST r.fn 1).settleFn r.fn
  | .late => (s1.sat R.HIF_FN_STAT_LATE_CPL r.fn 1).settleFn r.fn
  | .no =>
    let s2 := if poisoned then s1.aer r.fn 4 else s1
    let s3 := if ok && !poisoned then
        (s2.modJob r.job fun j => { j with input := placeAt j.input r.off (sliceB data 0 r.len) }).countHost r.fn 0x04 r.len
      else s2.modJob r.job fun j => j.fail CplStat.dmaReadFault.code
    ((s3.settleJob r.job).kick).settleFn r.fn

/-- HOST_READ_COMPLETION (R475). A completion that no request awaits changes nothing. -/
def doHostReadCompletion (tag : Nat) (ok poisoned : Bool) (data : Bytes) (s : State) : State :=
  match KMap.find s.hif.reads tag with
  | none => s
  | some r => (s.takeRead tag r ok poisoned data).tlpIn (s.linkOf r.fn)

/-- COMPLETION_TIMEOUT (R474): a read, or a translation request, has had no completion in time. -/
def doCompletionTimeout (tag : Nat) (s : State) : State :=
  match KMap.find s.hif.reads tag with
  | some r =>
    if r.dead = .no ∧ r.since + s.cplTimeout r.fn ≤ s.time then
      let s1 := { s with hif := { s.hif with
        reads := KMap.put s.hif.reads tag { r with dead := .late }
        invals := s.hif.invals.map fun (v : Inval) => { v with reads := v.reads.filter fun t => t != tag } } }
      (((s1.aer r.fn 2).modJob r.job fun j => j.fail CplStat.dmaReadFault.code).settleJob r.job).settleFn r.fn
    else s
  | none =>
    match s.hif.treqs.find? fun q => q.wait == .transReq && q.tag == tag with
    | some q =>
      if q.since + s.cplTimeout q.pg.fn ≤ s.time then
        (((s.aer q.pg.fn 2).delTreq q.pg).failPage q.pg CplStat.atsFault.code).afterPage q.pg
      else s
    | none => s

/-! ### The meanings of the rows -/

/-- DMA_RING_ENABLE (R170). -/
def execDmaRingEnable (w : Writer) (cluster : Nat) (r : Nat) (val : Nat) (s : State) : Host.Outcome State Fault Refusal :=
  .next (s.after (doDmaRingEnable w cluster r val s))

/-- DMA_TRANSFER_START (R168). -/
def execDmaTransferStart (cluster : Nat) (ring : Nat) (seq : Nat) (s : State) : Host.Outcome State Fault Refusal :=
  .next (s.after (doDmaTransferStart cluster ring seq s))

/-- DMA_TRANSFER_COMPLETE (R172). -/
def execDmaTransferComplete (cluster : Nat) (ring : Nat) (seq : Nat) (s : State) : Host.Outcome State Fault Refusal :=
  .next (s.after (doDmaTransferComplete cluster ring seq s))

/-- XLF_RESPONSE (R231). -/
def execXlfResponse (w : Writer) (val : Nat) (s : State) : Host.Outcome State Fault Refusal :=
  .next (s.after (doXlfResponse w val s))

/-- XLF_HOLD_TIMEOUT (R231). -/
def execXlfHoldTimeout (cluster : Nat) (hold : Nat) (s : State) : Host.Outcome State Fault Refusal :=
  .next (s.after (doXlfHoldTimeout cluster hold s))

/-- PATROL_SCRUB (R208). -/
def execPatrolScrub (addr : Nat) (upset : Nat) (s : State) : Host.Outcome State Fault Refusal :=
  .next (s.after (doPatrolScrub addr upset s))

/-- TLBI_GO (R221). -/
def execTlbiGo (w : Writer) (val : Nat) (s : State) : Host.Outcome State Fault Refusal :=
  .next (s.after (doTlbiGo w val s))

/-- TLBI_DONE (R221). -/
def execTlbiDone (s : State) : Host.Outcome State Fault Refusal :=
  .next (s.after (doTlbiDone s))

/-- ATS_TRANSLATION_COMPLETION (R224). -/
def execAtsTranslationCompletion (pg : HPage) (res : AtsResult) (s : State) : Host.Outcome State Fault Refusal :=
  .next (s.after (doAtsTranslationCompletion pg res s))

/-- PAGE_REQUEST_ISSUE (R225). -/
def execPageRequestIssue (pg : HPage) (s : State) : Host.Outcome State Fault Refusal :=
  .next (s.after (doPageRequestIssue pg s))

/-- PRG_RESPONSE (R224). -/
def execPrgResponse (pg : HPage) (code : PrgCode) (s : State) : Host.Outcome State Fault Refusal :=
  .next (s.after (doPrgResponse pg code s))

/-- PAGE_REQUEST_TIMEOUT (R224). -/
def execPageRequestTimeout (pg : HPage) (s : State) : Host.Outcome State Fault Refusal :=
  .next (s.after (doPageRequestTimeout pg s))

/-- ATS_INVALIDATE_REQUEST (R226). -/
def execAtsInvalidateRequest (fn : Nat) (tag : Nat) (pasid : Option Nat) (page : Nat) (size : Nat) (s : State) :
    Host.Outcome State Fault Refusal :=
  .next (s.after (doAtsInvalidateRequest fn tag pasid page size s))

/-- INVALIDATION_COMPLETION (R226). -/
def execInvalidationCompletion (fn : Nat) (tag : Nat) (s : State) : Host.Outcome State Fault Refusal :=
  .next (s.after (doInvalidationCompletion fn tag s))

/-- HOST_READ_COMPLETION (R475). -/
def execHostReadCompletion (tag : Nat) (ok : Bool) (poisoned : Bool) (data : Bytes) (s : State) :
    Host.Outcome State Fault Refusal :=
  .next (s.after (doHostReadCompletion tag ok poisoned data s))

/-- COMPLETION_TIMEOUT (R474). -/
def execCompletionTimeout (tag : Nat) (s : State) : Host.Outcome State Fault Refusal :=
  .next (s.after (doCompletionTimeout tag s))

/-- PRI_ENABLE (R225). -/
def execPriEnable (pf : Nat) (alloc : Nat) (s : State) : Host.Outcome State Fault Refusal :=
  .next (s.after (doPriEnable pf alloc s))

end Sys2Proof.Machine
end

