-- ==== Sys2Proof/Machine/Queues.lean ====
section
/-!
DEFINITION. Work queues, descriptors and completions (11_queues.md), with the notices, the quiescence of functions and the Mirror logs
of 12_virtualization.md.
-/

namespace Sys2Proof.Machine

/-! ### Families and who may write a record (R538, R539) -/

/-- A function belongs to the family of a PF. -/
def State.inFamily (s : State) (p f : Nat) : Bool :=
  f == p || (let a := s.rd R.HIF_PF_VF_ACT_FIRST p
    decide (8 ≤ f ∧ a ≤ f ∧ f < a + s.rd R.HIF_PF_VF_ACT_COUNT p))

/-- The PF whose slice a write came through, when the filter of R539 applies to it. -/
def State.filtered (s : State) (w : Writer) : Option Nat :=
  match w with
  | .fn p => if p = 0 ∧ s.holds w .manager = true then none else some p
  | _ => none

/-- A write that the filter refuses is counted (R539). -/
def State.filterRefuse (s : State) (p : Nat) : State := s.sat R.HIF_FN_STAT_BAD_ACCESS p 1

/-- The record of an SQ lies in the range of a PF. -/
def State.sqInRange (s : State) (p q : Nat) : Bool :=
  let a := s.rd R.HIF_PF_QRANGE_SQ_FIRST p
  decide (a ≤ q ∧ q < a + s.rd R.HIF_PF_QRANGE_SQ_NUM p)

/-- The record of a CQ lies in the range of a PF. -/
def State.cqInRange (s : State) (p c : Nat) : Bool :=
  let a := s.rd R.HIF_PF_QRANGE_CQ_FIRST p
  decide (a ≤ c ∧ c < a + s.rd R.HIF_PF_QRANGE_CQ_NUM p)

/-! ### Queue records (R497 to R499, R535, R537) -/

/-- A write of QM_CFG (R497). -/
def State.wrQmCfg (s : State) (val : Nat) : State :=
  if s.flag R.QM_CFG_EN 0 then s
  else
    let s1 := s.setField R.QM_CFG_SPILL_BASE 0 val
    if !bitAt val 0 then s1
    else if inHbm s.part (s1.rd R.QM_CFG_SPILL_BASE 0 * 2 ^ 29) (2 ^ 29) then s1.wrs 0 [(R.QM_CFG_EN, 1), (R.QM_CFG_CFG_ERR, 0)]
    else s1.wr R.QM_CFG_CFG_ERR 0 1

/-- QM_ENABLE (R497). -/
def doQmEnable (w : Writer) (val : Nat) (s : State) : State :=
  if s.mayWrite w (Reg.QM_CFG.off 0) then s.wrQmCfg val else s

/-- SQ doorbells of a function's BAR0 (R454). -/
def sqDoorbells (f : Nat) : Nat := if f < 8 then 65536 else 4096

/-- Another enabled SQ satisfies a condition. -/
def State.otherSq (s : State) (q : Nat) (p : Nat → Bool) : Bool := (s.setBits R.QM_SQ_EN).any fun x => x != q && p x

/-- A write that sets EN of an SQ is refused (R498, R535, R537). -/
def State.sqBad (s : State) (q : Nat) : Bool :=
  let f := s.rd R.QM_SQ_FUNC q
  let l := s.rd R.QM_SQ_LOCAL q
  let c := s.rd R.QM_SQ_CQ q
  let k := s.rd R.QM_SQ_KIND q
  let pair := s.rd R.QM_SQ_PAIR q
  let chan := s.rd R.QM_SQ_CHAN q
  !s.flag R.QM_CFG_EN 0 || decide (s.rd R.QM_SQ_SIZE_LOG2 q < 4) || s.rd R.QM_SQ_WEIGHT q == 0
    || !s.flag R.QM_CQ_EN c || s.rd R.QM_CQ_FUNC c != f
    || s.otherSq q (fun x => s.rd R.QM_SQ_FUNC x == f && s.rd R.QM_SQ_LOCAL x == l)
    || decide (sqDoorbells f ≤ l)
    || (s.flag R.QM_SQ_PAIR_V q
      && !(s.flag R.QM_SQ_EN pair && s.rd R.QM_SQ_KIND pair == 1 && s.rd R.QM_SQ_FUNC pair == f))
    || (k == 3 && (decide (3072 ≤ chan)
      || s.otherSq q (fun x => s.rd R.QM_SQ_KIND x == 3 && s.rd R.QM_SQ_CHAN x == chan)))
    || decide (s.rd R.HIF_FN_ACT_SQ_COUNT f ≤ l) || s.flag R.HIF_FN_ACT_APPLY_ERR f

/-- Set the fields of a record that lie in one of its 64-bit words, those of a list. -/
def State.wrWord (s : State) (fs : List Fld) (i k val : Nat) : State :=
  fs.foldl (fun s f =>
    let v := bitsAt val (f.lo % 64) f.w
    if f.lo / 64 = k ∧ f.admits v = true then s.wr f i v else s) s

/-- The fields of an SQ record that writes set while EN is 0, and while it is 1 (R498). -/
def sqFields : List Fld :=
  [R.QM_SQ_SIZE_LOG2, R.QM_SQ_KIND, R.QM_SQ_FUNC, R.QM_SQ_LOCAL, R.QM_SQ_CQ, R.QM_SQ_WEIGHT, R.QM_SQ_BURST_M1, R.QM_SQ_BASE,
   R.QM_SQ_PAIR, R.QM_SQ_PAIR_V, R.QM_SQ_CHAN, R.QM_SQ_ROUTE, R.QM_SQ_ROUTE_EN, R.QM_SQ_PASID, R.QM_SQ_PV, R.QM_SQ_PMR]
def sqLive : List Fld := [R.QM_SQ_WEIGHT, R.QM_SQ_BURST_M1, R.QM_SQ_ROUTE, R.QM_SQ_ROUTE_EN]

/-- Try to set EN of an SQ (R498). -/
def State.enableSq (s : State) (q : Nat) : State :=
  if s.sqBad q then s.wr R.QM_SQ_CFG_ERR q 1
  else
    (s.wrs q [(R.QM_SQ_EN, 1), (R.QM_SQ_CFG_ERR, 0), (R.QM_SQ_PI, 0), (R.QM_SQ_CI, 0)]).setSqRun q
      { SqRun.fresh with credit := s.rd R.QM_SQ_WEIGHT q }

/-- A write of word `k` of an SQ record (R498). -/
def State.wrSqWord (s : State) (q k val : Nat) : State :=
  if s.flag R.QM_SQ_EN q then s.wrWord sqLive q k val
  else
    let s1 := s.wrWord sqFields q k val
    if k = 0 ∧ bitAt val 0 = true then s1.enableSq q else s1

/-- A write of word `k` of an SQ record by a writer (R496, R539). -/
def State.writeSq (s : State) (w : Writer) (q k val : Nat) : State :=
  if !s.mayWrite w (Reg.QM_SQ.off q) then s
  else
    match s.filtered w with
    | some p =>
      let new := if k = 0 then bitsAt val 8 12 else s.rd R.QM_SQ_FUNC q
      if s.sqInRange p q && s.inFamily p (s.rd R.QM_SQ_FUNC q) && s.inFamily p new then s.wrSqWord q k val else s.filterRefuse p
    | none => s.wrSqWord q k val

/-- SQ_ENABLE (R498): a write of word 0 of an SQ record. -/
def doSqEnable (w : Writer) (q val : Nat) (s : State) : State := if q < 65536 then s.writeSq w q 0 val else s

/-- A write that sets EN of a CQ is refused (R499, R535, R537). -/
def State.cqBad (s : State) (c : Nat) : Bool :=
  let f := s.rd R.QM_CQ_FUNC c
  let l := s.rd R.QM_CQ_LOCAL c
  !s.flag R.QM_CFG_EN 0 || decide (s.rd R.QM_CQ_SIZE_LOG2 c < 4)
    || decide (s.rd R.HIF_FN_ACT_VEC_M1 f < s.rd R.QM_CQ_VECTOR c)
    || (s.setBits R.QM_CQ_EN).any (fun x => x != c && s.rd R.QM_CQ_FUNC x == f && s.rd R.QM_CQ_LOCAL x == l)
    || decide (s.rd R.HIF_FN_ACT_CQ_COUNT f ≤ l) || s.flag R.HIF_FN_ACT_APPLY_ERR f

/-- The fields of a CQ record that writes set while EN is 0, and while it is 1 (R499). -/
def cqFields : List Fld :=
  [R.QM_CQ_SIZE_LOG2, R.QM_CQ_FUNC, R.QM_CQ_VECTOR, R.QM_CQ_IRQ_EN, R.QM_CQ_COAL_CNT, R.QM_CQ_COAL_US, R.QM_CQ_BASE,
   R.QM_CQ_PASID, R.QM_CQ_PV, R.QM_CQ_PMR, R.QM_CQ_LOCAL]
def cqLive : List Fld := [R.QM_CQ_IRQ_EN, R.QM_CQ_COAL_CNT, R.QM_CQ_COAL_US]

/-- A write of word `k` of a CQ record (R499). -/
def State.wrCqWord (s : State) (c k val : Nat) : State :=
  if s.flag R.QM_CQ_EN c then s.wrWord cqLive c k val
  else
    let s1 := s.wrWord cqFields c k val
    if k = 0 ∧ bitAt val 0 = true then
      if s1.cqBad c then s1.wr R.QM_CQ_CFG_ERR c 1
      else
        (s1.wrs c [(R.QM_CQ_EN, 1), (R.QM_CQ_CFG_ERR, 0), (R.QM_CQ_HEAD, 0), (R.QM_CQ_TAIL, 0), (R.QM_CQ_SPILLED, 0),
          (R.QM_CQ_OUTSTANDING, 0)]).setCqRun c CqRun.fresh
    else s1

/-- A write of word `k` of a CQ record by a writer (R496, R539). -/
def State.writeCq (s : State) (w : Writer) (c k val : Nat) : State :=
  if !s.mayWrite w (Reg.QM_CQ.off c) then s
  else
    match s.filtered w with
    | some p =>
      let new := if k = 0 then bitsAt val 6 12 else s.rd R.QM_CQ_FUNC c
      if s.cqInRange p c && s.inFamily p (s.rd R.QM_CQ_FUNC c) && s.inFamily p new then s.wrCqWord c k val else s.filterRefuse p
    | none => s.wrCqWord c k val

/-- CQ_ENABLE (R499): a write of word 0 of a CQ record. -/
def doCqEnable (w : Writer) (c val : Nat) (s : State) : State := if c < 16384 then s.writeCq w c 0 val else s

/-! ### Doorbells (R494, R509 to R511, R522) -/

/-- A memory request to a function's BAR is answered Unsupported Request (R457, R480). -/
def State.barShut (s : State) (f : Nat) : Bool :=
  !(if f < 8 then (s.fcfg f).mse else (s.govern f).vfMse) || s.rd R.HIF_FN_STAT_DSTATE f != 0
    || s.flag R.HIF_FN_STAT_FLR_BUSY f || !s.fnExists f

/-- A request to a BAR: refused while the BAR is shut, else served. -/
def State.viaBar (s : State) (f : Nat) (k : State → State) : State :=
  (if s.barShut f then (s.aer f 5).emit (.unsupportedRequest f) else k s).tlpIn (s.linkOf f)

/-- An access to a reserved BAR offset is counted (R456). -/
def State.badAccess (s : State) (f : Nat) : State := s.sat R.HIF_FN_STAT_BAD_ACCESS f 1

/-- The enabled SQ with a local index of a function. -/
def State.localSq (s : State) (f i : Nat) : Option Nat := (s.sqsOf f).find? fun q => s.rd R.QM_SQ_LOCAL q == i

/-- The enabled CQ with a local index of a function. -/
def State.localCq (s : State) (f i : Nat) : Option Nat := (s.cqsOf f).find? fun c => s.rd R.QM_CQ_LOCAL c == i

/-- A write of an SQ doorbell (R509). -/
def State.ringSq (s : State) (q v : Nat) : State :=
  let f := s.rd R.QM_SQ_FUNC q
  let pi := s.rd R.QM_SQ_PI q
  let a := (v % 65536 + 65536 - pi) % 65536
  if a ≤ 2 ^ s.rd R.QM_SQ_SIZE_LOG2 q - (pi + 65536 - s.rd R.QM_SQ_CI q) % 65536 then
    let s1 := ((s.wr R.QM_SQ_PI q v).countQm f 0x01 1).count 67 0x03 1
    if s.flag R.QM_SQ_ROUTE_EN q then s1.fire 2 (s.rd R.QM_SQ_ROUTE q) else s1
  else
    let s1 := (((s.sat R.QM_SQ_DB_BAD q 1).countQm f 0x02 1).count 67 0x03 1).pfEvent f R.QM_PF_EVT_SQ_DB_BAD
    match s.pfOf f with
    | some p => s1.wr R.QM_PF_EVT_LAST_SQ p q
    | none => s1

/-- SQ_DOORBELL (R509). -/
def doSqDoorbell (fn idx pi : Nat) (s : State) : State :=
  s.viaBar fn fun s => match s.localSq fn idx with
    | some q => s.ringSq q pi
    | none => s.badAccess fn

/-- A pending bit of INTx clears when every CQ of its vector has been acknowledged (R468). -/
def State.ackVector (s : State) (f v : Nat) : State :=
  if (s.fcfg f).msixEn || !decide (f < 8) then s
  else if (s.cqsOf f).all (fun c => s.rd R.QM_CQ_VECTOR c != v || s.rd R.QM_CQ_HEAD c == s.rd R.QM_CQ_TAIL c)
      && s.nvm.cqs.all (fun e => e.2.fn != f || e.2.vec != v || e.2.head == e.2.tail) then
    (s.setPend f v false).intx f
  else s

/-- A write of a CQ head doorbell (R522). -/
def State.ringCq (s : State) (c h : Nat) : State :=
  let f := s.rd R.QM_CQ_FUNC c
  let head := s.rd R.QM_CQ_HEAD c
  let a := (h % 65536 + 65536 - head) % 65536
  if a ≤ (s.rd R.QM_CQ_TAIL c + 65536 - head) % 65536 then
    ((((s.wr R.QM_CQ_HEAD c h).countQm f 0x01 1).count 67 0x03 1).settleCq c).ackVector f (s.rd R.QM_CQ_VECTOR c)
  else
    let s1 := (((s.sat R.QM_CQ_DB_BAD c 1).countQm f 0x02 1).count 67 0x03 1).pfEvent f R.QM_PF_EVT_CQ_DB_BAD
    match s.pfOf f with
    | some p => s1.wr R.QM_PF_EVT_LAST_CQ p c
    | none => s1

/-- CQ_HEAD_DOORBELL (R522). -/
def doCqHeadDoorbell (fn idx head : Nat) (s : State) : State :=
  s.viaBar fn fun s => match s.localCq fn idx with
    | some c => s.ringCq c head
    | none => s.badAccess fn

/-- CQ_OVF_CLR (R522). -/
def doCqOvfClr (fn idx : Nat) (s : State) : State :=
  s.viaBar fn fun s => match s.localCq fn idx with
    | some c => s.wr R.QM_CQ_OVERFLOW c 0
    | none => s.badAccess fn

/-! ### Fetch (R507, R510, R513, R514, R526) -/

/-- The function of a queue may have its work fetched (R477, R485, R513, R541). -/
def State.mayFetch (s : State) (f : Nat) : Bool :=
  s.mayIssue f && !s.flag R.HIF_FN_STAT_TORN f && !s.flag R.HIF_FN_QCTL_QUIESCE f

/-- Descriptors of an SQ that have not been fetched. -/
def State.unfetched (s : State) (q : Nat) : Nat := (s.rd R.QM_SQ_PI q + 65536 - s.rd R.QM_SQ_CI q) % 65536

/-- BURST of an SQ. -/
def State.burst (s : State) (q : Nat) : Nat := s.rd R.QM_SQ_BURST_M1 q + 1

/-- Descriptors that the RECV rule and R526 still take (R513, R514). -/
def State.fetchRoom (s : State) (q : Nat) : Nat :=
  let c := s.rd R.QM_SQ_CQ q
  let r := s.cqFree c + 1024 - (s.rd R.QM_CQ_OUTSTANDING c + s.rd R.QM_CQ_SPILLED c)
  if s.rd R.QM_SQ_KIND q = 1 then Nat.min r (s.burst q - ((s.sqRun q).fetched.length + (s.sqRun q).posted.length)) else r

/-- An SQ is ready (R513); FW queues are not while an activation holds them (R683, R684). -/
def State.sqReady (s : State) (q : Nat) : Bool :=
  s.mayFetch (s.rd R.QM_SQ_FUNC q) && decide (0 < s.unfetched q) && decide (0 < s.fetchRoom q)
    && !(s.rd R.QM_SQ_KIND q == 3 && ((s.sqRun q).waiting || s.sec.fwHeld))

/-- The enabled SQs of a link, from the fetch pointer on, around to it again. -/
def State.linkSqs (s : State) (link : Nat) : List Nat :=
  let p := KMap.getD s.qm.ptr link 0
  let l := (s.setBits R.QM_SQ_EN).filter fun q => s.linkOf (s.rd R.QM_SQ_FUNC q) == link
  l.filter (fun q => decide (p ≤ q)) ++ l.filter fun q => decide (q < p)

/-- The PASID and privileged-mode attribute of an SQ record. -/
def State.sqPasid (s : State) (q : Nat) : Option Nat × Bool :=
  (if s.flag R.QM_SQ_PV q then some (s.rd R.QM_SQ_PASID q) else none, s.flag R.QM_SQ_PMR q)

/-- Put read requests for a range on the link: pieces within 4 KiB and Max_Read_Request_Size (R463). -/
def State.emitReads (s : State) (ha : HAddr) : Nat → Nat → Nat → State
  | 0, _, _ => s
  | fuel + 1, a, n =>
    if n = 0 then s
    else
      let k := Nat.min n (Nat.min (4096 - a % 4096) (128 * 2 ^ (s.fcfg ha.fn).mrrs))
      (((s.sendTlp (s.linkOf ha.fn) (.ringRead { ha with addr := a } k)).tlpIn (s.linkOf ha.fn)).countHost ha.fn 0x04 k).emitReads ha fuel
        (a + k) (n - k)

/-- A fetched descriptor from what its read returned (R506). -/
def fetchedDesc (idx : Nat) (r : ReadResult) : FDesc :=
  match r with
  | .data b => ⟨idx, sliceB b 0 64, none, false, []⟩
  | .failed st => ⟨idx, [], some st, false, []⟩

/-- Fetch `n` descriptors of an SQ (R507, R510). A queue whose PASID may not be used issues no read (R473). -/
def State.fetch (s : State) (link q n : Nat) (reads : List ReadResult) : State :=
  let f := s.rd R.QM_SQ_FUNC q
  let ci := s.rd R.QM_SQ_CI q
  let size := 2 ^ s.rd R.QM_SQ_SIZE_LOG2 q
  let pa := s.sqPasid q
  let barred := s.pasidBad f pa.1 pa.2
  let base := s.rd R.QM_SQ_BASE q * 4096
  let n1 := Nat.min n (size - ci % size)
  let ha : HAddr := ⟨f, 0, false, pa.1, pa.2⟩
  let s1 := if barred then s
    else (s.emitReads ha (64 * n + 1) (base + 64 * (ci % size)) (64 * n1)).emitReads ha (64 * n + 1) base (64 * (n - n1))
  let l := (List.range n).map fun k =>
    fetchedDesc ((ci + k) % 65536) (if barred then .failed CplStat.dmaReadFault.code else reads.getD k (.failed CplStat.dmaReadFault.code))
  let x := s.sqRun q
  let c := s.rd R.QM_SQ_CQ q
  let s2 := (s1.setSqRun q { x with fetched := x.fetched ++ l, credit := x.credit - n }).wr R.QM_SQ_CI q (ci + n)
  let s3 := (s2.wr R.QM_CQ_OUTSTANDING c (s.rd R.QM_CQ_OUTSTANDING c + n)).settleCq c
  { s3 with qm := { s3.qm with ptr := KMap.setD s3.qm.ptr link 0 ((q + 1) % 65536) } }.countQm f 0x03 n

/-- The next SQ to visit: the first ready one with credit. -/
def State.nextSq (s : State) (link : Nat) : Option Nat :=
  (s.linkSqs link).find? fun q => s.sqReady q && decide (0 < (s.sqRun q).credit)

/-- Visit an SQ: at most BURST, its credit and what it has (R514). -/
def State.visit (s : State) (link q : Nat) (reads : List ReadResult) : State :=
  s.fetch link q (Nat.min (Nat.min (s.burst q) (s.sqRun q).credit) (Nat.min (s.unfetched q) (s.fetchRoom q))) reads

/-- FETCH_VISIT (R514). -/
def doFetchVisit (link : Nat) (reads : List ReadResult) (s : State) : State :=
  match s.nextSq link with
  | some q => s.visit link q reads
  | none =>
    let s1 := (s.linkSqs link).foldl (fun s q => s.setSqRun q { s.sqRun q with credit := s.rd R.QM_SQ_WEIGHT q }) s
    match s1.nextSq link with
    | some q => s1.visit link q reads
    | none => s1

/-! ### Checks (R505, R506) -/

/-- A descriptor operation is one of the firmware classes. -/
def isFwOpc (o : Nat) : Bool := decide (0x10 ≤ o ∧ o ≤ 0x1F)

/-- A queue's KIND admits an OPC (R502). -/
def opcFits (o kind : Nat) : Bool :=
  o == 0 || (o == 1 && kind == 0) || (o == 2 && kind == 1) || (o == 8 && kind == 2) || (isFwOpc o && kind == 3)

/-- BUF_LEN of a descriptor. -/
def descLen (d : Bytes) : Nat := leVal (sliceB d 16 4)

/-- BUF_LEN lies within the range of R502. -/
def lenFits (o n : Nat) : Bool :=
  if o = 1 then decide (14 ≤ n ∧ n ≤ 16384) else if o = 2 then decide (64 ≤ n ∧ n ≤ 65536) else decide (64 ≤ n)

/-- The descriptor passes checks 1 to 10 of R505. -/
def descGood (d : Bytes) (kind : Nat) : Bool :=
  let o := leVal (sliceB d 0 1)
  let fl := leVal (sliceB d 1 1)
  let b4 := leVal (sliceB d 4 1)
  let pw := leVal (sliceB d 5 3)
  let addr := leVal (sliceB d 8 8)
  let n := descLen d
  let cnt := leVal (sliceB d 20 2)
  let idx := bitAt fl 2
  let tail0 := leVal (sliceB d 22 2) == 0
  opcFits o kind && (o == 0 || (if isFwOpc o then tail0 else
    decide (fl < 8) && (!idx || o == 8) && decide (b4 ≤ 1)
      && decide (pw < 2 ^ 22) && (bitAt pw 20 || (pw == 0))
      && tail0
      && (if o = 8 then !idx || leVal (sliceB d 34 30) == 0 else leVal (sliceB d 32 32) == 0)
      && lenFits o n
      && (if b4 = 0 then cnt == 0 && decide (addr + n ≤ 2 ^ 64)
          else decide (1 ≤ cnt ∧ cnt ≤ 256) && addr % 16 == 0 && decide (addr + 16 * cnt ≤ 2 ^ 64))))

/-- The entries of a fragment table. -/
def tableFrags (t : Bytes) (cnt : Nat) : List (Nat × Nat) :=
  (List.range cnt).map fun i => (leVal (sliceB t (16 * i) 8), leVal (sliceB t (16 * i + 8) 4))

/-- A fragment table passes checks 11 and 12 of R505. -/
def tableGood (t : Bytes) (cnt n : Nat) : Bool :=
  (List.range cnt).all (fun i => leVal (sliceB t (16 * i + 12) 4) == 0)
    && (tableFrags t cnt).all (fun e => decide (1 ≤ e.2 ∧ e.1 + e.2 ≤ 2 ^ 64))
    && rangeLen (tableFrags t cnt) == n

/-- PASID and privileged-mode attribute of a job (R503). -/
def State.descPasid (s : State) (q : Nat) (d : Bytes) : Option Nat × Bool :=
  let pw := leVal (sliceB d 5 3)
  if bitAt pw 20 then (some (bitsAt pw 0 20), bitAt pw 21) else s.sqPasid q

/-- Every earlier descriptor of an SQ has completed (R500, R515). -/
def State.sqClear (s : State) (q : Nat) : Bool :=
  !(s.jobs.any fun e => match e.2.origin with
    | .sq q1 _ => q1 == q
    | .rx q1 _ => q1 == q
    | _ => false)
    && (s.sqRun q).posted.isEmpty && (s.sqRun q).fwOut == 0

/-- SEND and RECV queues complete in ring order (R515). -/
def State.ordered (s : State) (q : Nat) : Bool := decide (s.rd R.QM_SQ_KIND q ≤ 1)

/-- Replace the descriptor with a ring index among those fetched. -/
def State.putFetched (s : State) (q : Nat) (l : List FDesc) : State := s.setSqRun q { s.sqRun q with fetched := l }

/-- Complete a fetched descriptor at once; on a queue that completes in ring order it waits for the earlier ones (R505, R515). -/
def State.rejectDesc (s : State) (q : Nat) (x : FDesc) (k : State → State) : State :=
  if s.ordered q && !(s.sqClear q && (s.sqRun q).fetched.head? == some x) then s
  else k (s.putFetched q ((s.sqRun q).fetched.filter fun y => !(y == x)))

/-- DESCRIPTOR_CHECK (R505, R506): the oldest descriptor not yet checked. `table_` is what the read of its fragment table returns. -/
def doDescriptorCheck (q : Nat) (table_ : ReadResult) (s : State) : State :=
  match (s.sqRun q).fetched.find? fun x => !x.passed with
  | none => s
  | some x =>
    let d := x.bytes
    let ok := fun (s : State) (fr : List (Nat × Nat)) =>
      s.putFetched q ((s.sqRun q).fetched.map fun y => if y = x then { y with passed := true, frags := fr } else y)
    match x.bad with
    | some st => s.rejectDesc q x fun s => s.completeUnread q st
    | none =>
      let o := leVal (sliceB d 0 1)
      if !descGood d (s.rd R.QM_SQ_KIND q) then s.rejectDesc q x fun s => s.complete q d CplStat.malformed.code 0 0
      else if o = 0 ∨ isFwOpc o = true then ok s []
      else if leVal (sliceB d 4 1) = 0 then ok s [(leVal (sliceB d 8 8), descLen d)]
      else
        let f := s.rd R.QM_SQ_FUNC q
        let pa := s.descPasid q d
        let cnt := leVal (sliceB d 20 2)
        if s.pasidBad f pa.1 pa.2 then s.rejectDesc q x fun s => s.complete q d CplStat.dmaReadFault.code 0 0
        else
          let s1 := s.emitReads ⟨f, 0, false, pa.1, pa.2⟩ (16 * cnt + 1) (leVal (sliceB d 8 8)) (16 * cnt)
          match table_ with
          | .failed st => s1.rejectDesc q x fun s => s.complete q d st 0 0
          | .data t =>
            if tableGood t cnt (descLen d) then ok s1 (tableFrags t cnt)
            else s1.rejectDesc q x fun s => s.complete q d CplStat.fragTableBad.code 0 0

/-! ### Handing on (R502, R515) -/

/-- The descriptor that an SQ may hand on: the oldest fetched, checked, with an OPC that `p` admits, and FENCE satisfied. -/
def State.handOn (s : State) (q : Nat) (p : Nat → Bool) : Option (FDesc × State) :=
  match (s.sqRun q).fetched with
  | [] => none
  | x :: r =>
    if x.passed && p (leVal (sliceB x.bytes 0 1)) && (!bitAt (leVal (sliceB x.bytes 1 1)) 1 || s.sqClear q)
        && s.flag R.QM_SQ_EN q then some (x, s.putFetched q r)
    else none

/-- The job of a descriptor. -/
def State.descJob (s : State) (q : Nat) (x : FDesc) : Job :=
  let pa := s.descPasid q x.bytes
  { Job.fresh (.sq q x.idx) with
    opc := leVal (sliceB x.bytes 0 1), desc := x.bytes, fn := some (s.rd R.QM_SQ_FUNC q), pasid := pa.1, pmr := pa.2
    src := .host x.frags }

/-- DESC_NOP (R502). -/
def doDescNop (q : Nat) (s : State) : State :=
  match s.handOn q fun o => o == 0 with
  | some (x, s1) => if s.ordered q && !s.sqClear q then s else s1.complete q x.bytes 0 0 0
  | none => s

/-- ETH_SEND (R502): the frame is fetched. -/
def doEthSend (q : Nat) (s : State) : State :=
  match s.handOn q fun o => o == 1 with
  | some (x, s1) =>
    let a := s1.addJob (s1.descJob q x)
    (a.2.startJob a.1).pump a.1
  | none => s

/-- The oldest job of an SQ. -/
def State.oldestSq (s : State) (q : Nat) : Option Nat :=
  (s.jobs.find? fun e => match e.2.origin with
    | .sq q1 _ => q1 == q
    | _ => false).map fun e => e.1

/-- ETH_SEND_COMPLETE (R495, R502, R515, R317): the frame is whole and finds cells; it waits for them. -/
def doEthSendComplete (job : Nat) (s : State) : State :=
  match KMap.find s.jobs job with
  | none => s
  | some j => match j.origin with
    | .sq q _ =>
      if j.opc ≠ 1 ∨ j.torn = true ∨ s.oldestSq q ≠ some job then s
      else
        match j.status with
        | some st => ((s.forgetJob job).endJob job).complete q j.desc st 0 0
        | none =>
          let n := j.src.len
          if s.avail job j < n then s
          else
            let port := s.hostPort (s.rd R.QM_SQ_FUNC q)
            let paired := s.flag R.QM_SQ_PAIR_V q
            match s.newFrame { Pkt.fresh with
                pipe := Config.hostPipe port % 4, src := 16 + port, data := j.input.take n
                locKind := if paired then 2 else 0, locDest := if paired then s.rd R.QM_SQ_PAIR q else 0 } with
            | none => s
            | some (g, s1) => ((s1.endJob job).enterPrism g).complete q j.desc 0 n 0
    | _ => s

/-- RX_POST (R517): a receive buffer is posted; a function that returns its buffers gets it back at once (R542). -/
def doRxPost (q : Nat) (s : State) : State :=
  match s.handOn q fun o => o == 2 with
  | some (x, s1) => (s1.setSqRun q { s1.sqRun q with posted := (s1.sqRun q).posted ++ [x] }).returnRx q
  | none => s

/-- FW_REQUEST (R519): a FW descriptor is committed to the queue's channel, or waits for room, or completes FW_NO_SERVICE. -/
def doFwRequest (q : Nat) (s : State) : State :=
  match s.handOn q isFwOpc with
  | none => s
  | some (x, s1) =>
    let chan := s.rd R.QM_SQ_CHAN q
    let msg := x.bytes.take 22 ++ leBytes 2 (s.rd R.QM_SQ_GEN q) ++ x.bytes.drop 24
    if !s.flag R.LTN_CH_CFG_ENABLE chan then
      (s1.setSqRun q { s1.sqRun q with waiting := false }).complete q x.bytes 0x80 0 0
    else if s.chanRoom chan then
      (s1.setSqRun q { s1.sqRun q with waiting := false, fwOut := (s1.sqRun q).fwOut + 1 }).hwCommit chan (segWords msg)
    else s.setSqRun q { s.sqRun q with waiting := true }

/-- AUX of a delivered frame (R516). -/
def rxAux (f : Pkt) : Nat :=
  f.h % 2 ^ 32 + f.prof % 64 * 2 ^ 32 + bitsAt f.key 6 2 * 2 ^ 38 + f.src % 64 * 2 ^ 40 + b2n (f.recirc != 0) * 2 ^ 46

/-- The first `n` bytes of a list of ranges. -/
def cutRanges : List (Nat × Nat) → Nat → List (Nat × Nat)
  | [], _ => []
  | (a, k) :: r, n => if n = 0 then [] else (a, Nat.min k n) :: cutRanges r (n - k)

/-- RX_FRAME_DELIVER (R516, R518, R55): the oldest frame for a receive queue is written into its oldest buffer. -/
def doRxFrameDeliver (q : Nat) (badSegment : Option Nat) (s : State) : State :=
  match KMap.getD s.tm.rxq q [], (s.sqRun q).posted with
  | f :: fr, x :: xr =>
    let s1 := { s with tm := { s.tm with rxq := KMap.setD s.tm.rxq q [] fr } }
    if descLen x.bytes < f.data.length then (s1.sat R.QM_SQ_RX_OVERSIZE q 1).freeFrame f
    else
      let fn := s.rd R.QM_SQ_FUNC q
      let bad := match badSegment with
        | some g => if g < segmentsOf f.data.length then some (256 * g) else none
        | none => none
      let s2 := if bad.isSome then s1.carryFault (unitId 12 (s.hostPort fn)) else s1
      let s3 := s2.setSqRun q { s2.sqRun q with posted := xr }
      let j : Job := { s3.descJob q x with
        origin := .rx q x.idx, src := .none_, dst := .host (cutRanges x.frags f.data.length), output := f.data
        badFrom := bad, aux := rxAux f, frame := some f.handle }
      let a := s3.addJob j
      (a.2.startJob a.1).settleRx a.1 q
  | _, _ => s

/-! ### Firmware completions, spill and coalescing (R520, R523, R525) -/

/-- A write of QM_FW_CPL_CTL (R520). -/
def State.wrFwCpl (s : State) (val : Nat) : State :=
  let s1 := (s.setField R.QM_FW_CPL_CTL_SQ 0 val).setField R.QM_FW_CPL_CTL_GEN 0 val
  if !bitAt val 24 then s1
  else
    let q := s1.rd R.QM_FW_CPL_CTL_SQ 0
    let c := s1.rd R.QM_SQ_CQ q
    let b := (List.range 4).flatMap fun k => leBytes 8 (s1.rd R.QM_FW_CPL_DATA_DATA k)
    let st := leVal (sliceB b 26 1)
    if !s1.flag R.QM_SQ_EN q || s1.rd R.QM_SQ_KIND q != 3 || s1.rd R.QM_SQ_GEN q != s1.rd R.QM_FW_CPL_CTL_GEN 0
        || s1.rd R.QM_CQ_OUTSTANDING c == 0 then s1.wr R.QM_FW_CPL_CTL_RESULT 0 1
    else if 0x10 ≤ st ∧ st ≤ 0x7F then s1.wr R.QM_FW_CPL_CTL_RESULT 0 2
    else
      let e := b.take 22 ++ leBytes 2 (s1.rd R.QM_SQ_LOCAL q) ++ leBytes 2 (s1.rd R.QM_SQ_CI q) ++ (b.drop 26).take 5 ++ [0]
      let x := s1.sqRun q
      ((s1.wr R.QM_FW_CPL_CTL_RESULT 0 0).setSqRun q { x with fwOut := x.fwOut - 1 }).post c e false

/-- FW_COMPLETION_POST (R520). -/
def doFwCompletionPost (w : Writer) (val : Nat) (s : State) : State :=
  if s.mayWrite w (Reg.QM_FW_CPL_CTL.off 0) then s.wrFwCpl val else s

/-- Move the oldest spilled entry of a CQ into the ring (R525); one that reads poisoned keeps only the count. -/
def State.moveSpill (s : State) (c : Nat) : State :=
  let n := s.rd R.QM_CQ_SPILLED c
  let f := s.rd R.QM_CQ_FUNC c
  if n = 0 ∨ s.cqFree c = 0 ∨ s.mayIssue f = false then s
  else
    let x := s.cqRun c
    let a := s.spillAddr c (x.spillAt + 1024 - n)
    let bad := s.badRange a 32
    let e := if bad then entryBytes 0 0 0 0 0 0 CplStat.carryCheck.code 0 true else s.bytes a 32
    let s1 := if bad then (s.countPoison a 32).report (memUnit s.part a) .eccUe (bitsAt a 6 32) else s
    let s2 := (s1.setCqRun c { x with nows := x.nows.drop 1 }).wr R.QM_CQ_SPILLED c (n - 1)
    ((s2.ringEntry c e (x.nows.headD false) true).settleCq c).settleFn f

/-- SPILL_MOVE (R408, R525). -/
def doSpillMove (c : Nat) (s : State) : State := if s.flag R.QM_CQ_EN c then s.moveSpill c else s.moveNvmeSpill c

/-- COAL_TIMER_EXPIRE (R523); for a controller's queue, the time of the Interrupt Coalescing feature. -/
def doCoalTimerExpire (c : Nat) (s : State) : State :=
  match (s.cqRun c).first with
  | some t =>
    let us := s.rd R.QM_CQ_COAL_US c
    if s.flag R.QM_CQ_EN c && s.flag R.QM_CQ_IRQ_EN c && decide (us ≠ 0 ∧ t + 1000 * us ≤ s.time) then s.cqMessage c else s
  | none => match KMap.find s.nvm.cqs c with
    | some q =>
      let x := s.nctl q.fn
      match KMap.find x.coal q.vec with
      | some e =>
        if e.2 + 100000 * x.tim ≤ s.time then (s.setNctl q.fn { x with coal := KMap.del x.coal q.vec }).msix q.fn q.vec else s
      | none => s
    | none => s

/-! ### Notices and quiescence (R540 to R543) -/

/-- FUNC_NOTICE_COMMIT (R540). -/
def doFuncNoticeCommit (s : State) : State :=
  match s.hif.notices with
  | [] => s
  | (w, t) :: r =>
    let chan := s.rd R.HIF_NOTICE_CFG_CHAN 0
    let s1 := ({ s with hif := { s.hif with notices := r } }).noticeCount
    if !s.flag R.LTN_CH_CFG_ENABLE chan then s1.noticeLost
    else if s.chanRoom chan then s1.hwCommit chan [w, t]
    else s

/-- Set QUIESCE of a function (R541, R542). -/
def State.quiesce (s : State) (f : Nat) (ret : Bool) : State :=
  let s1 := if s.flag R.HIF_FN_QCTL_QUIESCE f then s else s.wr R.HIF_FN_QCTL_RX_DROP f 0
  let s2 := (s1.wr R.HIF_FN_QCTL_QUIESCE f 1).setFlag R.HIF_FN_QCTL_RX_RETURN f ret
  ((s2.sqsOf f).foldl (fun s q => if s.rd R.QM_SQ_KIND q = 1 then s.returnRx q else s) s2).settleFn f

/-- Clear QUIESCE of a function (R541). -/
def State.unquiesce (s : State) (f : Nat) : State := (s.wr R.HIF_FN_QCTL_QUIESCE f 0).settleFn f

/-- A write of a per-function record passes R458 and R539, or is counted. -/
def State.viaFn (s : State) (w : Writer) (off f : Nat) (k : State → State) : State :=
  if !s.mayWrite w off then s
  else
    match s.filtered w with
    | some p => if s.inFamily p f then k s else s.filterRefuse p
    | none => k s

/-- QUIESCE_SET (R541, R542). -/
def doQuiesceSet (w : Writer) (fn : Nat) (rxReturn : Bool) (s : State) : State :=
  if fn < 4096 then s.viaFn w (Reg.HIF_FN_QCTL.off fn) fn fun s => s.quiesce fn rxReturn else s

/-- QUIESCE_CLEAR (R541). -/
def doQuiesceClear (w : Writer) (fn : Nat) (s : State) : State :=
  if fn < 4096 then s.viaFn w (Reg.HIF_FN_QCTL.off fn) fn fun s => s.unquiesce fn else s

/-! ### Mirror logs (R549, R550) -/

/-- A Mirror log cannot be enabled as it is set up (R550). -/
def State.mirBad (s : State) (m : Nat) : Bool :=
  let n := 16 * 2 ^ s.rd R.HIF_MIR_CFG_SIZE_LOG2 m
  let buf := fun b =>
    let a := s.rd R.HIF_MIR_BUF_BASE (2 * m + b) * 4096
    inHbm s.part a n && a % n == 0
  !(buf 0 && buf 1)
    || (List.range 64).any fun k => k != m && s.flag R.HIF_MIR_CFG_EN k && s.rd R.HIF_MIR_CFG_FUNC k == s.rd R.HIF_MIR_CFG_FUNC m

/-- A write of HIF_MIR_CFG (R550). -/
def State.wrMirCfg (s : State) (m val : Nat) : State :=
  let on := bitAt val 12
  if s.flag R.HIF_MIR_CFG_EN m then (if on then s else s.wr R.HIF_MIR_CFG_EN m 0)
  else
    let s1 := ((s.setField R.HIF_MIR_CFG_FUNC m val).setField R.HIF_MIR_CFG_GRAN m val).setField R.HIF_MIR_CFG_SIZE_LOG2 m val
    if !on then s1
    else if s1.mirBad m then s1.wr R.HIF_MIR_CFG_CFG_ERR m 1
    else
      (s1.wrs m [(R.HIF_MIR_CFG_EN, 1), (R.HIF_MIR_CFG_CFG_ERR, 0), (R.HIF_MIR_CTL_ACTIVE, 0), (R.HIF_MIR_STAT_HARVESTED, 0),
        (R.HIF_MIR_STAT_LIVE, 0), (R.HIF_MIR_STAT_FULL, 0)]).setMir m { s1.mir m with filter := [] }

/-- MIRROR_ENABLE (R550). -/
def doMirrorEnable (w : Writer) (m val : Nat) (s : State) : State :=
  if m < 64 ∧ s.mayWrite w (Reg.HIF_MIR_CFG.off m) = true then s.wrMirCfg m val else s

/-- A write of HARVEST (R549). -/
def State.harvest (s : State) (m : Nat) : State :=
  if s.flag R.HIF_MIR_CTL_BUSY m then s.wr R.HIF_MIR_CTL_REFUSED m 1
  else
    let f := s.rd R.HIF_MIR_CFG_FUNC m
    let full := s.flag R.HIF_MIR_STAT_FULL m
    let s1 := s.wrs m [(R.HIF_MIR_STAT_HARVESTED, s.rd R.HIF_MIR_STAT_LIVE m), (R.HIF_MIR_STAT_LIVE, 0), (R.HIF_MIR_STAT_FULL, 0),
      (R.HIF_MIR_CTL_ACTIVE, 1 - s.rd R.HIF_MIR_CTL_ACTIVE m), (R.HIF_MIR_CTL_BUSY, 1), (R.HIF_MIR_CTL_REFUSED, 0)]
    if s.mayIssue f then
      let c := (s.cqsOf f).head?
      let j : Job := { Job.fresh (.flush m) with
        fn := some f
        pasid := match c with
          | some c => if s.flag R.QM_CQ_PV c then some (s.rd R.QM_CQ_PASID c) else none
          | none => none
        pmr := match c with
          | some c => s.flag R.QM_CQ_PMR c
          | none => false
        src := .host [(s.rd R.HIF_MIR_FLUSH_ADDR m * 4, 1)] }
      let a := (s1.setMir m ⟨[], full, some s.nextJob, s.time⟩).addJob j
      (a.2.startJob a.1).pump a.1
    else s1.setMir m ⟨[], full, none, s.time⟩

/-- HARVEST (R549). -/
def doHarvest (w : Writer) (m : Nat) (s : State) : State :=
  if m < 64 ∧ s.mayWrite w (Reg.HIF_MIR_CTL.off m) = true then s.harvest m else s

/-- A harvest ends with a RESULT; FULL goes before NO_FLUSH (R549). -/
def State.harvestEnd (s : State) (m result : Nat) : State :=
  let x := s.mir m
  let s1 := match x.job with
    | some n => (s.forgetJob n).endJob n
    | none => s
  (s1.setMir m { x with job := none }).wrs m [(R.HIF_MIR_CTL_BUSY, 0), (R.HIF_MIR_CTL_RESULT, if x.full then 1 else result)]

/-- HARVEST_DONE (R549): the flush read has completed. -/
def doHarvestDone (m : Nat) (s : State) : State :=
  match (s.mir m).job with
  | some n => match KMap.find s.jobs n with
    | some j => if s.flag R.HIF_MIR_CTL_BUSY m && j.status.isNone && decide (1 ≤ s.avail n j) then s.harvestEnd m 0 else s
    | none => s
  | none => s

/-- HARVEST_NO_FLUSH (R549): 2 µs after the harvest, its flush read is impossible or has failed. -/
def doHarvestNoFlush (m : Nat) (s : State) : State :=
  let failed := match (s.mir m).job with
    | some n => match KMap.find s.jobs n with
      | some j => j.status.isSome || (decide (j.got = 0) && !s.mayIssue (s.rd R.HIF_MIR_CFG_FUNC m))
      | none => true
    | none => true
  if s.flag R.HIF_MIR_CTL_BUSY m && failed && decide ((s.mir m).began + 2000 ≤ s.time) then s.harvestEnd m 2 else s

/-! ### The meanings of the rows -/

/-- QM_ENABLE (R497). -/
def execQmEnable (w : Writer) (val : Nat) (s : State) : Host.Outcome State Fault Refusal :=
  .next (s.after (doQmEnable w val s))

/-- SQ_ENABLE (R498). -/
def execSqEnable (w : Writer) (q : Nat) (val : Nat) (s : State) : Host.Outcome State Fault Refusal :=
  .next (s.after (doSqEnable w q val s))

/-- CQ_ENABLE (R499). -/
def execCqEnable (w : Writer) (c : Nat) (val : Nat) (s : State) : Host.Outcome State Fault Refusal :=
  .next (s.after (doCqEnable w c val s))

/-- SQ_DOORBELL (R509). -/
def execSqDoorbell (fn : Nat) (idx : Nat) (pi : Nat) (s : State) : Host.Outcome State Fault Refusal :=
  .next (s.after (doSqDoorbell fn idx pi s))

/-- CQ_HEAD_DOORBELL (R522). -/
def execCqHeadDoorbell (fn : Nat) (idx : Nat) (head : Nat) (s : State) : Host.Outcome State Fault Refusal :=
  .next (s.after (doCqHeadDoorbell fn idx head s))

/-- CQ_OVF_CLR (R522). -/
def execCqOvfClr (fn : Nat) (idx : Nat) (s : State) : Host.Outcome State Fault Refusal :=
  .next (s.after (doCqOvfClr fn idx s))

/-- FETCH_VISIT (R514). -/
def execFetchVisit (link : Nat) (reads : List ReadResult) (s : State) : Host.Outcome State Fault Refusal :=
  .next (s.after (doFetchVisit link reads s))

/-- DESCRIPTOR_CHECK (R505). -/
def execDescriptorCheck (q : Nat) (table_ : ReadResult) (s : State) : Host.Outcome State Fault Refusal :=
  .next (s.after (doDescriptorCheck q table_ s))

/-- DESC_NOP (R502). -/
def execDescNop (q : Nat) (s : State) : Host.Outcome State Fault Refusal :=
  .next (s.after (doDescNop q s))

/-- ETH_SEND (R502). -/
def execEthSend (q : Nat) (s : State) : Host.Outcome State Fault Refusal :=
  .next (s.after (doEthSend q s))

/-- ETH_SEND_COMPLETE (R502). -/
def execEthSendComplete (job : Nat) (s : State) : Host.Outcome State Fault Refusal :=
  .next (s.after (doEthSendComplete job s))

/-- RX_POST (R517). -/
def execRxPost (q : Nat) (s : State) : Host.Outcome State Fault Refusal :=
  .next (s.after (doRxPost q s))

/-- FW_REQUEST (R519). -/
def execFwRequest (q : Nat) (s : State) : Host.Outcome State Fault Refusal :=
  .next (s.after (doFwRequest q s))

/-- RX_FRAME_DELIVER (R516). -/
def execRxFrameDeliver (q : Nat) (badSegment : Option Nat) (s : State) : Host.Outcome State Fault Refusal :=
  .next (s.after (doRxFrameDeliver q badSegment s))

/-- FW_COMPLETION_POST (R520). -/
def execFwCompletionPost (w : Writer) (val : Nat) (s : State) : Host.Outcome State Fault Refusal :=
  .next (s.after (doFwCompletionPost w val s))

/-- SPILL_MOVE (R525). -/
def execSpillMove (c : Nat) (s : State) : Host.Outcome State Fault Refusal :=
  .next (s.after (doSpillMove c s))

/-- COAL_TIMER_EXPIRE (R523). -/
def execCoalTimerExpire (c : Nat) (s : State) : Host.Outcome State Fault Refusal :=
  .next (s.after (doCoalTimerExpire c s))

/-- FUNC_NOTICE_COMMIT (R540). -/
def execFuncNoticeCommit (s : State) : Host.Outcome State Fault Refusal :=
  .next (s.after (doFuncNoticeCommit s))

/-- QUIESCE_SET (R541). -/
def execQuiesceSet (w : Writer) (fn : Nat) (rxReturn : Bool) (s : State) : Host.Outcome State Fault Refusal :=
  .next (s.after (doQuiesceSet w fn rxReturn s))

/-- QUIESCE_CLEAR (R541). -/
def execQuiesceClear (w : Writer) (fn : Nat) (s : State) : Host.Outcome State Fault Refusal :=
  .next (s.after (doQuiesceClear w fn s))

/-- MIRROR_ENABLE (R550). -/
def execMirrorEnable (w : Writer) (m : Nat) (val : Nat) (s : State) : Host.Outcome State Fault Refusal :=
  .next (s.after (doMirrorEnable w m val s))

/-- HARVEST (R549). -/
def execHarvest (w : Writer) (m : Nat) (s : State) : Host.Outcome State Fault Refusal :=
  .next (s.after (doHarvest w m s))

/-- HARVEST_DONE (R549). -/
def execHarvestDone (m : Nat) (s : State) : Host.Outcome State Fault Refusal :=
  .next (s.after (doHarvestDone m s))

/-- HARVEST_NO_FLUSH (R549). -/
def execHarvestNoFlush (m : Nat) (s : State) : Host.Outcome State Fault Refusal :=
  .next (s.after (doHarvestNoFlush m s))

end Sys2Proof.Machine
end

