-- ==== Sys2Proof/Machine/Glint.lean ====
section
/-!
DEFINITION. Glint (08_glint_cipher.md): the choice of a cluster, keys and their cache, context records, look-aside jobs, and inline
IPsec ESP and MACsec.
-/

namespace Sys2Proof.Machine

/-! ### State access -/

/-- Change Glint. -/
def State.modGlint (s : State) (f : Glint → Glint) : State := { s with glint := f s.glint }

/-- Count an event of a logical cluster (R628). -/
def State.countGlint (s : State) (c ev n : Nat) : State := s.countSub (26 + c / 8) ev (c % 8) n

/-! ### Clusters (R365, R378, R381) -/

/-- JOBS of a cluster moves by one. -/
def State.jobIn (s : State) (c : Nat) : State := s.sat R.GLT_CL_STAT_JOBS c 1
def State.jobOut (s : State) (c : Nat) : State := s.wr R.GLT_CL_STAT_JOBS c (s.rd R.GLT_CL_STAT_JOBS c - 1)

/-- A cluster is lit and in service. -/
def State.clLit (s : State) (c : Nat) : Bool := s.rd R.GLT_CL_STAT_POWER c == 0 && !s.flag R.GLT_CL_STAT_OUT c

/-- The lit cluster with the fewest jobs that starts new work, the lower one of equals. -/
def State.leastCluster (s : State) : Option Nat :=
  ((List.range 32).filter fun c => s.clLit c && !s.glint.stopped.contains c).foldl (fun b c => match b with
    | none => some c
    | some d => if s.rd R.GLT_CL_STAT_JOBS c < s.rd R.GLT_CL_STAT_JOBS d then some c else some d) none

/-- Choose the cluster for a job or a request (R365): one more is lit when every lit one holds 32. `none`: every cluster has stopped
(R378). -/
def State.chooseCluster (s : State) : Option Nat × State :=
  let busy := (List.range 32).all fun c => !s.clLit c || decide (32 ≤ s.rd R.GLT_CL_STAT_JOBS c) || s.glint.stopped.contains c
  let dark := (List.range 32).find? fun c =>
    s.rd R.GLT_CL_STAT_POWER c != 0 && !s.flag R.GLT_CL_STAT_OUT c && !s.glint.stopped.contains c
  let s1 := match busy, dark with
    | true, some c => s.wakeBlock (117 + c)
    | _, _ => s
  (s1.leastCluster, s1)

/-- The outputs of a logical cluster are held: its physical cluster waits to be replaced (R613, R615). -/
def State.clHeld (s : State) (c : Nat) : Bool :=
  s.lhs.swq.any fun u => u / 2048 == 1 && s.rd R.LHS_UNIT_STAT_LOGICAL u == c

/-- The home cluster of a record (R381): the next one upwards that is not OUT. -/
def State.home (s : State) (n : Nat) : Nat :=
  (((List.range 32).map fun k => (n + k) % 32).find? fun c => !s.flag R.GLT_CL_STAT_OUT c).getD (n % 32)

/-! ### Keys (R369 to R375) -/

/-- Who asks for a key (R370). -/
inductive Asker where
  | crypt (pl1 : Bool)
  | inline
  | host (f : Nat)
  deriving DecidableEq, Repr

/-- A use of a slot is granted (R370). -/
def State.granted (s : State) (slot : Nat) (a : Asker) : Bool :=
  s.rd R.GLT_ROOT_STATE slot == 1 &&
    match a with
    | .crypt true => s.flag R.GLT_ROOT_ALLOW_PL1 slot
    | .crypt false => s.flag R.GLT_ROOT_ALLOW_PL0 slot
    | .inline => s.flag R.GLT_ROOT_ALLOW_INLINE slot
    | .host f => match s.pfOf f with
      | some p => (if f < 8 then s.flag R.GLT_ROOT_ALLOW_PF slot else s.flag R.GLT_ROOT_ALLOW_VF slot)
          && bitAt (s.rd R.GLT_ROOT_PF_MASK slot) p
      | none => false

/-- Entries of a cluster's derived-key cache (R374). -/
def cacheMax : Nat := 4096

/-- Take the key of a label in a cluster (R372, R374): the 64 bytes Z. A hit and a derivation count apart. -/
def State.takeKey (s : State) (c : Nat) (label : Bytes) (fn : Nat) : Bytes × State :=
  let slot := labelSlot label
  let binding := if s.flag R.GLT_ROOT_BIND slot then fn else 0xFFFF
  let tag := (label, binding, s.rd R.GLT_ROOT_GEN slot)
  let l := KMap.getD s.glint.cache c []
  let hit := l.contains tag
  let l1 := (l.filter fun t => !(t == tag)) ++ [tag]
  let s1 := s.modGlint fun g => { g with cache := KMap.setD g.cache c [] (l1.drop (l1.length - cacheMax)) }
  (deriveZ (KMap.getD s.glint.roots slot (zeros 32)) label binding, s1.countGlint c (if hit then 0x05 else 0x04) 1)

/-- Every cluster drops what it cached of a slot (R375). -/
def State.dropSlot (s : State) (slot : Nat) : State :=
  let cut := fun (e : Nat × List (Bytes × Nat × Nat)) => (e.1, e.2.filter fun t => labelSlot t.1 != slot)
  s.modGlint fun g => { g with cache := (g.cache.map cut).filter fun e => !e.2.isEmpty }

/-- Set DISABLE and STATE of a slot (R369). -/
def State.setDisable (s : State) (slot : Nat) (b : Bool) : State :=
  let s1 := s.setFlag R.GLT_ROOT_DISABLE slot b
  if (KMap.find s.glint.roots slot).isNone then s1 else (s1.wr R.GLT_ROOT_STATE slot (if b then 2 else 1)).dropSlot slot

/-- A write of GLT_ROOT (R369, R375): a change of DISABLE changes STATE. -/
def State.wrRoot (s : State) (w : Writer) (slot val : Nat) : State :=
  let s1 := s.wrReg w Reg.GLT_ROOT slot val
  if s.rd R.GLT_ROOT_DISABLE slot = s1.rd R.GLT_ROOT_DISABLE slot then s1
  else s1.setDisable slot (s1.flag R.GLT_ROOT_DISABLE slot)

/-- ROOT_SLOT_DISABLE (R375): a write of GLT_ROOT_s. -/
def doRootSlotDisable (w : Writer) (slot val : Nat) (s : State) : State :=
  if slot < 16 ∧ s.mayWrite w (Reg.GLT_ROOT.off slot) = true then
    if s.holds w .keys then s.setting w (Reg.GLT_ROOT.off slot) val fun s => s.wrRoot w slot val else s.refuse w (Reg.GLT_ROOT.off slot)
  else s

/-- Load a slot (R369): GEN counts it; a DISABLE that stands keeps it disabled. -/
def State.loadSlot (s : State) (slot : Nat) (key : Bytes) : State :=
  ((s.modGlint fun g => { g with roots := KMap.put g.roots slot key }).wrs slot
    [(R.GLT_ROOT_STATE, if s.flag R.GLT_ROOT_DISABLE slot then 2 else 1),
     (R.GLT_ROOT_GEN, s.rd R.GLT_ROOT_GEN slot + 1)]).dropSlot slot

/-- Erase a slot (R369). -/
def State.eraseSlot (s : State) (slot : Nat) : State :=
  ((s.modGlint fun g => { g with roots := KMap.del g.roots slot }).wrs slot
    [(R.GLT_ROOT_STATE, 0), (R.GLT_ROOT_GEN, s.rd R.GLT_ROOT_GEN slot + 1)]).dropSlot slot

/-! ### Context records (R379 to R383) -/

/-- A write of GLT_CTX_BASE (R379). -/
def State.wrCtxBase (s : State) (val : Nat) : State :=
  let on := bitAt val 0
  if s.flag R.GLT_CTX_BASE_EN 0 then (if on then s else s.wr R.GLT_CTX_BASE_EN 0 0)
  else
    let s1 := s.setField R.GLT_CTX_BASE_BASE 0 val
    if !on then s1
    else if inHbm s.part (s1.rd R.GLT_CTX_BASE_BASE 0 * 2 ^ 23) (2 ^ 23) then
      s1.wrs 0 [(R.GLT_CTX_BASE_EN, 1), (R.GLT_CTX_BASE_CFG_ERR, 0)]
    else s1.wr R.GLT_CTX_BASE_CFG_ERR 0 1

/-- CTX_TABLE_ENABLE (R379). -/
def doCtxTableEnable (w : Writer) (val : Nat) (s : State) : State :=
  if s.mayWrite w (Reg.GLT_CTX_BASE.off 0) then s.wrCtxBase val else s

/-- Address of a record. -/
def State.ctxAddr (s : State) (n : Nat) : Nat := s.rd R.GLT_CTX_BASE_BASE 0 * 2 ^ 23 + 128 * n

/-- A record as it stands: the copy of its home cluster, or HBM; `none` when a word of it reads poisoned. -/
def State.ctxRec (s : State) (n : Nat) : Option Bytes :=
  match KMap.find s.glint.copies n with
  | some b => some b
  | none => if s.badRange (s.ctxAddr n) 128 then none else some (s.bytes (s.ctxAddr n) 128)

/-- Hold a record in its home cluster. -/
def State.holdCtx (s : State) (n : Nat) (b : Bytes) : State := s.modGlint fun g => { g with copies := KMap.put g.copies n b }

/-- The flag word of a record. -/
def ctxWord (b : Bytes) : Nat := leVal (sliceB b 32 8)

/-- Fields of a record (R380). -/
def ctxLabel (b : Bytes) : Bytes := sliceB b 0 32
def ctxValid (b : Bytes) : Bool := bitAt (ctxWord b) 0
def ctxProto (b : Bytes) : Nat := bitsAt (ctxWord b) 1 3
def ctxAny (b : Bytes) : Bool := bitAt (ctxWord b) 4
def ctxFunc (b : Bytes) : Nat := bitsAt (ctxWord b) 5 12
def ctxEsn (b : Bytes) : Bool := bitAt (ctxWord b) 17
def ctxTunnel (b : Bytes) : Bool := bitAt (ctxWord b) 18
def ctxConf (b : Bytes) : Bool := bitAt (ctxWord b) 19
def ctxAn (b : Bytes) : Nat := bitsAt (ctxWord b) 20 2
def ctxNode (b : Bytes) : Nat := bitsAt (ctxWord b) 22 7
def ctxExc (b : Bytes) : Bool := bitAt (ctxWord b) 29
def ctxExhausted (b : Bytes) : Bool := bitAt (ctxWord b) 30
def ctxSpi (b : Bytes) : Nat := leVal (sliceB b 40 4)
def ctxMwin (b : Bytes) : Nat := leVal (sliceB b 44 4)
def ctxSeq (b : Bytes) : Nat := leVal (sliceB b 48 8)
def ctxSci (b : Bytes) : Bytes := sliceB b 56 8
def ctxWindow (b : Bytes) : Nat := leVal (sliceB b 64 32)

/-- Replace bytes of a record. -/
def putB (b : Bytes) (off : Nat) (v : Bytes) : Bytes := b.take off ++ v ++ b.drop (off + v.length)

/-- Count a frame in a record: byte 96 for passed, 100 for failed; it saturates. -/
def ctxCount (b : Bytes) (off : Nat) : Bytes := putB b off (leBytes 4 (satInc 32 (leVal (sliceB b off 4))))

/-- Set SEQ, WINDOW and EXHAUSTED. -/
def ctxSetSeq (b : Bytes) (seq window : Nat) : Bytes := putB (putB b 48 (leBytes 8 seq)) 64 (leBytes 32 window)
def ctxSetExhausted (b : Bytes) : Bytes := putB b 32 (leBytes 8 (orBit (ctxWord b) 30))

/-- A job or a frame in progress uses a record. -/
def State.ctxBusy (s : State) (n : Nat) : Bool :=
  s.glint.keys.any (fun e => e.2.ctx == some n) || s.glint.inl.any fun e => e.ctx == n

/-- Write a record's state back to HBM (R380, R382): EXHAUSTED, SEQ, WINDOW and the counts; the rest belongs to firmware. -/
def State.writeBack (s : State) (n : Nat) : State :=
  match KMap.find s.glint.copies n with
  | none => s
  | some b =>
    let a := s.ctxAddr n
    let s1 := s.modGlint fun g => { g with copies := KMap.del g.copies n }
    let w := leVal (s.bytes (a + 32) 8)
    let s2 := if ctxExhausted b then s1.setBytes (a + 32) (leBytes 8 (orBit w 30)) else s1
    (s2.setBytes (a + 48) (sliceB b 48 8)).setBytes (a + 64) (sliceB b 64 40)

/-- A write of GLT_CTX_CMD (R382). -/
def State.wrCtxCmd (s : State) (val : Nat) : State :=
  let go := bitAt val 18
  if s.flag R.GLT_CTX_CMD_BUSY 0 then (if go then s.wr R.GLT_CTX_CMD_REFUSED 0 1 else s)
  else
    let s1 := (s.setField R.GLT_CTX_CMD_INDEX 0 val).wr R.GLT_CTX_CMD_OP 0 (bitsAt val 16 2)
    if go then
      (s1.modGlint fun g => { g with cmd := some (bitsAt val 16 2, s1.rd R.GLT_CTX_CMD_INDEX 0) }).wrs 0
        [(R.GLT_CTX_CMD_BUSY, 1), (R.GLT_CTX_CMD_REFUSED, 0)]
    else s1

/-- GO with an OP. -/
def State.ctxGo (s : State) (w : Writer) (val op : Nat) : State :=
  if s.mayWrite w (Reg.GLT_CTX_CMD.off 0) = true ∧ bitsAt val 16 2 = op ∧ bitAt val 18 = true then s.wrCtxCmd val else s

/-- CTX_FREEZE (R382). -/
def doCtxFreeze (w : Writer) (val : Nat) (s : State) : State := s.ctxGo w val 1

/-- CTX_RELEASE (R382). -/
def doCtxRelease (w : Writer) (val : Nat) (s : State) : State := s.ctxGo w val 2

/-- CTX_CMD_NOP (R382). -/
def doCtxCmdNop (w : Writer) (val : Nat) (s : State) : State := s.ctxGo w val 0

/-- A context command ends with a STATUS; line 32 (R92). -/
def State.ctxEnd (s : State) (st : Nat) : State :=
  ((s.modGlint fun g => { g with cmd := none }).wrs 0 [(R.GLT_CTX_CMD_BUSY, 0), (R.GLT_CTX_CMD_STATUS, st)]).latchLine 32

/-- CTX_FREEZE_DONE (R382): a FREEZE ends once nothing uses the record; the other commands end at once. -/
def doCtxFreezeDone (s : State) : State :=
  match s.glint.cmd with
  | none => s
  | some (op, n) =>
    let cold := KMap.getD s.glint.frozen n false
    if op = 1 then
      if cold then s.ctxEnd 2
      else if s.ctxBusy n then s
      else ((s.writeBack n).modGlint fun g => { g with frozen := KMap.put g.frozen n true }).ctxEnd 0
    else if op = 2 then
      if cold then (s.modGlint fun g => { g with frozen := KMap.del g.frozen n }).ctxEnd 0 else s.ctxEnd 2
    else s.ctxEnd (if op = 0 then 0 else 1)

/-! ### Look-aside jobs (R384 to R388, R395 to R402) -/

/-- GLINT_JOB (R365, R384): a descriptor is handed to a cluster; with every cluster stopped the job fails RNG_FAIL (R378). -/
def doGlintJob (q : Nat) (s : State) : State :=
  match s.handOn q fun o => o == 8 with
  | none => s
  | some (x, s1) =>
    match s1.chooseCluster with
    | (some c, s2) =>
      let a := (s2.jobIn c).addJob { s2.descJob q x with cluster := some c }
      (a.2.startJob a.1).pump a.1
    | (none, s2) => s2.complete q x.bytes 0x83 0 0

/-- What a job names its key by (R383): the label, the binding function and the record; or the status it fails with. -/
def State.jobLabel (s : State) (j : Job) : (Bytes × Nat × Option Nat) ⊕ Nat :=
  let denied := CplStat.keyDenied.code
  let host := j.gtid.isNone
  let own := j.fn.getD 0
  if bitAt (leVal (sliceB j.desc 1 1)) 2 then
    let n := leVal (sliceB j.desc 32 2)
    if !s.flag R.GLT_CTX_BASE_EN 0 then .inr denied
    else if KMap.getD s.glint.frozen n false then .inr 0x84
    else
      match s.ctxRec n with
      | none => .inr denied
      | some b =>
        if !ctxValid b || ctxProto b != 0 || (host && !ctxAny b && ctxFunc b != own) then .inr denied
        else .inl (ctxLabel b, ctxFunc b, some n)
  else .inl (sliceB j.desc 32 32, own, none)

/-- Set a job's status. -/
def State.failJob (s : State) (n st : Nat) : State := s.modJob n fun j => j.fail st

/-- Where a job writes (R384, R399). -/
def jobDst (j : Job) (h : JobHdr) (total : Nat) : Side :=
  match j.outChan with
  | some c => .chan c
  | none => if j.gtid.isNone || h.host then .host [(h.out, total)] else .inner [(h.out, total)]

/-- The header is held and the job takes its key (R375, R386). -/
def State.jobBegin (s : State) (n : Nat) (j : Job) (c : Nat) : State :=
  match s.jobLabel j with
  | .inr st => s.failJob n st
  | .inl (label, bind, ctx) =>
    let h := jobHdr j.input
    let alg := labelAlg label
    let k := algKind alg
    let asker := match j.gtid with
      | some _ => Asker.crypt j.pl1
      | none => .host (j.fn.getD 0)
    if !labelGood label then s.failJob n CplStat.keyDenied.code
    else if decide (j.src.len < 64) || h.bad k j.src.len j.gtid.isNone then s.failJob n 0x80
    else if !s.granted (labelSlot label) asker then s.failJob n CplStat.keyDenied.code
    else
      let z := s.takeKey c label bind
      let total := h.outLen k
      let j1 := { j with
        total := total, dst := jobDst j h total, passed := !(h.open_ && (k.aead || k == .cmac))
        taint := h.open_ && k.aead && !h.first }
      let s1 := (z.2.modGlint fun g => { g with keys := KMap.put g.keys n ⟨alg, z.1, ctx⟩ }).setJob n j1
      let away := match j1.dst, j1.fn with
        | .host _, some f => !s.mayIssue f && j.gtid.isSome
        | _, _ => false
      if away then s1.failJob n CplStat.bmeLost.code else (s1.startJob n).pump n

/-- The fragment table of a CRYPT JOB has been read (R384, R504, R505): its ranges become the source, or the job fails. -/
def State.readTable (s : State) (n : Nat) (j : Job) : State :=
  let cnt := leVal (sliceB j.desc 20 2)
  if s.avail n j < j.src.len then s
  else if tableGood j.input cnt (descLen j.desc) then
    (s.setJob n { j with table := false, src := .inner (tableFrags j.input cnt), got := 0, input := [] }).pump n
  else s.failJob n CplStat.fragTableBad.code

/-- GLINT_JOB_START (R365, R378, R386): the job starts in its cluster, or in another when its own has stopped. -/
def doGlintJobStart (job : Nat) (s : State) : State :=
  match KMap.find s.jobs job with
  | none => s
  | some j =>
    match j.cluster with
    | none => s
    | some c =>
      if j.opc ≠ 8 ∨ j.status.isSome = true ∨ (KMap.find s.glint.keys job).isSome = true ∨ s.clHeld c = true then s
      else if j.table then s.readTable job j
      else if s.avail job j < Nat.min 64 j.src.len then s
      else if s.glint.stopped.contains c then
        match (s.jobOut c).chooseCluster with
        | (some d, s1) => ((s1.jobIn d).setJob job { j with cluster := some d }).jobBegin job { j with cluster := some d } d
        | (none, _) => s.failJob job 0x83
      else s.jobBegin job j c

/-- The output a job has written is zeroed, and then it ends with a status (R396, R402). -/
def State.scrubJob (s : State) (n st : Nat) : State :=
  (s.modJob n fun j => { j with scrub := some st, status := none, torn := false, output := zeros j.done, done := 0 }).pump n

/-- The marker that ends the segments of a job whose tag failed (R399). -/
def markerWord (j : Job) : Nat :=
  (match j.origin with
    | .ring _ _ q => q
    | _ => 0) + (if j.taint then j.done / 64 else 0) * 2 ^ 16

/-- A tag has failed (R385, R396, R399): a channel gets the marker, memory is zeroed, and a job that has written nothing ends. -/
def State.tagFailed (s : State) (n : Nat) (j : Job) (cmac : Bool) (c : Nat) : State :=
  let st := CplStat.tagFail.code
  let s0 := s.countGlint c 0x03 1
  match j.dst with
  | .chan ch =>
    if cmac then s0.failJob n st
    else if !s.flag R.LTN_CH_CFG_ENABLE ch then s0.failJob n 0x82
    else if s.chanRoom ch then (s0.hwCommitF ch [markerWord j] false true).failJob n st
    else s.setJob n { j with stall := some (j.stall.getD s.time) }
  | _ => if j.done = 0 then s0.failJob n st else s0.scrubJob n st

/-- A job's tag can be judged (R385, R395): it runs, all its input has been read, and what precedes the verdict is written. -/
def State.verdictDue (s : State) (job : Nat) (j : Job) : Bool :=
  let h := jobHdr j.input
  let written := match j.dst with
    | .chan _ => decide (h.first = true ∨ j.total ≤ j.done + 64)
    | _ => h.first || decide (j.total ≤ j.done)
  !(j.passed || j.status.isSome || j.scrub.isSome || j.torn || s.clHeld (j.cluster.getD 0) || decide (s.avail job j < j.src.len))
    && written

/-- GLINT_TAG_VERDICT (R385, R395 to R399). -/
def doGlintTagVerdict (job : Nat) (s : State) : State :=
  match KMap.find s.jobs job, KMap.find s.glint.keys job with
  | some j, some k =>
    let h := jobHdr j.input
    let cmac := algKind k.alg == .cmac
    if !s.verdictDue job j then s
    else
      let pay := (j.input.drop (64 + h.aadLen)).take h.payLen
      if h.mac k.alg k.z (sliceB j.input 64 h.aadLen) pay == h.tag.take h.tagLen then
        if h.first then (s.setJob job { j with passed := true, pass := 2, got := 0, input := [] }).pump job
        else (s.setJob job { j with passed := true }).pump job
      else s.tagFailed job j cmac (j.cluster.getD 0)
  | _, _ => s

/-- A job has ended: written whole with its tag passed, or zeroed, or failed. -/
def State.glintEnded (s : State) (n : Nat) (j : Job) : Bool :=
  j.status.isSome
    || (j.scrub.isSome && decide (j.output.length ≤ j.done))
    || (j.scrub.isNone && j.passed && (KMap.find s.glint.keys n).isSome && decide (j.total ≤ j.done) && !s.fabricBusy n
      && decide (j.src.len ≤ s.avail n j))

/-- GLINT_JOB_COMPLETE (R385, R396): the completion is posted and the key forgotten. -/
def doGlintJobComplete (job : Nat) (s : State) : State :=
  let s0 := s.pump job
  match KMap.find s0.jobs job with
  | none => s
  | some j =>
    if j.opc ≠ 8 ∨ j.torn = true ∨ j.hold.isSome = true ∨ s0.glintEnded job j = false ∨ j.cluster.any s.clHeld = true then s0
    else
      let st := match j.status with
        | some st => st
        | none => j.scrub.getD 0
      let done := if j.scrub.isSome then 0 else j.done
      let aux := if j.scrub.isSome then j.zeroed + b2n j.incomplete * 2 ^ 32 else 0
      let s1 := s0.modGlint fun g => { g with keys := KMap.del g.keys job }
      let s2 := match j.cluster with
        | some c => ((s1.jobOut c).countGlint c 0x01 1).countGlint c 0x02 j.got
        | none => s1
      match j.origin with
      | .sq q _ => ((s2.forgetJob job).endJob job).complete q j.desc st done aux
      | .ring _ _ _ => (s2.setJob job { j with aux := aux }).finishRing job st done
      | _ => s2.endJob job

/-- GLINT_CHAN_STALL (R401). -/
def doGlintChanStall (job : Nat) (s : State) : State :=
  match KMap.find s.jobs job with
  | none => s
  | some j => match j.stall with
    | some t => if j.status.isNone && decide (t + 1000000 * s.rd R.GLT_CFG_CHAN_TMO_MS 0 ≤ s.time) then s.failJob job 0x81 else s
    | none => s

/-! ### Inline frames (R390 to R394) -/

/-- The header that an inline record names: the last recorded header of its node. -/
def lastHdr (f : Pkt) (node : Nat) : Option Nat := ((f.hdrs.filter fun e => e.1 == node).getLast?).map fun e => e.2

/-- The last header recorded before an offset. -/
def hdrBefore (f : Pkt) (o : Nat) : Option Nat := ((f.hdrs.filter fun e => decide (e.2 < o)).getLast?).map fun e => e.2

/-- Length of the IP header at an offset: IPv4 by its IHL, IPv6 without extensions. -/
def ipLen (d : Bytes) (o : Nat) : Option Nat :=
  let v := (d.getD o 0).toNat
  if d.length < o + 20 then none
  else if v / 16 = 4 ∧ 5 ≤ v % 16 ∧ o + 4 * (v % 16) ≤ d.length then some (4 * (v % 16))
  else if v / 16 = 6 ∧ o + 40 ≤ d.length then some 40
  else none

/-- The Internet checksum of a header. -/
def ipSum (h : Bytes) : Nat :=
  let t := (List.range (h.length / 2)).foldl (fun a i => a + beVal (sliceB h (2 * i) 2)) 0
  let f := t % 65536 + t / 65536
  65535 - (f % 65536 + f / 65536)

/-- Set the protocol and the length of the IP header of `n` bytes at `o` of a frame, from the frame's new bytes (R391). -/
def ipFix (d : Bytes) (o n proto : Nat) : Bytes :=
  if (d.getD o 0).toNat / 16 = 4 then
    let h := putB (putB (putB (sliceB d o n) 9 (leBytes 1 proto)) 2 (beBytes 2 (d.length - o))) 10 [0, 0]
    putB d o (putB h 10 (beBytes 2 (ipSum h)))
  else putB (putB d (o + 6) (leBytes 1 proto)) (o + 4) (beBytes 2 (d.length - o - 40))

/-- The protocol or next-header field of the IP header at `o`. -/
def ipProto (d : Bytes) (o : Nat) : Nat := (d.getD (if (d.getD o 0).toNat / 16 = 4 then o + 9 else o + 6) 0).toNat

/-- Bytes 1, 2, 3 and so on: the padding of ESP (RFC 4303). -/
def espPad (n : Nat) : Bytes := (List.range n).map fun i => BitVec.ofNat 8 (i + 1)

/-- The additional data of ESP (RFC 4106). -/
def espAad (b : Bytes) (seq : Nat) : Bytes := beBytes 4 (ctxSpi b) ++ (if ctxEsn b then beBytes 8 seq else beBytes 4 seq)

/-- The key and salt of an inline record. -/
def inlKey (b z : Bytes) : Bytes := keyOf (labelAlg (ctxLabel b)) z
def espSalt (z : Bytes) : Bytes := sliceB z 32 4

/-- What an inline frame comes to: its new bytes and whether its ICV verifies, or a reason of R394. -/
abbrev InlResult := (Bytes × Bool) ⊕ Nat

/-- ESP_OUT (R391). -/
def espOut (b z : Bytes) (f : Pkt) (seq : Nat) : InlResult :=
  match lastHdr f (ctxNode b) with
  | none => .inr 0x24
  | some o => match ipLen f.data o with
    | none => .inr 0x24
    | some n =>
      let pay := f.data.drop (o + n)
      let pad := (4 - (pay.length + 2) % 4) % 4
      let text := pay ++ espPad pad ++ leBytes 1 pad ++ leBytes 1 (ipProto f.data o)
      let iv := beBytes 8 seq
      let ct := gcmText (inlKey b z) (espSalt z ++ iv) text
      let icv := gcmTag (inlKey b z) (espSalt z ++ iv) (espAad b seq) ct
      let d := f.data.take (o + n) ++ beBytes 4 (ctxSpi b) ++ beBytes 4 seq ++ iv ++ ct ++ icv
      if 16384 < d.length then .inr 0x24 else .inl (ipFix d o n 50, true)

/-- The sequence number of 64 bits that 32 bits on the wire stand for (RFC 4303 Appendix A): that of the window around `top`. -/
def recover64 (top low span : Nat) : Nat :=
  let th := top / 2 ^ 32
  let tl := top % 2 ^ 32
  let bl := (tl + 2 ^ 32 - (span - 1)) % 2 ^ 32
  if span - 1 ≤ tl then (if bl ≤ low then th * 2 ^ 32 + low else (th + 1) * 2 ^ 32 + low)
  else if bl ≤ low then (if th = 0 then 0 else (th - 1) * 2 ^ 32 + low) else th * 2 ^ 32 + low

/-- The replay check of ESP_IN (R392). -/
def espFresh (b : Bytes) (s : Nat) : Bool :=
  let top := ctxSeq b
  s != 0 && (decide (top < s) || (decide (top ≤ s + 255) && !bitAt (ctxWindow b) (top - s)))

/-- The state after a frame of ESP_IN is accepted (R392). -/
def espAccept (b : Bytes) (s : Nat) : Bytes :=
  let top := ctxSeq b
  if top < s then ctxSetSeq b s ((ctxWindow b <<< Nat.min (s - top) 256 ||| 1) % 2 ^ 256)
  else ctxSetSeq b top (orBit (ctxWindow b) (top - s))

/-- ESP_IN (R391): the sequence number, and what the frame comes to. -/
def espIn (b z : Bytes) (f : Pkt) : Nat × InlResult :=
  match lastHdr f (ctxNode b) with
  | none => (0, .inr 0x24)
  | some e =>
    let d := f.data
    if d.length < e + 34 then (0, .inr 0x24)
    else if beVal (sliceB d e 4) ≠ ctxSpi b then (0, .inr 0x23)
    else
      let low := beVal (sliceB d (e + 4) 4)
      let seq := if ctxEsn b then recover64 (ctxSeq b) low 256 else low
      if !espFresh b seq then (seq, .inr 0x21)
      else
        let nonce := espSalt z ++ sliceB d (e + 8) 8
        let ct := (d.drop (e + 16)).take (d.length - e - 32)
        let good := gcmTag (inlKey b z) nonce (espAad b seq) ct == d.drop (d.length - 16)
        let pt := gcmText (inlKey b z) nonce ct
        let pad := (pt.getD (pt.length - 2) 0).toNat
        let nh := (pt.getD (pt.length - 1) 0).toNat
        let body := pt.take (pt.length - 2 - pad)
        let padOk := decide (pad + 2 ≤ pt.length) && sliceB pt (pt.length - 2 - pad) pad == espPad pad
        if !good then (seq, .inl (d, false))
        else if !padOk then (seq, .inr 0x24)
        else
          match hdrBefore f e with
          | none => (seq, .inr 0x24)
          | some o => match ipLen d o with
            | none => (seq, .inr 0x24)
            | some n =>
              if ctxTunnel b then
                if (nh ≠ 4 ∧ nh ≠ 41) ∨ o < 2 then (seq, .inr 0x24)
                else (seq, .inl (putB (d.take o) (o - 2) (beBytes 2 (if nh = 4 then 0x0800 else 0x86DD)) ++ body, true))
              else (seq, .inl (ipFix (d.take e ++ body) o n nh, true))

/-- XPN numbers are of 64 bits (R367). -/
def ctxXpn (b : Bytes) : Bool := decide (labelAlg (ctxLabel b) = 9 ∨ labelAlg (ctxLabel b) = 10)

/-- The IV of MACsec (IEEE 802.1AE). -/
def secIv (b z : Bytes) (pn : Nat) : Bytes :=
  if ctxXpn b then xorB (beBytes 4 (ctxSpi b) ++ beBytes 8 pn) (sliceB z 32 12) else ctxSci b ++ beBytes 4 pn

/-- MACSEC_OUT (R391). -/
def macsecOut (b z : Bytes) (f : Pkt) (pn : Nat) : InlResult :=
  let d := f.data
  if d.length < 14 then .inr 0x24
  else
    let sd := d.drop 12
    let tci := 0x20 + (if ctxConf b then 0x0C else 0) + ctxAn b
    let tag := [0x88, 0xE5] ++ leBytes 1 tci ++ leBytes 1 (if sd.length < 48 then sd.length else 0) ++ beBytes 4 pn ++ ctxSci b
    let head := d.take 12 ++ tag
    let iv := secIv b z pn
    let ct := if ctxConf b then gcmText (inlKey b z) iv sd else sd
    let icv := if ctxConf b then gcmTag (inlKey b z) iv head ct else gcmTag (inlKey b z) iv (head ++ sd) []
    let out := head ++ ct ++ icv
    if 16384 < out.length then .inr 0x24 else .inl (out, true)

/-- The PN that 32 bits on the wire stand for (IEEE 802.1AE XPN): upwards of the lowest acceptable one. -/
def recoverPn (top low : Nat) : Nat :=
  let th := top / 2 ^ 32
  if 2 ^ 31 ≤ top % 2 ^ 32 ∧ low < 2 ^ 31 then (th + 1) * 2 ^ 32 + low else th * 2 ^ 32 + low

/-- The replay check of MACSEC_IN (R392). -/
def secFresh (b : Bytes) (pn : Nat) : Bool := decide (1 ≤ pn ∧ ctxSeq b < pn + ctxMwin b)

/-- MACSEC_IN (R391). -/
def macsecIn (b z : Bytes) (f : Pkt) : Nat × InlResult :=
  let d := f.data
  if d.length < 44 ∨ sliceB d 12 2 ≠ [0x88, 0xE5] then (0, .inr 0x24)
  else
    let tci := (d.getD 14 0).toNat
    let sl := (d.getD 15 0).toNat
    let n := if sl = 0 then d.length - 44 else sl
    if 128 ≤ tci ∨ bitAt tci 5 = false ∨ bitAt tci 3 ≠ ctxConf b ∨ bitAt tci 2 ≠ ctxConf b then (0, .inr 0x24)
    else if tci % 4 ≠ ctxAn b ∨ sliceB d 20 8 ≠ ctxSci b then (0, .inr 0x23)
    else if 48 ≤ sl ∨ (sl = 0 ∧ n < 48) ∨ d.length < 44 + n then (0, .inr 0x24)
    else
      let low := beVal (sliceB d 16 4)
      let pn := if ctxXpn b then recoverPn (ctxSeq b) low else low
      if !secFresh b pn then (pn, .inr 0x21)
      else
        let iv := secIv b z pn
        let sd := (d.drop 28).take n
        let head := d.take 28
        let tag := if ctxConf b then gcmTag (inlKey b z) iv head sd else gcmTag (inlKey b z) iv (head ++ sd) []
        let pt := if ctxConf b then gcmText (inlKey b z) iv sd else sd
        (pn, .inl (d.take 12 ++ pt, tag == (d.drop (28 + n)).take 16))

/-- The largest number that an outbound record may use (R393). -/
def seqMax (b : Bytes) : Nat :=
  let long := if ctxProto b = 2 then ctxEsn b else ctxXpn b
  if long then 2 ^ 64 - 1 else 2 ^ 32 - 1

/-- A label fits a protocol (R368). -/
def algFits (proto alg : Nat) : Bool := decide (alg ≤ 1) || (decide (3 ≤ proto) && decide (alg = 9 ∨ alg = 10))

/-- Begin a frame under a usable record (R391 to R393): its number, its record afterwards, and what it comes to. -/
def inlineRun (b z : Bytes) (f : Pkt) : Nat × Bytes × InlResult :=
  let seq := ctxSeq b
  let out := decide (ctxProto b = 2 ∨ ctxProto b = 4)
  if out then
    if ctxExhausted b ∨ seqMax b < seq then (seq, ctxSetExhausted b, .inr 0x22)
    else
      let b1 := if seqMax b < seq + 1 then ctxSetExhausted b else putB b 48 (leBytes 8 (seq + 1))
      (seq, b1, if ctxProto b = 2 then espOut b z f seq else macsecOut b z f seq)
  else
    let r := if ctxProto b = 1 then espIn b z f else macsecIn b z f
    (r.1, b, r.2)

/-- GLINT_INLINE_START (R390, R391): the oldest frame handed over by a pipeline starts under its record. -/
def doGlintInlineStart (p : Nat) (s : State) : State :=
  match KMap.getD s.toGlint p [] with
  | [] => s
  | f :: r =>
    let n := bitsAt f.act 72 16
    let c := s.home n
    let s0 := { s with toGlint := KMap.setD s.toGlint p [] r }
    if s.clHeld c then s
    else
      let put := fun (s : State) (seq : Nat) (x : InlResult) =>
        let e : Inline := match x with
          | .inl (d, g) => ⟨c, n, f, seq, d, none, g⟩
          | .inr k => ⟨c, n, f, seq, [], some k, false⟩
        (s.modGlint fun g => { g with inl := g.inl ++ [e] }).jobIn c
      let s1 := (s0.wakeBlock (117 + c)).countGlint c 0x06 1
      if (List.range 32).all fun k => s.glint.stopped.contains k || s.flag R.GLT_CL_STAT_OUT k then
        (s0.sat R.GLT_INLINE_CNT_OTHER 0 1).freeFrame f
      else if !s.flag R.GLT_CTX_BASE_EN 0 || KMap.getD s.glint.frozen n false then put s1 0 (.inr 0x23)
      else
        match s.ctxRec n with
        | none => put s1 0 (.inr 0x23)
        | some b =>
          let label := ctxLabel b
          if !ctxValid b || ctxProto b == 0 || decide (5 ≤ ctxProto b) || !labelGood label
              || !algFits (ctxProto b) (labelAlg label) || !s.granted (labelSlot label) .inline then put s1 0 (.inr 0x23)
          else
            let z := s1.takeKey c label (ctxFunc b)
            let x := inlineRun b z.1 f
            put (z.2.holdCtx n x.2.1) x.1 x.2.2

/-- A frame fails (R394). -/
def State.inlineFail (s : State) (e : Inline) (reason : Nat) : State :=
  let s1 := if reason = 0x20 then (s.sat R.GLT_INLINE_CNT_TAG_FAIL 0 1).countGlint e.cl 0x03 1
    else if reason = 0x21 then s.sat R.GLT_INLINE_CNT_REPLAY 0 1 else s.sat R.GLT_INLINE_CNT_OTHER 0 1
  let b := s.ctxRec e.ctx
  let usable := s.flag R.GLT_CTX_BASE_EN 0 && !KMap.getD s.glint.frozen e.ctx false
  let s2 := match usable, b with
    | true, some b => if ctxValid b then s1.holdCtx e.ctx (ctxCount b 100) else s1
    | _, _ => s1
  match b with
  | some b => if ctxExc b then s2.except e.pkt reason else s2.freeFrame e.pkt
  | none => s2.freeFrame e.pkt

/-- The replay check and the state of an inbound record, made once the ICV has passed (R392). -/
def inlineAccept (b : Bytes) (seq : Nat) : Option Bytes :=
  match ctxProto b with
  | 1 => if espFresh b seq then some (espAccept b seq) else none
  | 3 => if secFresh b seq then some (putB b 48 (leBytes 8 (Nat.max (ctxSeq b) seq))) else none
  | _ => some b

/-- GLINT_INLINE_VERDICT (R390, R392, R394): the oldest frame of a cluster fails, or is released and re-enters Prism (R256). -/
def doGlintInlineVerdict (cl : Nat) (s : State) : State :=
  match s.glint.inl.find? fun e => e.cl == cl && !s.clHeld cl with
  | none => s
  | some e =>
    let s1 := (s.modGlint fun g => { g with inl := g.inl.erase e }).jobOut cl
    match e.reason, s1.ctxRec e.ctx with
    | some r, _ => s1.inlineFail e r
    | none, none => s1.inlineFail e 0x23
    | none, some b =>
      if !e.good then s1.inlineFail e 0x20
      else
        match inlineAccept b e.seq with
        | none => s1.inlineFail e 0x21
        | some b1 =>
          let x := (s1.holdCtx e.ctx (ctxCount b1 96)).resizeFrame e.pkt e.data
          let prof := (s.prism e.pkt.pipe).val R.PRS_PROF_RECIRC_PROF (64 * e.pkt.pipe + e.pkt.prof % 64)
          x.2.enterPrism { x.1 with recirc := e.pkt.recirc + 1, forced := some prof }

/-! ### Randomness (R377, R378) -/

/-- DRBG_RESEED (R377, R378): the DRBG of a cluster, or with `none` the service DRBG, is reseeded; without entropy it stops. -/
def doDrbgReseed (cl : Option Nat) (s : State) : State :=
  let ok := s.flag R.GLT_RNG_STAT_ES_OK 0
  match cl with
  | some c =>
    if 32 ≤ c then s
    else if ok then (s.modGlint fun g => { g with stopped := g.stopped.filter fun x => x != c }).count 69 0x01 1
    else s.modGlint fun g => { g with stopped := addOnce c g.stopped }
  | none =>
    if ok then (s.wr R.GLT_RNG_STAT_SVC_FAIL 0 0).count 69 0x01 1
    else if s.flag R.GLT_RNG_STAT_SVC_FAIL 0 then s
    else (s.wr R.GLT_RNG_STAT_SVC_FAIL 0 1).latchLine 33

/-- ENTROPY_HEALTH_FAIL (R378). -/
def doEntropyHealthFail (s : State) : State :=
  let s1 := (s.wr R.GLT_RNG_STAT_ES_OK 0 0).sat R.GLT_RNG_STAT_FAILS 0 1
  let s2 := if s.flag R.GLT_RNG_STAT_ES_FAIL 0 then s1 else (s1.wr R.GLT_RNG_STAT_ES_FAIL 0 1).latchLine 33
  (s2.report 0xF800 .entropy 0).count 69 0x02 1

/-- ENTROPY_HEALTH_PASS (R378). -/
def doEntropyHealthPass (s : State) : State := s.wr R.GLT_RNG_STAT_ES_OK 0 1

/-! ### The meanings of the rows -/

/-- CTX_TABLE_ENABLE (R379). -/
def execCtxTableEnable (w : Writer) (val : Nat) (s : State) : Host.Outcome State Fault Refusal :=
  .next (s.after (doCtxTableEnable w val s))

/-- CTX_FREEZE (R382). -/
def execCtxFreeze (w : Writer) (val : Nat) (s : State) : Host.Outcome State Fault Refusal :=
  .next (s.after (doCtxFreeze w val s))

/-- CTX_RELEASE (R382). -/
def execCtxRelease (w : Writer) (val : Nat) (s : State) : Host.Outcome State Fault Refusal :=
  .next (s.after (doCtxRelease w val s))

/-- CTX_CMD_NOP (R382). -/
def execCtxCmdNop (w : Writer) (val : Nat) (s : State) : Host.Outcome State Fault Refusal :=
  .next (s.after (doCtxCmdNop w val s))

/-- CTX_FREEZE_DONE (R382). -/
def execCtxFreezeDone (s : State) : Host.Outcome State Fault Refusal :=
  .next (s.after (doCtxFreezeDone s))

/-- ROOT_SLOT_DISABLE (R375). -/
def execRootSlotDisable (w : Writer) (slot : Nat) (val : Nat) (s : State) : Host.Outcome State Fault Refusal :=
  .next (s.after (doRootSlotDisable w slot val s))

/-- GLINT_JOB_START (R386). -/
def execGlintJobStart (job : Nat) (s : State) : Host.Outcome State Fault Refusal :=
  .next (s.after (doGlintJobStart job s))

/-- GLINT_TAG_VERDICT (R396). -/
def execGlintTagVerdict (job : Nat) (s : State) : Host.Outcome State Fault Refusal :=
  .next (s.after (doGlintTagVerdict job s))

/-- GLINT_JOB_COMPLETE (R385). -/
def execGlintJobComplete (job : Nat) (s : State) : Host.Outcome State Fault Refusal :=
  .next (s.after (doGlintJobComplete job s))

/-- GLINT_CHAN_STALL (R401). -/
def execGlintChanStall (job : Nat) (s : State) : Host.Outcome State Fault Refusal :=
  .next (s.after (doGlintChanStall job s))

/-- GLINT_INLINE_START (R391). -/
def execGlintInlineStart (p : Nat) (s : State) : Host.Outcome State Fault Refusal :=
  .next (s.after (doGlintInlineStart p s))

/-- GLINT_INLINE_VERDICT (R392). -/
def execGlintInlineVerdict (cl : Nat) (s : State) : Host.Outcome State Fault Refusal :=
  .next (s.after (doGlintInlineVerdict cl s))

/-- DRBG_RESEED (R377). -/
def execDrbgReseed (cl : Option Nat) (s : State) : Host.Outcome State Fault Refusal :=
  .next (s.after (doDrbgReseed cl s))

/-- ENTROPY_HEALTH_FAIL (R378). -/
def execEntropyHealthFail (s : State) : Host.Outcome State Fault Refusal :=
  .next (s.after (doEntropyHealthFail s))

/-- GLINT_JOB (R384). -/
def execGlintJob (q : Nat) (s : State) : Host.Outcome State Fault Refusal :=
  .next (s.after (doGlintJob q s))

/-- ENTROPY_HEALTH_PASS (R378). -/
def execEntropyHealthPass (s : State) : Host.Outcome State Fault Refusal :=
  .next (s.after (doEntropyHealthPass s))

end Sys2Proof.Machine
end

