-- ==== Sys2Proof/Machine/FaultOps.lean ====
section
/-!
DEFINITION. Lighthouse's fault log and guarantee conditions (R596, R600 to R606, R608), and the units of R599 with their spares, as
several families use them.
-/

namespace Sys2Proof.Machine

/-! ### Lighthouse's state -/

/-- Change what Lighthouse keeps for fault handling. -/
def State.modLhs (s : State) (f : Lhs → Lhs) : State := { s with lhs := f s.lhs }

/-- Change what Lighthouse keeps for security. -/
def State.modSec (s : State) (f : Sec → Sec) : State := { s with sec := f s.sec }

/-- Change the power state. -/
def State.modPwr (s : State) (f : Pwr → Pwr) : State := { s with pwr := f s.pwr }

/-- VERDICT codes (R600). -/
inductive Verdict where
  | masked | transient | permanent | degraded
  deriving DecidableEq, Repr

/-- The code of a verdict. -/
def Verdict.code : Verdict → Nat
  | .masked => 0 | .transient => 1 | .permanent => 2 | .degraded => 3

/-- Unit ID of the device as a whole (R599). -/
def unitDevice : Nat := 0xF800

/-- Type and instance of a unit. -/
def unitTy (u : Nat) : Nat := u / 2048
def unitIx (u : Nat) : Nat := u % 2048

/-- Instances of a unit type (R599). -/
def unitCount (ty : Nat) : Nat :=
  match ty with
  | 0 => 108 | 1 => 34 | 2 => 132 | 3 => 2048 | 4 => 256 | 5 => 32 | 6 => 16 | 7 => 32 | 8 => 4 | 9 => 1 | 10 => 1
  | 11 => 1 | 12 => 2 | 13 => 8 | 14 => 32 | 15 => 1 | 16 => 40 | 17 => 4
  | _ => 0

/-- The ID is listed in R599. -/
def unitListed (u : Nat) : Bool := decide (unitIx u < unitCount (unitTy u)) || u == unitDevice

/-! ### The log (R600, R602 to R606) -/

/-- The records of the log. -/
def logRoom : Nat := 256

/-- Word 0 of a record (R600). -/
def FaultRec.word0 (r : FaultRec) : Nat :=
  r.unit % 2 ^ 16 + r.kind % 64 * 2 ^ 16 + r.verdict % 4 * 2 ^ 22 + r.tries % 8 * 2 ^ 24 + r.count % 32 * 2 ^ 27 + r.loc % 2 ^ 32 * 2 ^ 32

/-- A record that a verdict cannot drop from a full log (R605). -/
def FaultRec.strong (r : FaultRec) : Bool := decide (2 ≤ r.verdict)

/-- COUNT goes up by one, at most 31. -/
def FaultRec.again (r : FaultRec) : FaultRec := { r with count := Nat.min 31 (r.count + 1) }

/-- The place of the last element that satisfies a condition. -/
def lastWhere (p : FaultRec → Bool) : List FaultRec → Option Nat
  | [] => none
  | a :: r => match lastWhere p r with
    | some i => some (i + 1)
    | none => if p a then some 0 else none

/-- Change the element at a place. -/
def changeAt (l : List FaultRec) (i : Nat) (f : FaultRec → FaultRec) : List FaultRec :=
  match l[i]? with
  | some a => setNth l i (f a)
  | none => l

/-- Remove the first element that satisfies a condition, or the oldest one. -/
def dropFor (p : FaultRec → Bool) (l : List FaultRec) : List FaultRec :=
  match l.findIdx? p with
  | some i => l.eraseIdx i
  | none => l.drop 1

/-- Set the log; the notices of R606 follow. -/
def State.setFlog (s : State) (l : List FaultRec) : State := (s.modLhs fun x => { x with flog := l }).noticeSafety

/-- Set OVF and count a record merged under R605. -/
def State.flogMerged (s : State) : State := (s.wr R.LHS_FLT_STAT_OVF 0 1).sat R.LHS_FLT_STAT_MERGED 0 1

/-- A report enters the log (R604, R605): it is merged into an equal record less than 1 s old, or appended, or handled as a full log
lays down. -/
def State.flogAdd (s0 : State) (r : FaultRec) : State :=
  let s := s0.count 67 0x01 1
  let l := s.lhs.flog
  let same := fun (x : FaultRec) => x.unit == r.unit && x.kind == r.kind && x.loc == r.loc && x.verdict == r.verdict
    && decide (r.time ≤ x.time + 1000000000)
  match lastWhere same l with
  | some i => s.setFlog (changeAt l i FaultRec.again)
  | none =>
    if l.length < logRoom then s.setFlog (l ++ [r])
    else if r.strong then (s.flogMerged).setFlog (dropFor (fun x => !x.strong) l ++ [r])
    else match lastWhere (fun x => x.unit == r.unit) l with
      | some i => (s.flogMerged).setFlog (changeAt l i FaultRec.again)
      | none => s.flogMerged

/-- Write a record. A TRANSIENT verdict counts in the unit's TRANSIENTS. -/
def State.record (s : State) (unit kind : Nat) (v : Verdict) (tries loc : Nat) : State :=
  let s1 := if v = .transient ∧ unit ≠ unitDevice then s.sat R.LHS_UNIT_STAT_TRANSIENTS unit 1 else s
  s1.flogAdd ⟨unit, kind, v.code, tries, 1, loc % 2 ^ 32, s.time⟩

/-- Write a record whose verdict the spec does not state: that value is free (log entry 3). -/
def State.recordFree (s : State) (unit kind loc : Nat) : State :=
  s.draw.2.flogAdd ⟨unit, kind, s.draw.1 % 4, 0, 1, loc % 2 ^ 32, s.time⟩

/-- EV3 of t0 of a logical core whose own state Lighthouse has changed (R606). -/
def State.tellCore (s : State) (c : Nat) : State := s.latch (8 * c) 3

/-! ### The guarantee (R595, R596) -/

/-- The settings of the scrubber break R595. -/
def State.scrubBreaks (s : State) : Bool :=
  !(s.flag R.MEM_SCRUB_CTL_HBM_EN 0 && s.flag R.MEM_SCRUB_CTL_SRAM_EN 0)
    || decide (12 < s.rd R.MEM_SCRUB_CTL_HBM_PASS_H 0 ∨ 1000 < s.rd R.MEM_SCRUB_CTL_SRAM_PASS_MS 0)

/-- The self-test schedule breaks R595. -/
def State.testBreaks (s : State) : Bool := !s.flag R.LHS_TEST_SCHED_EN 0 || decide (24 < s.rd R.LHS_TEST_SCHED_PERIOD_H 0)

/-- An island is in MARGIN_LOST. -/
def State.marginBreaks (s : State) : Bool := (List.range 40).any fun i => s.rd R.LHS_PLAN_STATE i == 3

/-- The condition bits as they stand, in bits [5:1] (R596). -/
def State.condBits (s : State) : Nat :=
  2 * s.rd R.LHS_FLT_STAT_C_ENV 0 + 4 * s.rd R.LHS_FLT_STAT_C_SCRUB 0 + 8 * s.rd R.LHS_FLT_STAT_C_TEST 0
    + 16 * s.rd R.LHS_FLT_STAT_C_FW 0 + 32 * s.rd R.LHS_FLT_STAT_C_MARGIN 0

/-- The condition bits and GUARANTEE follow R596; conditions that fail anew are recorded together. -/
def State.settleCond (s : State) : State :=
  let s1 := s.wrs 0 [(R.LHS_FLT_STAT_C_SCRUB, b2n s.scrubBreaks), (R.LHS_FLT_STAT_C_TEST, b2n s.testBreaks),
    (R.LHS_FLT_STAT_C_FW, b2n s.lhs.fwBad), (R.LHS_FLT_STAT_C_MARGIN, b2n s.marginBreaks)]
  let now := s1.condBits
  if now = 0 then
    if s1.pwr.boot = .ready ∨ s1.pwr.boot = .running then
      (s1.wr R.LHS_FLT_STAT_GUARANTEE 0 1).modLhs fun x => { x with told := 0 }
    else s1
  else
    let new := clearMask now s1.lhs.told
    let s2 := s1.wr R.LHS_FLT_STAT_GUARANTEE 0 0
    if new = 0 then s2
    else (s2.modLhs fun x => { x with told := x.told ||| new }).record unitDevice FKind.condLost.code .degraded 0 new

/-- A supply, clock or temperature leaves its range: C_ENV (R596). -/
def State.envLost (s : State) : State := (s.wr R.LHS_FLT_STAT_C_ENV 0 1).settleCond

/-! ### Units and spares (R599, R608, R609) -/

/-- The units that may replace a unit: those of its cluster, pipeline or kind. -/
def spareGroup (u : Nat) : List Nat :=
  match unitTy u with
  | 0 => (List.range 9).map fun k => unitId 0 (unitIx u / 9 * 9 + k)
  | 1 => (List.range 34).map fun k => unitId 1 k
  | 2 => (List.range 33).map fun k => unitId 2 (unitIx u / 33 * 33 + k)
  | _ => []

/-- Spares of a unit's group that the switch-overs in the queue will take. -/
def State.spareClaims (s : State) (u : Nat) : Nat := (s.lhs.swq.filter fun x => (spareGroup u).contains x).length

/-- The spares of a unit's group. -/
def State.sparesOf (s : State) (u : Nat) : List Nat := (spareGroup u).filter fun x => s.rd R.LHS_UNIT_STAT_ROLE x == 1

/-- A spare is free for a unit of types 0 to 2. -/
def State.spareFree (s : State) (u : Nat) : Bool := decide (s.spareClaims u < (s.sparesOf u).length)

/-- A report counts under R608; the answer is whether it is a ninth within one second. -/
def State.ninth (s : State) (u loc : Nat) : Bool × State :=
  let k := u * 2 ^ 32 + loc % 2 ^ 32
  let l := KMap.getD s.lhs.hist k []
  (match l[7]? with
    | some t => decide (s.time ≤ t + 1000000000)
    | none => false,
   s.modLhs fun x => { x with hist := KMap.put x.hist k ((s.time :: l).take 8) })

/-- A unit is retired with no spare (R609). -/
def State.degrade (s : State) (u : Nat) : State :=
  ((s.wr R.LHS_UNIT_STAT_DEGRADED u 1).wr R.LHS_FLT_STAT_DEGRADED 0 1)

end Sys2Proof.Machine
end

