-- ==== Sys2Proof/Machine/LanternCtl.lean ====
section
/-!
DEFINITION. The commands of 02_lantern_cores.md: events and messages that arrive, timers, leases, interrupt lines, the fault queue,
heartbeats, the eclipse, groups, channels, starting and killing threads, and debug halting.
-/

namespace Sys2Proof.Machine

/-! ### Events, messages, timers (R78, R83, R100, R737) -/

/-- Remove the first item equal to `x`. -/
def eraseOne {α : Type} [DecidableEq α] (x : α) : List α → List α
  | [] => []
  | a :: r => if a = x then r else a :: eraseOne x r

/-- EVENT_LATCH (R78, R84, R737): an event sent to input `ev` of thread `t` is latched; an input bound to another source latches
that source's event; an input bound to nothing never fires. -/
def doEventLatch (t ev : Nat) (s : State) : State :=
  if t < 768 ∧ ev < 32 then
    if (t, ev) ∈ s.ltn.flights then
      ({ s with ltn := { s.ltn with flights := eraseOne (t, ev) s.ltn.flights } }).latch t ev
    else if s.bindTy t ev = 0 ∨ s.bindTy t ev = 3 then s
    else s.latch t ev
  else s

/-- Make the oldest message in flight of a ring visible. -/
def showFirst : List Slot → List Slot
  | [] => []
  | sl :: r => if sl.st = .flight then { sl with st := .visible } :: r else sl :: showFirst r

/-- MESSAGE_VISIBLE (R100, R101, R737): the oldest message in flight to the channel's reader becomes visible and the reader's input
is set in the same cycle. -/
def doMessageVisible (chan : Nat) (s : State) : State :=
  if (s.slots chan).any fun sl => sl.st == .flight then
    (s.setSlots chan (showFirst (s.slots chan))).fireChannel chan
  else s

/-- The inputs of thread `t` bound as TIMER. -/
def timerInputs (s : State) (t : Nat) : List (Nat × Nat) :=
  ((List.range 32).filter fun n => s.bindTy t n == 1).map fun n => (t, n)

/-- THREAD_TIMER_FIRE (R83): when the timebase has reached the compare value, the thread's TIMER inputs are set and the timer
writes itself to 0. -/
def doThreadTimerFire (t : Nat) (s : State) : State :=
  let v := s.rd R.LTN_THR_TIMER_TIMER t
  if v ≠ 0 ∧ v ≤ s.time then (s.wr R.LTN_THR_TIMER_TIMER t 0).latchAll (timerInputs s t) else s

/-- LEASE_EXPIRE (R105, R106): the unfilled slots of the reservation become VOID, the holder's LEASE_LOST sets and the
reservation ends. -/
def doLeaseExpire (t : Nat) (s : State) : State :=
  match (s.thr t).resv with
  | some r =>
    if r.till ≤ s.time then
      (s.modThr t fun th => { th with leaseLost := true, lostChan := r.chan }).voidResv t
    else s
  | none => s

/-! ### Interrupt lines (R92, R93, R185) -/

/-- IRQ_SET_WRITE (R92): each 1 latches line 32 k + j of the cluster. A thread latches lines of its own cluster. -/
def doIrqSetWrite (w : Writer) (cluster k val : Nat) (s : State) : State :=
  let x := 8 * cluster + k
  let own := match w with
    | .thread t => decide (clusterOf t = cluster)
    | _ => true
  if cluster < 12 ∧ k < 8 ∧ own = true ∧ s.mayWrite w (Reg.LTN_CL_IRQ_SET.off x) = true then
    s.wr R.LTN_CL_IRQ_LATCH_LATCH x (s.rd R.LTN_CL_IRQ_LATCH_LATCH x ||| val % 2 ^ 32)
  else s

/-- IRQ_LATCH_CLEAR (R93): each 1 clears the cluster's own copy of the line. -/
def doIrqLatchClear (w : Writer) (cluster k val : Nat) (s : State) : State :=
  let x := 8 * cluster + k
  if cluster < 12 ∧ k < 8 ∧ s.mayWrite w (Reg.LTN_CL_IRQ_LATCH.off x) = true then
    s.wr R.LTN_CL_IRQ_LATCH_LATCH x (clearMask (s.rd R.LTN_CL_IRQ_LATCH_LATCH x) (val % 2 ^ 32))
  else s

/-- INTERRUPT_ENTRY (R91, R184 to R186): the thread takes an interrupt at an instruction boundary, at the record of a block
instruction, or in WAIT with its return address at the WAIT (R88). A halt request there acts first. -/
def doInterruptEntry (t : Nat) (s : State) : State :=
  let th := s.thr t
  if t < 768 ∧ (th.st = .run ∨ th.st = .wait) ∧ th.atBoundary = true ∧ s.lives t = true ∧ s.irqReady t = true then
    if s.haltReq t then s.haltThread t 1
    else if th.st = .run ∧ s.bpMatch t = true ∧ th.stepping = false ∧ th.blk = none then s.haltThread t 3
    else s.takeInterrupt t
  else s

/-! ### The fault queue, heartbeat, eclipse (R109 to R119) -/

/-- FLTQ_POP (R110): any write removes the oldest record; ignored when the queue is empty. -/
def doFltqPop (w : Writer) (core : Nat) (s : State) : State :=
  if core < 96 ∧ s.mayWrite w (Reg.LTN_CORE_FLTQ_POP.off core) = true then
    s.modCore core fun k => { k with fltq := k.fltq.drop 1 }
  else s

/-- HEARTBEAT (R112): a write of LTN_CORE_HB by t0 of the core begins a new period. -/
def doHeartbeat (w : Writer) (core : Nat) (s : State) : State :=
  if core < 96 ∧ w = .thread (8 * core) ∧ s.mayWrite w (Reg.LTN_CORE_HB.off core) = true then
    s.modCore core fun k => { k with hbStart := some s.time, hbPeriod := s.rd R.LTN_CORE_HBCTL_PERIOD_US core }
  else s

/-- HEARTBEAT_TIMEOUT (R112): a period passed without a heartbeat and the core reports a hung supervisor. -/
def doHeartbeatTimeout (core : Nat) (s : State) : State :=
  match (s.core core).hbStart with
  | some b =>
    if b + 1000 * (s.core core).hbPeriod ≤ s.time then
      (s.modCore core fun k => { k with hbStart := none }).report (coreUnit s core) .heartbeat 0
    else s
  | none => s

/-- Bit t: thread t of the core is in WAIT (R109, LTN_CORE_ECL.WAITING). -/
def State.waitingMask (s : State) (core : Nat) : Nat :=
  (List.range 8).foldl (fun m k => if (s.thr (8 * core + k)).st = .wait then orBit m k else m) 0

/-- ECLIPSE (R114): the census has been true for 4,096 cycles with ARMED 1; a record is pushed, EV0 and EV1 of t0 set, and ARMED
clears. -/
def doEclipse (core : Nat) (s : State) : State :=
  if core < 96 ∧ s.coreCensus core = true ∧ s.flag R.LTN_CORE_ECL_ARMED core = true then
    let s1 := s.wrs core [(R.LTN_CORE_ECL_COUNT, 4096), (R.LTN_CORE_ECL_CENSUS, 1), (R.LTN_CORE_ECL_ARMED, 0)]
    s1.pushFault core ⟨Cls.eclipse.code, 0, s.waitingMask core⟩ 2
  else s

/-- GROUP_ECLIPSE (R118): the same for a thread group, notified to t0 of SUP_CORE. -/
def doGroupEclipse (cluster g : Nat) (s : State) : State :=
  let x := 16 * cluster + g
  if cluster < 12 ∧ g < 16 ∧ s.groupCensus x = true ∧ s.flag R.LTN_GRP_CTL_ARMED x = true then
    let s1 := s.wrs x [(R.LTN_GRP_CTL_COUNT, 4096), (R.LTN_GRP_CTL_CENSUS, 1), (R.LTN_GRP_CTL_ARMED, 0)]
    s1.pushFault (8 * cluster + s.rd R.LTN_GRP_CTL_SUP_CORE x) ⟨Cls.groupEclipse.code, 0, g⟩ 4
  else s

/-- Write the members of a group (R116); bits 8 k are RSVD. -/
def State.wrMembers (s : State) (x val : Nat) : State :=
  s.wrs x [(R.LTN_GRP_MEMBERS_M0, bitsAt val 1 7), (R.LTN_GRP_MEMBERS_M1, bitsAt val 9 7),
    (R.LTN_GRP_MEMBERS_M2, bitsAt val 17 7), (R.LTN_GRP_MEMBERS_M3, bitsAt val 25 7),
    (R.LTN_GRP_MEMBERS_M4, bitsAt val 33 7), (R.LTN_GRP_MEMBERS_M5, bitsAt val 41 7),
    (R.LTN_GRP_MEMBERS_M6, bitsAt val 49 7), (R.LTN_GRP_MEMBERS_M7, bitsAt val 57 7)]

/-- GROUP_CTL_WRITE (R117): LTN_GRP_MEMBERS_g (`members`) or LTN_GRP_CTL_g. Everything but EN is writable only while EN is 0, and
EN cannot be set with no members. -/
def doGroupCtlWrite (w : Writer) (cluster g : Nat) (members : Bool) (val : Nat) (s : State) : State :=
  let x := 16 * cluster + g
  let off := if members then Reg.LTN_GRP_MEMBERS.off x else Reg.LTN_GRP_CTL.off x
  if cluster < 12 ∧ g < 16 ∧ s.mayWrite w off = true then
    if members then (if s.flag R.LTN_GRP_CTL_EN x then s else s.wrMembers x val)
    else
      let s1 := if s.flag R.LTN_GRP_CTL_EN x then s else s.wr R.LTN_GRP_CTL_SUP_CORE x (bitsAt val 1 3)
      (s1.setFlag R.LTN_GRP_CTL_EN x (bitAt val 0 && !(s.members x).isEmpty)).settleGroup x
  else s

/-! ### Channels (R96, R97) -/

/-- Slots of the ring of channel `c` of a cluster: first and count. -/
def State.ringSpan (s : State) (chan : Nat) : Nat × Nat := (s.rd R.LTN_CH_CFG_BASE_SLOT chan, s.ringSize chan)

/-- A write that sets ENABLE of a channel is refused (R96). -/
def State.chanRefused (s : State) (chan : Nat) : Bool :=
  let z := s.rd R.LTN_CH_CFG_SIZE_LOG2 chan
  let b := s.ringSpan chan
  decide (z < 2 ∨ 10 < z) || b.1 % b.2 != 0 || decide (2048 < b.1 + b.2)
    || (List.range 256).any (fun k =>
        let c := 256 * (chan / 256) + k
        let d := s.ringSpan c
        c != chan && s.flag R.LTN_CH_CFG_ENABLE c && decide (b.1 < d.1 + d.2 ∧ d.1 < b.1 + b.2))
    || clusterOf (s.reader chan) != chan / 256

/-- Write the fields of LTN_CH_CFG other than ENABLE; a reserved SIZE_LOG2 keeps the previous value (R13). -/
def State.wrChanCfg (s : State) (chan val : Nat) : State :=
  let z := bitsAt val 2 4
  let s1 := if 2 ≤ z ∧ z ≤ 10 then s.wr R.LTN_CH_CFG_SIZE_LOG2 chan z else s
  s1.wrs chan [(R.LTN_CH_CFG_SCOPE, bitsAt val 6 2), (R.LTN_CH_CFG_GROUP, bitsAt val 8 4),
    (R.LTN_CH_CFG_BASE_SLOT, bitsAt val 16 11), (R.LTN_CH_CFG_READER, bitsAt val 32 10)]

/-- CHANNEL_ENABLE (R96): a write of LTN_CH_CFG that sets ENABLE is accepted, or refused with CFG_ERR; while ENABLE is 1 it changes
nothing else. -/
def doChannelEnable (w : Writer) (chan val : Nat) (s : State) : State :=
  if chan < 3072 ∧ s.mayWrite w (Reg.LTN_CH_CFG.off chan) = true ∧ s.flag R.LTN_CH_CFG_ENABLE chan = false then
    let s1 := s.wrChanCfg chan val
    if s1.chanRefused chan then s1.wr R.LTN_CH_CFG_CFG_ERR chan 1
    else ((s1.wr R.LTN_CH_CFG_CFG_ERR chan 0).wr R.LTN_CH_CFG_ENABLE chan 1).settleCluster (chan / 256)
  else s

/-- Every reservation held on channel `chan` ends with the channel's slots. -/
def State.dropReservations (s : State) (chan : Nat) : State :=
  (s.ltn.threads.filter fun e => (e.2.resv.map (·.chan)) == some chan).foldl
    (fun s e => s.modThr e.1 fun th => { th with resv := none }) s

/-- CHANNEL_DISABLE (R97): ENABLE clears; visible messages are discarded and reservations released silently. -/
def doChannelDisable (w : Writer) (chan : Nat) (s : State) : State :=
  if chan < 3072 ∧ s.mayWrite w (Reg.LTN_CH_CFG.off chan) = true ∧ s.flag R.LTN_CH_CFG_ENABLE chan = true then
    (((s.wr R.LTN_CH_CFG_ENABLE chan 0).setSlots chan []).dropReservations chan).settleCluster (chan / 256)
  else s

/-! ### Starting and killing threads (R120, R121, R133) -/

/-- The writers of R121: t0 of the same core, Lighthouse, a PF that holds the manager right. -/
def State.mayControl (s : State) (w : Writer) (t : Nat) : Bool :=
  s.mayWrite w (Reg.LTN_THR_CTL.off t) && (match w with
    | .thread g => g == 8 * coreOf t
    | .fn _ => s.holds w .manager
    | .lighthouse => true
    | _ => false)

/-- Put a thread at an entry address in the state of START (R133). -/
def State.startAt (s : State) (t : Nat) (pc : Word) : State :=
  let s1 := s.setThr t { Thread.fresh with st := .run, pc := pc &&& ~~~(3 : Word) }
  let s2 := s1.wr R.LTN_THR_CTL_DBG_CAUSE t 0
  let s3 := if slotOf t = 0 then s2.modCore (coreOf t) fun k =>
      { k with hbStart := some s2.time, hbPeriod := s2.rd R.LTN_CORE_HBCTL_PERIOD_US (coreOf t) } else s2
  s3.settle t

/-- START of a thread in OFF; ignored in any other state. -/
def State.startThread (s : State) (t : Nat) : State :=
  if (s.thr t).st = .off then s.startAt t (BitVec.ofNat 64 (s.rd R.LTN_THR_PC_PC t)) else s

/-- Kill of a thread (R120, R108): staging, receive buffer, events and timer are discarded and its reservation is released. -/
def State.killThread (s : State) (t : Nat) : State :=
  let busy := (s.thr t).blk.isSome || (s.thr t).lens.isSome || (s.thr t).st == .wait
  let s0 := if busy then s.countThr t 0x03 1 else s
  let s1 := s0.voidResv t
  let s2 := s1.modThr t fun th =>
    { th with st := .off, stage := [], rx := [], leaseLost := false, stepping := false, blk := none, lens := none,
              lensIn := [], exa := false }
  (s2.wrs t [(R.LTN_THR_EVPEND_PEND, 0), (R.LTN_THR_EVOVR_OVR, 0), (R.LTN_THR_TIMER_TIMER, 0),
    (R.LTN_THR_WAITMASK_MASK, 0), (R.LTN_THR_CTL_DBG_CAUSE, 0)]).settle t

/-- START (R121, R133). -/
def doStart (w : Writer) (t : Nat) (s : State) : State :=
  if t < 768 ∧ s.mayControl w t = true then s.startThread t else s

/-- KILL (R120, R121): ignored for t0; a write with both bits kills first, then starts. -/
def doKill (w : Writer) (t : Nat) (andStart : Bool) (s : State) : State :=
  if t < 768 ∧ s.mayControl w t = true then
    let s1 := if slotOf t = 0 then s else s.killThread t
    if andStart then s1.startThread t else s1
  else s

/-! ### Debug halting (R122 to R125) -/

/-- The writer of a debug field reaches it: it holds the debug right, or its write is refused and recorded (R12). -/
def State.debugOr (s : State) (w : Writer) (off : Nat) (k : State → State) : State :=
  if s.mayWrite w off then (if s.holds w .debug then k s else s.refuse w off) else s

/-- The threads of `mask` that stand in WAIT halt at once (R122). -/
def State.haltWaiting (s : State) (core mask : Nat) : State :=
  (List.range 8).foldl (fun s k =>
    if bitAt mask k && (s.thr (8 * core + k)).st == .wait then s.haltThread (8 * core + k) 1 else s) s

/-- DEBUG_HALT_REQUEST (R122): HALT_REQ takes the mask; a thread in WAIT halts at once. -/
def doDebugHaltRequest (w : Writer) (core mask : Nat) (s : State) : State :=
  if core < 96 then
    s.debugOr w (Reg.LTN_DBG_CTL.off core) fun s =>
      (s.wr R.LTN_DBG_CTL_HALT_REQ core mask).haltWaiting core mask
  else s

/-- DEBUG_HALT (R122): a requested halt takes effect at the thread's instruction boundary or progress record. -/
def doDebugHalt (t : Nat) (s : State) : State :=
  if t < 768 ∧ s.haltReq t = true ∧ ((s.thr t).st = .run ∨ (s.thr t).st = .wait) ∧
      (s.thr t).atBoundary = true then
    s.haltThread t 1
  else s

/-- A thread leaves HALT (R122): the heartbeat check of its core resumes with a fresh period when it was paused (R112). -/
def State.unhalt (s : State) (t : Nat) (stepping : Bool) : State :=
  if (s.thr t).st = .halt then
    let s1 := s.modThr t fun th => { th with st := .run, stepping := stepping }
    let s2 := if slotOf t = 0 ∧ (s1.core (coreOf t)).hbStart = none then
        s1.modCore (coreOf t) fun k =>
          { k with hbStart := some s1.time, hbPeriod := s1.rd R.LTN_CORE_HBCTL_PERIOD_US (coreOf t) }
      else s1
    s2.settle t
  else s

/-- DEBUG_RESUME (R122): each named thread leaves HALT. -/
def doDebugResume (w : Writer) (core mask : Nat) (s : State) : State :=
  if core < 96 then
    s.debugOr w (Reg.LTN_DBG_CTL.off core) fun s =>
      (bitList 8 mask).foldl (fun s k => s.unhalt (8 * core + k) false) s
  else s

/-- DEBUG_STEP (R122): each named thread leaves HALT for one instruction. -/
def doDebugStep (w : Writer) (core mask : Nat) (s : State) : State :=
  if core < 96 then
    s.debugOr w (Reg.LTN_DBG_CTL.off core) fun s =>
      (bitList 8 mask).foldl (fun s k => s.unhalt (8 * core + k) true) s
  else s

/-- HW_BREAKPOINT (R123): a thread halts before it executes the instruction at a matched address. -/
def doHwBreakpoint (t : Nat) (s : State) : State :=
  if s.canIssue t = true ∧ s.bpMatch t = true ∧ (s.thr t).stepping = false then
    s.haltThread t (if s.haltReq t then 1 else 3)
  else s

/-- DBGDATA_WRITE (R124): write the register that LTN_THR_DBGSEL selects while the thread is HALT. TSTAT takes every field but
LEASE_LOST (R131). -/
def doDbgdataWrite (w : Writer) (t val : Nat) (s : State) : State :=
  if t < 768 then
    s.debugOr w (Reg.LTN_THR_DBGDATA.off t) fun s =>
      let th := s.thr t
      let n := s.rd R.LTN_THR_DBGSEL_SEL t
      let v : Word := BitVec.ofNat 64 val
      if th.st ≠ .halt then s
      else if h : n < 32 then s.setThr t (th.setG ⟨n, h⟩ v)
      else if n = 32 then s.setThr t { th with pc := v &&& ~~~(3 : Word) }
      else if n = 33 then s.setThr t { th with prg := v }
      else if n = 34 then
        (s.setThr t { th with pl1 := bitAt val 0, ie := bitAt val 1, exa := bitAt val 2, xlate := bitAt val 3 }).settle t
      else s
  else s

/-! ### The meanings of the rows -/

/-- EVENT_LATCH (R78). -/
def execEventLatch (t : Nat) (ev : Nat) (s : State) : Host.Outcome State Fault Refusal :=
  .next (s.after (doEventLatch t ev s))

/-- MESSAGE_VISIBLE (R737). -/
def execMessageVisible (chan : Nat) (s : State) : Host.Outcome State Fault Refusal :=
  .next (s.after (doMessageVisible chan s))

/-- THREAD_TIMER_FIRE (R83). -/
def execThreadTimerFire (t : Nat) (s : State) : Host.Outcome State Fault Refusal :=
  .next (s.after (doThreadTimerFire t s))

/-- LEASE_EXPIRE (R106). -/
def execLeaseExpire (t : Nat) (s : State) : Host.Outcome State Fault Refusal :=
  .next (s.after (doLeaseExpire t s))

/-- IRQ_SET_WRITE (R92). -/
def execIrqSetWrite (w : Writer) (cluster : Nat) (k : Nat) (val : Nat) (s : State) : Host.Outcome State Fault Refusal :=
  .next (s.after (doIrqSetWrite w cluster k val s))

/-- IRQ_LATCH_CLEAR (R93). -/
def execIrqLatchClear (w : Writer) (cluster : Nat) (k : Nat) (val : Nat) (s : State) : Host.Outcome State Fault Refusal :=
  .next (s.after (doIrqLatchClear w cluster k val s))

/-- INTERRUPT_ENTRY (R185). -/
def execInterruptEntry (t : Nat) (s : State) : Host.Outcome State Fault Refusal :=
  .next (s.after (doInterruptEntry t s))

/-- FLTQ_POP (R110). -/
def execFltqPop (w : Writer) (core : Nat) (s : State) : Host.Outcome State Fault Refusal :=
  .next (s.after (doFltqPop w core s))

/-- HEARTBEAT (R112). -/
def execHeartbeat (w : Writer) (core : Nat) (s : State) : Host.Outcome State Fault Refusal :=
  .next (s.after (doHeartbeat w core s))

/-- HEARTBEAT_TIMEOUT (R112). -/
def execHeartbeatTimeout (core : Nat) (s : State) : Host.Outcome State Fault Refusal :=
  .next (s.after (doHeartbeatTimeout core s))

/-- ECLIPSE (R114). -/
def execEclipse (core : Nat) (s : State) : Host.Outcome State Fault Refusal :=
  .next (s.after (doEclipse core s))

/-- GROUP_ECLIPSE (R118). -/
def execGroupEclipse (cluster : Nat) (g : Nat) (s : State) : Host.Outcome State Fault Refusal :=
  .next (s.after (doGroupEclipse cluster g s))

/-- GROUP_CTL_WRITE (R117). -/
def execGroupCtlWrite (w : Writer) (cluster : Nat) (g : Nat) (members : Bool) (val : Nat) (s : State) :
    Host.Outcome State Fault Refusal :=
  .next (s.after (doGroupCtlWrite w cluster g members val s))

/-- CHANNEL_ENABLE (R96). -/
def execChannelEnable (w : Writer) (chan : Nat) (val : Nat) (s : State) : Host.Outcome State Fault Refusal :=
  .next (s.after (doChannelEnable w chan val s))

/-- CHANNEL_DISABLE (R97). -/
def execChannelDisable (w : Writer) (chan : Nat) (s : State) : Host.Outcome State Fault Refusal :=
  .next (s.after (doChannelDisable w chan s))

/-- START (R133). -/
def execStart (w : Writer) (t : Nat) (s : State) : Host.Outcome State Fault Refusal :=
  .next (s.after (doStart w t s))

/-- KILL (R120). -/
def execKill (w : Writer) (t : Nat) (andStart : Bool) (s : State) : Host.Outcome State Fault Refusal :=
  .next (s.after (doKill w t andStart s))

/-- DEBUG_HALT_REQUEST (R122). -/
def execDebugHaltRequest (w : Writer) (core : Nat) (mask : Nat) (s : State) : Host.Outcome State Fault Refusal :=
  .next (s.after (doDebugHaltRequest w core mask s))

/-- DEBUG_HALT (R122). -/
def execDebugHalt (t : Nat) (s : State) : Host.Outcome State Fault Refusal :=
  .next (s.after (doDebugHalt t s))

/-- DEBUG_RESUME (R122). -/
def execDebugResume (w : Writer) (core : Nat) (mask : Nat) (s : State) : Host.Outcome State Fault Refusal :=
  .next (s.after (doDebugResume w core mask s))

/-- DEBUG_STEP (R122). -/
def execDebugStep (w : Writer) (core : Nat) (mask : Nat) (s : State) : Host.Outcome State Fault Refusal :=
  .next (s.after (doDebugStep w core mask s))

/-- HW_BREAKPOINT (R123). -/
def execHwBreakpoint (t : Nat) (s : State) : Host.Outcome State Fault Refusal :=
  .next (s.after (doHwBreakpoint t s))

/-- DBGDATA_WRITE (R124). -/
def execDbgdataWrite (w : Writer) (t : Nat) (val : Nat) (s : State) : Host.Outcome State Fault Refusal :=
  .next (s.after (doDbgdataWrite w t val s))

end Sys2Proof.Machine
end

