-- ==== Sys2Proof/Machine/Storage.lean ====
section
/-!
DEFINITION. The storage front-end (09_storage_frontend.md). The layouts of the submission and completion entries, of CC and of the
feature values are those of NVM Express (log entry 8). A command's rows name it by its slot.
-/

namespace Sys2Proof.Machine

/-! ### Fields of a command -/

/-- A status: SCT, SC and DNR. -/
abbrev NStat := Nat × Nat × Nat

/-- Dword `i` of a submission entry. -/
def cdw (c : Bytes) (i : Nat) : Nat := leVal (sliceB c (4 * i) 4)

/-- Dword `i` of a slot's command. -/
def NSlot.dw (x : NSlot) (i : Nat) : Nat := cdw x.cmd i

/-- The opcode, the NSID and PSDT of a command. -/
def NSlot.opc (x : NSlot) : Nat := x.dw 0 % 256
def NSlot.nsid (x : NSlot) : Nat := x.dw 1
def NSlot.psdt (x : NSlot) : Nat := bitsAt (x.dw 0) 14 2

/-- A command of the admin queue. -/
def State.isAdmin (s : State) (x : NSlot) : Bool :=
  match x.sq with
  | some q => ((KMap.find s.nvm.sqs q).map fun e => e.id == 0).getD false
  | none => false

/-- An I/O command with an opcode. -/
def State.isIo (s : State) (x : NSlot) (o : Nat) : Bool := !s.isAdmin x && x.opc == o

/-- An admin command with an opcode. -/
def State.isAdm (s : State) (x : NSlot) (o : Nat) : Bool := s.isAdmin x && x.opc == o

/-- A Set Features (09h) or Get Features (0Ah) of a feature. -/
def State.isFeat (s : State) (x : NSlot) (o fid : Nat) : Bool := s.isAdm x o && x.dw 10 % 256 == fid

/-- The namespace record: its flags (R413). -/
def NSlot.nsFlags (x : NSlot) : Nat := (x.ns.map fun e => e.1).getD 0

/-- The size of the data of a logical block, and of its metadata (R410). -/
def NSlot.lbs (x : NSlot) : Nat := if 2 ≤ bitsAt x.nsFlags 3 2 then 4096 else 512
def NSlot.hasMd (x : NSlot) : Bool := bitsAt x.nsFlags 3 2 % 2 == 1

/-- The namespace has protection information. -/
def NSlot.hasPi (x : NSlot) : Bool := bitsAt x.nsFlags 5 2 != 0

/-- Blocks of a Read, a Write or a Write Zeroes, and its first block. -/
def NSlot.blocks (x : NSlot) : Nat := x.dw 12 % 65536 + 1
def NSlot.slba (x : NSlot) : Nat := x.dw 10 + x.dw 11 * 2 ^ 32

/-- Metadata goes over the host link: the command does not ask for its protection information to be inserted or stripped. -/
def NSlot.mdOn (x : NSlot) : Bool := x.hasMd && !(x.hasPi && bitAt (x.dw 12) 29)

/-- Write-kind commands (R429). -/
def State.isWriteKind (s : State) (x : NSlot) : Bool := s.isIo x 1 || s.isIo x 8 || s.isIo x 9

/-- A command moves data to the device, or to the host. -/
def State.toDevice (s : State) (x : NSlot) : Bool := s.isIo x 1 || s.isIo x 9
def State.toHost (s : State) (x : NSlot) : Bool := s.isIo x 2 || s.isAdm x 6 || s.isAdm x 2

/-- The data length of a command, and its separate metadata (R415). -/
def State.dataLen (s : State) (x : NSlot) (sep : Bool) : Nat × Nat :=
  if s.isIo x 1 ∨ s.isIo x 2 then
    (x.blocks * x.lbs + (if x.mdOn && !sep then 8 * x.blocks else 0), if x.mdOn && sep then 8 * x.blocks else 0)
  else if s.isIo x 9 then (16 * (x.dw 10 % 256 + 1), 0)
  else if s.isAdm x 6 then (4096, 0)
  else if s.isAdm x 2 then (4 * (bitsAt (x.dw 10) 16 16 + x.dw 11 % 65536 * 65536 + 1), 0)
  else (0, 0)

/-- EN, MPS (as a page size) and AMS of CC. -/
def NCtl.en (x : NCtl) : Bool := bitAt x.cc 0
def NCtl.page (x : NCtl) : Nat := 4096 * 2 ^ bitsAt x.cc 7 4
def NCtl.wrr (x : NCtl) : Bool := bitsAt x.cc 11 3 == 1

/-- The slot with a number. -/
def State.nslot (s : State) (n : Nat) : Option NSlot := KMap.find s.nvm.slots n

/-- Set a slot. -/
def State.setNslot (s : State) (n : Nat) (x : NSlot) : State := s.modNvm fun v => { v with slots := KMap.put v.slots n x }

/-- The slots of a function. -/
def State.slotsOf (s : State) (f : Nat) : List (Nat × NSlot) := s.nvm.slots.filter fun e => e.2.fn == f

/-- The CSTS register of a controller (R406, R444). -/
def State.csts (s : State) (f : Nat) : Nat :=
  let x := s.nctl f
  b2n x.rdy + 4 * x.shst + 32 * b2n (s.rd R.NVM_FWACT_STATE 0 != 0)

/-! ### Messages to the service (R422, R423) -/

/-- Service channel `i` takes messages. -/
def State.svcOpen (s : State) (i : Nat) : Bool :=
  s.flag R.NVM_SVC_CHAN_EN i && s.flag R.LTN_CH_CFG_ENABLE (s.rd R.NVM_SVC_CHAN_CHAN i)

/-- Commit the messages that wait, oldest first, as far as there is room; one for a closed channel is lost. -/
def State.flushSvc : Nat → State → State
  | 0, s => s
  | fuel + 1, s => match s.nvm.msgs with
    | [] => s
    | (i, w) :: r =>
      let s1 := s.modNvm fun v => { v with msgs := r }
      if !s.svcOpen i then State.flushSvc fuel s1
      else if s.chanRoom (s.rd R.NVM_SVC_CHAN_CHAN i) then State.flushSvc fuel (s1.hwCommit (s.rd R.NVM_SVC_CHAN_CHAN i) w)
      else s

/-- Send a CANCEL or an EVENT. -/
def State.svcSend (s : State) (i : Nat) (w : List Nat) : State :=
  let s1 := s.modNvm fun v => { v with msgs := v.msgs ++ [(i, w)] }
  State.flushSvc s1.nvm.msgs.length s1

/-- The service channel of a command (R422). -/
def State.svcOf (s : State) (x : NSlot) : Nat :=
  if s.isAdmin x && x.opc != 6 then 0 else if x.ns.isSome then bitsAt x.nsFlags 8 4 else 0

/-- CANCEL of a slot (R423). -/
def State.cancel (s : State) (n : Nat) (x : NSlot) : State := s.svcSend (s.svcOf x) [n % 32768 + 2 ^ 60]

/-- EVENT (R417). -/
def State.svcEvent (s : State) (f ty info : Nat) : State := s.svcSend 0 [f * 2 ^ 16 + ty * 2 ^ 32 + info * 2 ^ 40 + 2 * 2 ^ 60]

/-! ### The end of a command (R419, R423, R424) -/

/-- NVM_FWACT becomes PAUSED when no slot is in use (R443). -/
def State.settlePause (s : State) : State :=
  if s.rd R.NVM_FWACT_STATE 0 = 1 ∧ s.nvm.slots.isEmpty = true then (s.wr R.NVM_FWACT_STATE 0 2).latchLine 50 else s

/-- A write-kind command of a function that was handed on in its previous life has not been answered (R439). -/
def State.oldWrites (s : State) (f : Nat) : Bool :=
  (s.slotsOf f).any fun e => e.2.phase == .caught && e.2.posted && !e.2.units.isEmpty

/-- CSTS.RDY sets once the front-end is in use (R412) and no write of a previous life can land (R439, R441). -/
def State.settleRdy (s : State) (f : Nat) : State :=
  let x := s.nctl f
  if x.en && !x.rdy && x.shut == .none_ && s.flag R.NVM_CFG_EN 0 && !s.oldWrites f then s.setNctl f { x with rdy := true } else s

/-- End the data movement of a slot. -/
def State.endMove (s : State) (x : NSlot) : State :=
  match x.job with
  | some j => (s.forgetJob j).endJob j
  | none => s

/-- Free a slot and its staging buffer. -/
def State.freeSlot (s : State) (n : Nat) (x : NSlot) : State :=
  ((((s.endMove x).modNvm fun v => { v with slots := KMap.del v.slots n }).settleFn x.fn).settlePause).settleRdy x.fn

/-- The statuses of R58 as NVMe statuses (R419). -/
def nvmeStatus (st : Nat) : NStat :=
  if st = CplStat.ok.code then (0, 0x00, 0)
  else if st = CplStat.dmaReadFault.code ∨ st = CplStat.dmaWriteFault.code ∨ st = CplStat.atsFault.code
      ∨ st = CplStat.pageUnresolved.code then (0, 0x04, 1)
  else if st = CplStat.bmeLost.code ∨ st = CplStat.carryCheck.code then (0, 0x04, 0)
  else if st = CplStat.aborted.code then (0, 0x07, 1)
  else if st = CplStat.abortedFwAct.code ∨ st = CplStat.unitRetiredRetry.code then (0, 0x21, 0)
  else if st = CplStat.windowMiss.code then (0, 0x06, 0)
  else (0, 0x06, 1)

/-- The bytes of a completion entry, Phase Tag aside. -/
def nvmeEntry (dw0 head sq cid : Nat) (r : NStat) : Bytes :=
  leBytes 4 dw0 ++ zeros 4 ++ leBytes 2 head ++ leBytes 2 sq ++ leBytes 2 cid
    ++ leBytes 2 (2 * (r.2.1 % 256) + r.1 % 8 * 2 ^ 9 + r.2.2 % 2 * 2 ^ 15)

/-- The command ends: its one completion is posted (R424). A slot that the service holds is freed at its answer (R423). -/
def State.finishSlot (s : State) (n : Nat) (r : NStat) (dw0 : Nat) : State :=
  match s.nslot n with
  | none => s
  | some x =>
    if x.posted then s
    else
      let held := x.phase == .handed
      let y := { x with posted := true, phase := if held then .caught else x.phase, res := r, dw0 := dw0, job := none }
      let s1 := (s.endMove x).setNslot n y
      let s2 := match x.sq with
        | some q => match KMap.find s.nvm.sqs q with
          | some e => s1.postNvme x.cq (nvmeEntry dw0 e.head e.id x.cid r) x.id
          | none => s1
        | none => s1
      let s3 := if s.isWriteKind x then
          s2.modNctl x.fn fun c => { c with wseq := KMap.put c.wseq x.nsid (KMap.getD c.wseq x.nsid 0 + 1) }
        else s2
      if held then s3.settleFn x.fn else s3.freeSlot n y

/-- A status whose DNR the spec does not state: that bit is a free value. -/
def State.openStat (s : State) (sct sc : Nat) : NStat × State := ((sct, sc, s.draw.1 % 2), s.draw.2)

/-- The command fails with a status whose DNR the spec does not state. -/
def State.failSlot (s : State) (n sct sc : Nat) : State :=
  let d := s.openStat sct sc
  d.2.finishSlot n d.1 0

/-! ### Enabling (R412) and doorbells (R417) -/

/-- The staging pool (R415). -/
def State.poolBase (s : State) : Nat := s.rd R.NVM_STAGE_BASE 0 * 2 ^ 21
def State.poolSize (s : State) : Nat := 2 ^ s.rd R.NVM_STAGE_SIZE_LOG2 0

/-- The slot record of a slot (R414). -/
def State.slotRec (s : State) (n : Nat) : Nat := s.rd R.NVM_SLOT_BASE_BASE 0 * 2 ^ 20 + 32 * n

/-- A write of NVM_CFG (R412). -/
def State.wrNvmCfg (s : State) (val : Nat) : State :=
  if !bitAt val 0 then s.wr R.NVM_CFG_EN 0 0
  else if s.flag R.NVM_CFG_EN 0 then s
  else if inHbm s.part (s.rd R.NVM_NSMAP_BASE_BASE 0 * 2 ^ 25) (2 ^ 25)
      && inHbm s.part (s.rd R.NVM_SLOT_BASE_BASE 0 * 2 ^ 20) (2 ^ 20) && inHbm s.part s.poolBase s.poolSize then
    let s1 := s.wrs 0 [(R.NVM_CFG_EN, 1), (R.NVM_CFG_CFG_ERR, 0)]
    (s1.nvm.ctls.map fun e => e.1).foldl State.settleRdy s1
  else s.wr R.NVM_CFG_CFG_ERR 0 1

/-- NVM_ENABLE (R412). -/
def doNvmEnable (w : Writer) (val : Nat) (s : State) : State :=
  if s.mayWrite w (Reg.NVM_CFG.off 0) then s.wrNvmCfg val else s

/-- The submission queue of a controller with an ID. -/
def State.findSq (s : State) (f id : Nat) : Option (Nat × NSq) := s.nvm.sqs.find? fun e => e.2.fn == f && e.2.id == id

/-- The completion queue of a controller with an ID. -/
def State.findCq (s : State) (f id : Nat) : Option (Nat × NCq) := s.nvm.cqs.find? fun e => e.2.fn == f && e.2.id == id

/-- A doorbell write is ignored, counted and reported (R417): error events, 0 for a register that does not exist, 1 for a value. -/
def State.nvmeDbBad (s : State) (f info : Nat) : State := (s.sat R.NVM_STAT_DB_BAD 0 1).svcEvent f 0 info

/-- A write of an SQ tail doorbell (R417, R436, R437). -/
def State.ringNvmeSq (s : State) (f id tail : Nat) : State :=
  let s := s.count 67 0x03 1
  match s.findSq f id with
  | none => s.nvmeDbBad f 0
  | some (q, x) =>
    if x.size ≤ tail then s.nvmeDbBad f 1
    else
      let s1 := s.modNvm fun v => { v with sqs := KMap.put v.sqs q { x with tail := tail } }
      let c := s.nctl f
      if c.ps = 2 ∧ x.head ≠ tail then s1.setNctl f { c with ps := c.opPs } else s1

/-- A write of a CQ head doorbell (R417). -/
def State.ringNvmeCq (s0 : State) (f id head : Nat) : State :=
  let s := s0.count 67 0x03 1
  match s.findCq f id with
  | none => s.nvmeDbBad f 0
  | some (c, q) =>
    if q.size ≤ head ∨ (q.tail + q.size - q.head) % q.size < (head + q.size - q.head) % q.size then s.nvmeDbBad f 1
    else (s.setNcq c { q with head := head, ovf := q.ovf && decide (q.spilled ≠ []) }).ackVector f q.vec

/-- A doorbell reaches a function that presents a controller (R405, R456). -/
def State.viaNvme (s : State) (f : Nat) (k : State → State) : State :=
  s.viaBar f fun s => if s.flag R.NVM_CTRL_CFG_ACTIVE f then k s else s.badAccess f

/-- NVME_SQ_DOORBELL (R417). -/
def doNvmeSqDoorbell (fn id tail : Nat) (s : State) : State := s.viaNvme fn fun s => s.ringNvmeSq fn id tail

/-- NVME_CQ_DOORBELL (R417). -/
def doNvmeCqDoorbell (fn id head : Nat) (s : State) : State := s.viaNvme fn fun s => s.ringNvmeCq fn id head

/-! ### Fetch and arbitration (R414, R415, R420, R421) -/

/-- Room for the largest transfer that MDTS allows, with its separate metadata (R410, R415). -/
def bufMax : Nat := 0x208000

/-- A buffer at an offset of the pool touches no other. -/
def State.bufFits (s : State) (off n : Nat) : Bool :=
  decide (off + n ≤ s.poolSize) && s.nvm.slots.all fun e => match e.2.buf with
    | some (o, k) => decide (off + n ≤ o ∨ o + k ≤ off)
    | none => true

/-- Offsets at which a buffer fits if it fits anywhere: the start of the pool and the end of every buffer. -/
def State.bufEnds (s : State) : List Nat :=
  0 :: s.nvm.slots.map fun e => match e.2.buf with
    | some (o, k) => o + k
    | none => 0

/-- A free offset for a buffer: a free choice (log entry 3). -/
def State.placeBuf (s : State) (n : Nat) : Option Nat × State :=
  let d := s.draw
  ((((d.1 % (s.poolSize / 4096)) * 4096) :: s.bufEnds).find? fun o => s.bufFits o n, d.2)

/-- A slot and a buffer for the largest transfer are free (R415). -/
def State.nvmeRoom (s : State) : Bool :=
  decide (s.nvm.slots.length < 32768) && s.bufEnds.any fun o => s.bufFits o bufMax

/-- The first number from `d` on, modulo `m`, that is not used; `n` numbers are used. -/
def pickFree (d m n : Nat) (used : Nat → Bool) : Option Nat :=
  ((List.range (n + 1)).map fun k => (d + k) % m).find? fun t => !used t

/-- The namespace record of a command, read once (R413). A record that its checks refuse, or that reads poisoned, is not valid. -/
def State.nsRecord (s : State) (f nsid : Nat) : Option (Nat × Nat) :=
  if 1 ≤ nsid ∧ nsid ≤ 256 then
    let a := s.rd R.NVM_NSMAP_BASE_BASE 0 * 2 ^ 25 + 32 * (256 * f + nsid - 1)
    let w := s.mval a 8
    let ok := bitAt w 0 && decide (w < 2 ^ 12) && bitsAt w 5 2 != 2 && (bitsAt w 5 2 == 0 || bitsAt w 3 2 % 2 == 1)
      && s.flag R.NVM_SVC_CHAN_EN (bitsAt w 8 4) && !s.badRange a 16
    if ok then some (w, s.mval (a + 8) 8) else none
  else none

/-- No data pointers. -/
def NWalk.none_ : NWalk := ⟨[], 0, .done, [], none⟩

/-- A fetched command in its slot. -/
def State.newSlot (s : State) (f : Nat) (sq : Option Nat) (cq : Nat) (b : Bytes) : Option (Nat × State) :=
  let d := s.draw
  match pickFree (d.1 % 32768) 32768 s.nvm.slots.length (fun t => (KMap.find s.nvm.slots t).isSome) with
  | none => none
  | some n =>
    let p := d.2.placeBuf bufMax
    let x : NSlot :=
      { id := s.nvm.nextId, fn := f, sq := sq, cq := cq, cid := bitsAt (cdw b 0) 16 16, cmd := b, ns := s.nsRecord f (cdw b 1)
        phase := .fetched, sep := false, walk := NWalk.none_, buf := p.1.map fun o => (o, bufMax), job := none, units := []
        seqs := [], res := (0, 0, 0), dw0 := 0, posted := false, tailAt := none, target := none }
    some (n, (p.2.modNvm fun v => { v with nextId := v.nextId + 1 }).setNslot n x)

/-- Fetch the next command of a queue. One that could not be read ends with its status; its CID is then a free value. -/
def State.fetchOne (s : State) (q : Nat) (x : NSq) (r : ReadResult) : State :=
  let s1 := s.emitReads ⟨x.fn, 0, false, none, false⟩ 64 (x.base + 64 * x.head) 64
  let s2 := s1.modNvm fun v => { v with sqs := KMap.put v.sqs q { x with head := (x.head + 1) % x.size } }
  match r with
  | .data b =>
    match (s2.count 31 0x01 1).newSlot x.fn (some q) x.cq (sliceB b 0 64) with
    | some (n, s3) =>
      match s3.nslot n with
      | some y =>
        if s3.isAdm y 8 then
          s3.setNslot n { y with tailAt := (s3.findSq x.fn (y.dw 10 % 65536)).map fun e => e.2.tail }
        else s3
      | none => s3
    | none => s2
  | .failed st =>
    let d := s2.draw
    d.2.postNvme x.cq (nvmeEntry 0 ((x.head + 1) % x.size) x.id (d.1 % 65536) (nvmeStatus st)) (2 ^ 64)

/-- Fetch up to a number of commands of a queue, and no further than `stop` when that is given; the answer is how many. -/
def State.fetchSq (q : Nat) (stop : Option Nat) : Nat → List ReadResult → State → Nat × State
  | 0, _, s => (0, s)
  | k + 1, rs, s =>
    match KMap.find s.nvm.sqs q with
    | none => (0, s)
    | some x =>
      if x.head = x.tail ∨ stop = some x.head ∨ s.nvmeRoom = false ∨ s.ncqRoom x.cq = 0 then (0, s)
      else
        let r := State.fetchSq q stop k (rs.drop 1) (s.fetchOne q x (rs.headD (.failed CplStat.dmaReadFault.code)))
        (r.1 + 1, r.2)

/-- A controller may have commands fetched (R412, R438, R440, R443, R513, R541). -/
def State.ctlOpen (s : State) (f : Nat) : Bool :=
  let x := s.nctl f
  x.en && x.rdy && x.shut == .none_ && s.flag R.NVM_CFG_EN 0 && s.rd R.NVM_FWACT_STATE 0 == 0 && s.mayFetch f

/-- A queue has an entry that may be fetched. -/
def State.nsqReady (s : State) (x : NSq) : Bool := x.head != x.tail && !x.del && decide (0 < s.ncqRoom x.cq)

/-- The ready I/O queues of a controller in a class (4: every class), by number in the pool. -/
def State.classReady (s : State) (f cls : Nat) : List (Nat × NSq) :=
  s.nvm.sqs.filter fun e => e.2.fn == f && e.2.id != 0 && (cls == 4 || e.2.prio == cls) && s.nsqReady e.2

/-- The entry with the smallest ID of a list. -/
def leastId (l : List (Nat × NSq)) : Option (Nat × NSq) :=
  l.foldl (fun m e => match m with
    | some x => if e.2.id < x.2.id then some e else m
    | none => some e) none

/-- The next ready queue of a class, after the one served last, in ascending SQID order. -/
def State.rrNext (s : State) (f cls : Nat) : Option (Nat × NSq) :=
  let l := s.classReady f cls
  let p := KMap.getD (s.nctl f).rr cls 0
  match leastId (l.filter fun e => decide (p < e.2.id)) with
  | some e => some e
  | none => leastId l

/-- Fetch from the next queue of a class. -/
def State.fetchClass (s : State) (f cls limit : Nat) (reads : List ReadResult) : Nat × State :=
  match s.rrNext f cls with
  | none => (0, s)
  | some (q, x) =>
    State.fetchSq q none limit reads (s.modNctl f fun c => { c with rr := KMap.put c.rr cls x.id })

/-- Credit of a class: 0 high, 1 medium, 2 low. -/
def NCtl.credit (x : NCtl) (k : Nat) : Nat := if k = 0 then x.cred.1 else if k = 1 then x.cred.2.1 else x.cred.2.2

/-- Take from the credit of a class. -/
def NCtl.spend (x : NCtl) (k n : Nat) : NCtl :=
  { x with cred := (x.cred.1 - (if k = 0 then n else 0), x.cred.2.1 - (if k = 1 then n else 0), x.cred.2.2 - (if k = 2 then n else 0)) }

/-- Refill the credits (R420). -/
def NCtl.refill (x : NCtl) : NCtl := { x with cred := (x.hpw + 1, x.mpw + 1, x.lpw + 1) }

/-- The class to serve: the first from the class visit pointer on with credit and a ready queue. -/
def State.classPick (s : State) (f : Nat) : Option Nat :=
  let x := s.nctl f
  ((List.range 3).map fun i => (x.cls + i) % 3).find? fun k => decide (0 < x.credit k) && !(s.classReady f (k + 1)).isEmpty

/-- Serve a weighted class. -/
def State.serveClass (s : State) (f k burst : Nat) (reads : List ReadResult) : Nat × State :=
  let r := s.fetchClass f (k + 1) (Nat.min burst ((s.nctl f).credit k)) reads
  (r.1, r.2.modNctl f fun c => { c.spend k r.1 with cls := (k + 1) % 3 })

/-- One step of a controller's arbiter (R420); the answer is the commands taken. -/
def State.arbitrate (s : State) (f : Nat) (reads : List ReadResult) : Nat × State :=
  let x := s.nctl f
  let burst := if x.ab = 7 then 4096 else 2 ^ x.ab
  match s.findSq f 0 with
  | some (q, a) =>
    if s.nsqReady a then State.fetchSq q none 1 reads s
    else if !x.wrr then s.fetchClass f 4 burst reads
    else if !(s.classReady f 0).isEmpty then s.fetchClass f 0 burst reads
    else match s.classPick f with
      | some k => s.serveClass f k burst reads
      | none =>
        let s1 := s.modNctl f NCtl.refill
        match s1.classPick f with
        | some k => s1.serveClass f k burst reads
        | none => (0, s1)
  | none => (0, s)

/-- A controller has a ready queue. -/
def State.ctlReady (s : State) (f : Nat) : Bool :=
  s.ctlOpen f && s.nvm.sqs.any fun e => e.2.fn == f && s.nsqReady e.2

/-- NVME_ARBITRATE (R420, R421): one step of the visit in progress, or of the next controller with a ready queue. -/
def doNvmeArbitrate (reads : List ReadResult) (s : State) : State :=
  if !s.nvmeRoom then s
  else
    let v := s.nvm.visit
    let fs := ((s.nvm.ctls.map fun e => e.1).filter s.ctlReady)
    let stay := s.ctlReady v && decide (s.nvm.taken < s.rd R.NVM_CTRL_CFG_WEIGHT v)
    match (if stay then some v else match fs.find? fun f => decide (v < f) with
        | some f => some f
        | none => fs.head?) with
    | none => s
    | some f =>
      let r := s.arbitrate f reads
      r.2.modNvm fun n => { n with visit := f, taken := (if stay then n.taken else 0) + r.1 }

/-! ### Data pointers (R418) -/

/-- The walk is over: what remains is the descriptor of the metadata. -/
def NWalk.over (w : NWalk) (mptr : Option Nat) : NWalk :=
  match mptr with
  | some a => { w with next := .mptr a }
  | none => { w with next := .done }

/-- One SGL descriptor; `last`: it is the last of its segment; `final`: the segment is a last one. -/
def NWalk.sglOne (w : NWalk) (d : Bytes) (last final : Bool) (mptr : Option Nat) : NWalk :=
  let ty := leVal (sliceB d 15 1)
  let a := leVal (sliceB d 0 8)
  let n := leVal (sliceB d 8 4)
  if ty = 0 then
    if w.left < n then { w with bad := some (0, 0x0F) }
    else if !last then { w with ranges := w.ranges ++ [(a, n)], left := w.left - n }
    else if !final then { w with bad := some (0, 0x0D) }
    else if n = w.left then { w with ranges := w.ranges ++ [(a, n)], left := 0 }.over mptr
    else { w with bad := some (0, 0x0F) }
  else if ty = 0x20 ∨ ty = 0x30 then
    if !last || final || n == 0 || n % 16 != 0 then { w with bad := some (0, 0x0D) }
    else { w with next := .sgl a n (ty == 0x30) }
  else { w with bad := some (0, 0x11) }

/-- The descriptors of a segment in order, as far as none is bad. -/
def NWalk.sglSeg (mptr : Option Nat) (final : Bool) : List Bytes → NWalk → NWalk
  | [], w => w
  | d :: r, w =>
    let w1 := w.sglOne d r.isEmpty final mptr
    if w1.bad.isSome then w1 else NWalk.sglSeg mptr final r w1

/-- The entries of a PRP list in order; the last one of a page names the next list when more remain than the page holds. -/
def NWalk.prpList (page : Nat) (mptr : Option Nat) (chain : Bool) : List Nat → NWalk → NWalk
  | [], w => if w.left = 0 then w.over mptr else w
  | e :: r, w =>
    if e % page ≠ 0 then { w with bad := some (0, 0x13) }
    else if r.isEmpty && chain then { w with next := .prp e }
    else NWalk.prpList page mptr chain r { w with ranges := w.ranges ++ [(e, Nat.min page w.left)], left := w.left - page }

/-- Entries of a list page from an address, as many as remain. -/
def prpCount (page a left : Nat) : Nat × Bool :=
  let room := (page - a % page) / 8
  let need := (left + page - 1) / page
  (Nat.min room need, decide (room < need))

/-- The walk of a command's pointers as the command itself gives them. -/
def State.walkStart (s : State) (x : NSlot) (sep : Bool) : NWalk :=
  let l := s.dataLen x sep
  let page := (s.nctl x.fn).page
  let mp := leVal (sliceB x.cmd 16 8)
  let mptr := if x.psdt = 2 ∧ l.2 ≠ 0 then some mp else none
  let w : NWalk := ⟨[], l.1, .done, if x.psdt < 2 ∧ l.2 ≠ 0 then [(mp, l.2)] else [], none⟩
  let p1 := leVal (sliceB x.cmd 24 8)
  let p2 := leVal (sliceB x.cmd 32 8)
  if l.1 = 0 then NWalk.none_
  else if x.psdt ≠ 0 then
    if leVal (sliceB x.cmd 39 1) = 0 then w.sglOne (sliceB x.cmd 24 16) true true mptr
    else w.sglOne (sliceB x.cmd 24 16) true false mptr
  else if p1 % 4 ≠ 0 then { w with bad := some (0, 0x13) }
  else
    let n := Nat.min l.1 (page - p1 % page)
    let w1 := { w with ranges := [(p1, n)], left := l.1 - n }
    if w1.left = 0 then w1.over mptr
    else if w1.left ≤ page then
      if p2 % page ≠ 0 then { w1 with bad := some (0, 0x13) }
      else { w1 with ranges := w1.ranges ++ [(p2, w1.left)], left := 0 }.over mptr
    else if p2 % 8 ≠ 0 then { w1 with bad := some (0, 0x13) }
    else { w1 with next := .prp p2 }

/-- What the walk of a slot reads next: address and length. -/
def State.walkNext (s : State) (x : NSlot) : Option (Nat × Nat) :=
  if x.walk.bad.isSome then none
  else match x.walk.next with
    | .done => none
    | .prp a => some (a, 8 * (prpCount (s.nctl x.fn).page a x.walk.left).1)
    | .sgl a n _ => some (a, n)
    | .mptr a => some (a, 16)

/-- One read of the walk (R418). -/
def State.walkOne (s : State) (n : Nat) (r : ReadResult) : State :=
  match s.nslot n with
  | none => s
  | some x => match s.walkNext x with
    | none => s
    | some (a, k) =>
      let s1 := s.emitReads ⟨x.fn, 0, false, none, false⟩ (k + 1) a k
      let sepLen := (s.dataLen x x.sep).2
      let mptr := if x.psdt = 2 ∧ sepLen ≠ 0 then some (leVal (sliceB x.cmd 16 8)) else none
      let w := x.walk
      let w1 := match r with
        | .failed st => { w with bad := some ((nvmeStatus st).1, (nvmeStatus st).2.1) }
        | .data b => match w.next with
          | .done => w
          | .prp _ =>
            let page := (s.nctl x.fn).page
            NWalk.prpList page mptr (prpCount page a w.left).2 ((List.range (k / 8)).map fun i => leVal (sliceB b (8 * i) 8)) w
          | .sgl _ _ final => NWalk.sglSeg mptr final ((List.range (k / 16)).map fun i => sliceB b (16 * i) 16) w
          | .mptr _ =>
            if leVal (sliceB b 15 1) ≠ 0 then { w with bad := some (0, 0x11) }
            else if leVal (sliceB b 8 4) ≠ sepLen then { w with bad := some (0, 0x0F) }
            else { w with sep := [(leVal (sliceB b 0 8), sepLen)], next := .done }
      s1.setNslot n { x with walk := w1 }

/-- Go on with the walk by the reads that have returned. -/
def State.walkRun (s : State) (n : Nat) (reads : List ReadResult) : State := reads.foldl (fun s r => s.walkOne n r) s

/-- The host ranges of a slot that are known, in the order in which its data moves: data, then separate metadata. -/
def NSlot.known (x : NSlot) : List (Nat × Nat) :=
  x.walk.ranges ++ (if x.walk.next = .done ∧ x.walk.left = 0 then x.walk.sep else [])

/-! ### The checks of R418 -/

/-- Opcodes of R409. -/
def opcodeGood (admin : Bool) (o : Nat) : Bool :=
  if admin then [0x00, 0x01, 0x02, 0x04, 0x05, 0x06, 0x08, 0x09, 0x0A, 0x0C].contains o else [0, 1, 2, 8, 9].contains o

/-- Features of R409; those that the front-end answers. -/
def featureGood (fid : Nat) : Bool := [1, 2, 4, 6, 7, 8, 9, 0x0A, 0x0B].contains fid
def featureOwn (fid : Nat) : Bool := [1, 2, 7, 8, 9].contains fid

/-- Bits of the command dwords that are reserved for an opcode: dword and mask. -/
def reservedBits (admin : Bool) (o : Nat) : List (Nat × Nat) :=
  let all := fun (l : List Nat) => l.map fun i => (i, 0xFFFFFFFF)
  (0, 0x3C00) :: (2, 0xFFFFFFFF) :: (3, 0xFFFFFFFF) ::
  (if admin then
    (if o = 0 ∨ o = 4 then (10, 0xFFFF0000) :: all [11, 12, 13, 14, 15]
     else if o = 1 then (11, 0x0000FFF8) :: all [12, 13, 14, 15]
     else if o = 5 then (11, 0x0000FFFC) :: all [12, 13, 14, 15]
     else if o = 8 then all [11, 12, 13, 14, 15]
     else if o = 0x0C then all [10, 11, 12, 13, 14, 15]
     else [])
   else
    (if o = 0 then all [10, 11, 12, 13, 14, 15]
     else if o = 1 ∨ o = 2 then [(12, 0x03FF0000), (13, 0xFFFFFF00)]
     else if o = 8 then [(12, 0x01FF0000), (13, 0xFFFFFF00)]
     else (10, 0xFFFFFF00) :: (11, 0xFFFFFFF8) :: all [12, 13, 14, 15]))

/-- The fields of the second check of R418 are good; a Dataset Management deallocates and does nothing else (R409). -/
def State.fieldsGood (s : State) (x : NSlot) : Bool :=
  bitsAt (x.dw 0) 8 2 == 0 && x.psdt != 3
    && (reservedBits (s.isAdmin x) x.opc).all (fun e => x.dw e.1 &&& e.2 == 0)
    && (!(s.isAdm x 9 || s.isAdm x 0x0A) || featureGood (x.dw 10 % 256))
    && (!s.isIo x 9 || x.dw 11 == 4)

/-- The command names a namespace: an I/O command, or an Identify of one (CNS 00h and 03h). -/
def State.namesNs (s : State) (x : NSlot) : Bool :=
  !s.isAdmin x || (s.isAdm x 6 && (x.dw 10 % 256 == 0 || x.dw 10 % 256 == 3))

/-- The first check of R418 that fails, SGL and PRP lists aside. -/
def State.checkFails (s : State) (n : Nat) (x : NSlot) (sep : Bool) : Option (Nat × Nat) :=
  let rw_ := s.isIo x 1 || s.isIo x 2 || s.isIo x 8
  if !opcodeGood (s.isAdmin x) x.opc then some (0, 0x01)
  else if !s.fieldsGood x then some (0, 0x02)
  else if s.nvm.slots.any fun e => e.1 != n && e.2.sq == x.sq && e.2.cid == x.cid && !e.2.posted then some (0, 0x03)
  else if s.namesNs x && x.ns.isNone && !(s.isIo x 0 && x.nsid == 0xFFFFFFFF) then some (0, 0x0B)
  else if decide (0x200000 < (s.dataLen x sep).1) then some (0, 0x02)
  else if rw_ && decide ((x.ns.map fun e => e.2).getD 0 < x.slba + x.blocks) then some (0, 0x80)
  else if rw_ && !x.hasPi && bitsAt (x.dw 12) 26 4 != 0 then some (0, 0x02)
  else if s.isWriteKind x && bitAt x.nsFlags 1 then some (0, 0x20)
  else (s.walkStart x sep).bad

/-- The staging buffer shrinks to the command's length (R415). -/
def State.shrunk (s : State) (x : NSlot) (sep : Bool) : Option (Nat × Nat) :=
  let l := s.dataLen x sep
  let k := (l.1 + l.2 + 4095) / 4096 * 4096
  match x.buf with
  | some (o, _) => if k = 0 then none else some (o, k)
  | none => none

/-- A command that nothing but the service handles, and that has no row of its own before its hand-off. -/
def State.plainService (s : State) (x : NSlot) : Bool :=
  (s.isAdm x 9 || s.isAdm x 0x0A) && !featureOwn (x.dw 10 % 256)

/-- NVME_COMMAND_CHECK (R418). `sep`: metadata is separate, which the record of R413 does not say. -/
def doNvmeCommandCheck (slot : Nat) (sep : Bool) (reads : List ReadResult) (s : State) : State :=
  match s.nslot slot with
  | none => s
  | some x =>
    if x.phase ≠ .fetched then s
    else match s.checkFails slot x sep with
      | some e =>
        let s1 := if e = (0, 0x03) then s.sat R.NVM_STAT_CID_CONFLICT 0 1 else s
        s1.failSlot slot e.1 e.2
      | none =>
        let y := { x with
          phase := if s.plainService x then .ready else .checked, sep := sep, walk := s.walkStart x sep, buf := s.shrunk x sep }
        let s1 := (s.setNslot slot y).walkRun slot reads
        match s1.nslot slot with
        | some z => match z.walk.bad with
          | some e => s1.failSlot slot e.1 e.2
          | none => s1
        | none => s1

/-- The slot holds a command of a kind that has passed its checks. -/
def State.checkedAs (s : State) (n : Nat) (p : NSlot → Bool) : Option NSlot :=
  match s.nslot n with
  | some x => if x.phase == .checked && p x then some x else none
  | none => none

/-! ### Protection information (R55, R416) -/

/-- CRC-16 T10-DIF. -/
def t10Byte (c : Nat) (b : Byte) : Nat :=
  (List.range 8).foldl (fun c _ => if 32768 ≤ c then (2 * c % 65536) ^^^ 0x8BB7 else 2 * c) (c ^^^ b.toNat * 256)
def t10 (bs : Bytes) : Nat := bs.foldl t10Byte 0

/-- Where block `i` and its metadata lie in the staged bytes of a command. -/
def NSlot.blockAt (x : NSlot) (i : Nat) : Nat × Nat :=
  if x.sep then (i * x.lbs, x.blocks * x.lbs + 8 * i) else (i * (x.lbs + 8), i * (x.lbs + 8) + x.lbs)

/-- The guard tag that a block should carry. -/
def NSlot.guardOf (x : NSlot) (bs : Bytes) (i : Nat) : Nat := t10 (sliceB bs (x.blockAt i).1 x.lbs)

/-- Guard tags go over the host link with a command. -/
def State.guarded (s : State) (x : NSlot) : Bool := (s.isIo x 1 || s.isIo x 2) && x.hasPi && x.mdOn

/-- Every guard tag of the bytes is right. -/
def NSlot.guardsGood (x : NSlot) (bs : Bytes) : Bool :=
  (List.range x.blocks).all fun i => sliceB bs (x.blockAt i).2 2 == beBytes 2 (x.guardOf bs i)

/-- The bytes with the guard tags generated, those of block `wrong` inverted. -/
def NSlot.withGuards (x : NSlot) (bs : Bytes) (wrong : Option Nat) : Bytes :=
  (List.range x.blocks).foldl (fun b i =>
    let g := x.guardOf bs i
    placeAt b (x.blockAt i).2 (beBytes 2 (if wrong = some i then 0xFFFF - g else g))) bs

/-! ### Staging (R415, R416) -/

/-- The units that a command of whole blocks touches (R429). -/
def NSlot.unitRange (x : NSlot) (lba n : Nat) : Nat × Nat := (lba * x.lbs / 131072, ((lba + n) * x.lbs - 1) / 131072)

/-- The units of a Dataset Management, from its ranges. -/
def NSlot.dsmUnits (x : NSlot) (bs : Bytes) : List (Nat × Nat) :=
  ((List.range (bs.length / 16)).filter fun i => leVal (sliceB bs (16 * i + 4) 4) != 0).map fun i =>
    x.unitRange (leVal (sliceB bs (16 * i + 8) 8)) (leVal (sliceB bs (16 * i + 4) 4))

/-- The internal address of a slot's staging buffer. -/
def State.stageAt (s : State) (x : NSlot) : Nat := s.poolBase + ((x.buf.map fun e => e.1).getD 0)

/-- Bytes of a Write that have reached the staging buffer are counted (R646). -/
def State.countWrite (s : State) (x : NSlot) (n : Nat) : State := if s.isIo x 1 then s.count 31 0x03 n else s

/-- Move the data of a checked command into its staging buffer; once it is whole and its guard tags are right, the command is ready. -/
def State.stageIn (s : State) (n : Nat) (reads : List ReadResult) : State :=
  let s1 := s.walkRun n reads
  match s1.nslot n with
  | none => s1
  | some x => match x.walk.bad with
    | some e => s1.failSlot n e.1 e.2
    | none =>
      let l := s1.dataLen x x.sep
      let a := match x.job with
        | some j => (j, s1.modJob j fun y => { y with src := .host x.known })
        | none =>
          let b := s1.addJob { Job.fresh (.slot n) with fn := some x.fn, src := .host x.known, cluster := none }
          (b.1, (b.2.setNslot n { x with job := some b.1 }).startJob b.1)
      let s2 := a.2.pump a.1
      match KMap.find s2.jobs a.1 with
      | none => s2
      | some j =>
        if j.torn then s2
        else match j.status with
          | some st => s2.finishSlot n (nvmeStatus st) 0
          | none =>
            if s2.avail a.1 j < l.1 + l.2 then s2
            else
              let bs := j.input.take (l.1 + l.2)
              if s1.guarded x && !x.guardsGood bs then s2.finishSlot n (2, 0x82, 0) 0
              else
                let units := if s1.isIo x 9 then x.dsmUnits bs else [x.unitRange x.slba x.blocks]
                (((s2.countWrite x bs.length).endJob a.1).setBytes (s2.stageAt x) bs).setNslot n
                  { x with phase := .ready, job := none, units := units }

/-- NVME_WRITE (R416). -/
def doNvmeWrite (slot : Nat) (reads : List ReadResult) (s : State) : State :=
  match s.checkedAs slot fun x => s.isIo x 1 with
  | some _ => s.stageIn slot reads
  | none => s

/-- NVME_DATASET_MGMT (R429): its ranges are staged. -/
def doNvmeDatasetMgmt (slot : Nat) (reads : List ReadResult) (s : State) : State :=
  match s.checkedAs slot fun x => s.isIo x 9 with
  | some _ => s.stageIn slot reads
  | none => s

/-- NVME_WRITE_ZEROES (R429). -/
def doNvmeWriteZeroes (slot : Nat) (s : State) : State :=
  match s.checkedAs slot fun x => s.isIo x 8 with
  | some x => s.setNslot slot { x with phase := .ready, units := [x.unitRange x.slba x.blocks] }
  | none => s

/-- Sequences of the writes that a Flush covers (R433). -/
def State.flushSeqs (s : State) (x : NSlot) : List (Nat × Nat) :=
  let l := (s.nctl x.fn).wseq
  if x.nsid = 0xFFFFFFFF then l else l.filter fun e => e.1 == x.nsid

/-- NVME_FLUSH (R433): the flush of a shutdown waits for every fetched command (R440). The place of the sequences in the slot record
is not laid down: bytes 4 to 31 of the record hold free values. -/
def doNvmeFlush (slot : Nat) (s : State) : State :=
  match s.checkedAs slot fun x => s.isIo x 0 with
  | some x =>
    if x.sq.isNone && (s.slotsOf x.fn).any (fun e => e.1 != slot && !e.2.posted) then s
    else
      let a := s.slotRec slot
      let s1 := (List.range 28).foldl (fun s k => s.draw.2.setByte (a + 4 + k) (BitVec.ofNat 8 s.draw.1)) s
      s1.setNslot slot { x with phase := .ready, seqs := s.flushSeqs x }
  | none => s

/-- A command without data to stage becomes ready. -/
def State.makeReady (s : State) (n : Nat) (p : NSlot → Bool) : State :=
  match s.checkedAs n p with
  | some x => s.setNslot n { x with phase := .ready }
  | none => s

/-- NVME_IDENTIFY (R410). -/
def doNvmeIdentify (slot : Nat) (s : State) : State := s.makeReady slot fun x => s.isAdm x 6

/-- NVME_GET_LOG_PAGE (R409). -/
def doNvmeGetLogPage (slot : Nat) (s : State) : State := s.makeReady slot fun x => s.isAdm x 2

/-- NVME_ASYNC_EVENT_REQUEST (R409). -/
def doNvmeAsyncEventRequest (slot : Nat) (s : State) : State := s.makeReady slot fun x => s.isAdm x 0x0C

/-! ### Hand-off and answer (R422, R423, R429) -/

/-- Two lists of unit ranges share a unit. -/
def unitsMeet (a b : List (Nat × Nat)) : Bool := a.any fun x => b.any fun y => decide (x.1 ≤ y.2 ∧ y.1 ≤ x.2)

/-- An earlier write-kind command of the same namespace that was handed on and not answered touches one of the units (R429). -/
def State.heldByWrite (s : State) (n : Nat) (x : NSlot) : Bool :=
  (s.slotsOf x.fn).any fun e => e.1 != n && (e.2.phase == .handed || e.2.phase == .caught) && e.2.nsid == x.nsid
    && unitsMeet e.2.units x.units

/-- The words of a COMMAND (R422). -/
def State.commandWords (s : State) (n : Nat) (x : NSlot) : List Nat :=
  let sqid := match x.sq with
    | some q => ((KMap.find s.nvm.sqs q).map fun e => e.id).getD 0
    | none => 0
  let l := s.dataLen x x.sep
  [n % 32768 + x.fn * 2 ^ 16 + sqid * 2 ^ 28 + x.cid * 2 ^ 44, x.dw 0 + x.dw 1 * 2 ^ 32, x.dw 10 + x.dw 11 * 2 ^ 32,
   x.dw 12 + x.dw 13 * 2 ^ 32, x.dw 14 + x.dw 15 * 2 ^ 32, if x.buf.isSome then s.stageAt x else 0, l.1 + l.2]

/-- NVME_HANDOFF (R422): a command that is ready is committed, waits for room, or fails where the channel is closed. -/
def doNvmeHandoff (slot : Nat) (s0 : State) : State :=
  let s := State.flushSvc s0.nvm.msgs.length s0
  match s.nslot slot with
  | none => s
  | some x =>
    let i := s.svcOf x
    if x.phase ≠ .ready ∨ s.heldByWrite slot x = true then s
    else if !s.svcOpen i then s.finishSlot slot (0, 0x06, 1) 0
    else if s.chanRoom (s.rd R.NVM_SVC_CHAN_CHAN i) then
      (s.hwCommit (s.rd R.NVM_SVC_CHAN_CHAN i) (s.commandWords slot x)).setNslot slot { x with phase := .handed }
    else s

/-- A write of NVM_DONE (R423). -/
def State.wrNvmDone (s : State) (val : Nat) : State :=
  let n := bitsAt val 0 15
  let stale := s.sat R.NVM_STAT_STALE_DONE 0 1
  match s.nslot n with
  | none => stale
  | some x =>
    if x.phase = .caught then stale.freeSlot n x
    else if x.phase ≠ .handed then stale
    else
      let r : NStat := if bitAt val 15 then (bitsAt val 32 3, bitsAt val 24 8, bitsAt val 35 1) else nvmeStatus (bitsAt val 16 8)
      let d := if bitAt val 36 then s.mval (s.slotRec n) 4 else 0
      let y := { x with phase := .answered, res := r, dw0 := d }
      if x.sq.isNone then s.freeSlot n y else s.setNslot n y

/-- NVM_DONE (R423). -/
def doNvmDone (w : Writer) (val : Nat) (s : State) : State :=
  if s.mayWrite w (Reg.NVM_DONE.off 0) then s.wrNvmDone val else s

/-! ### Completion (R416, R419) -/

/-- Start the write of a command's data to the host: a carry mismatch at the exit is found in a 256-byte segment (R55, R56). -/
def State.startOut (s : State) (n : Nat) (x : NSlot) (badSegment : Option Nat) : State :=
  let l := s.dataLen x x.sep
  let k := l.1 + l.2
  let a := s.stageAt x
  let bad := match badSegment with
    | some g => if 256 * g < k then some g else none
    | none => none
  if s.badRange a k then ((s.countPoison a k).finishSlot n (nvmeStatus CplStat.carryCheck.code) 0)
  else
    let bs := s.bytes a k
    let wrong := bad.map fun g =>
      if x.sep then Nat.min (256 * g / x.lbs) (x.blocks - 1) else 256 * g / (x.lbs + 8)
    let out := if s.guarded x then x.withGuards bs wrong else bs
    let s1 := if bad.isSome then s.carryFault (if s.guarded x then unitId 11 0 else unitId 12 (s.hostPort x.fn)) else s
    let j : Job := { Job.fresh (.slot n) with
      fn := some x.fn, dst := .host x.known, output := out
      badFrom := if s.guarded x then none else bad.map fun g => 256 * g }
    let b := s1.addJob j
    let r : NStat := if bad.isNone then x.res else if s.guarded x then (2, 0x82, 0) else nvmeStatus CplStat.carryCheck.code
    ((b.2.setNslot n { x with job := some b.1, res := r }).startJob b.1).pump b.1

/-- Go on with the data of an answered command; the answer says that it has all been written, or none is to be. -/
def State.moveOut (s : State) (n : Nat) (reads : List ReadResult) (badSegment : Option Nat) : Bool × State :=
  match s.nslot n with
  | none => (false, s)
  | some x0 =>
    if x0.job.isNone && (!s.toHost x0 || x0.res.1 != 0 || x0.res.2.1 != 0) then (true, s)
    else
      let s1 := s.walkRun n reads
      match s1.nslot n with
      | none => (false, s1)
      | some x => match x.walk.bad with
        | some e => (false, s1.failSlot n e.1 e.2)
        | none =>
          let s2 := match x.job with
            | some j => (s1.modJob j fun y => { y with dst := .host x.known }).pump j
            | none => s1.startOut n x badSegment
          match (s2.nslot n).bind (fun y => y.job) with
          | none => (false, s2)
          | some j => match KMap.find s2.jobs j with
            | none => (false, s2)
            | some y =>
              if y.torn then (false, s2)
              else match y.status with
                | some st => (false, s2.finishSlot n (nvmeStatus st) 0)
                | none => (decide (y.output.length ≤ y.done), s2)

/-- The entry of a command has been issued to the host: it is not to come, not in spill, and not on its way (R428). -/
def State.entryOut (s : State) (id : Nat) : Bool :=
  !(s.nvm.slots.any fun e => e.2.id == id && !e.2.posted)
    && !(s.nvm.cqs.any fun e => e.2.spilled.contains id)
    && !(s.jobs.any fun e => match e.2.origin with
      | .ncpl _ k => k == id
      | _ => false)

/-- An Abort replies once the entry of the command it names has been issued (R428). -/
def State.abortReply (s : State) (n : Nat) : State :=
  match s.nslot n with
  | none => s
  | some x =>
    let ok := match x.target with
      | some id => s.entryOut id
      | none => true
    if x.phase == .answered && ok then s.finishSlot n (0, 0, 0) x.dw0 else s

/-- Bytes of a Read that have gone to the host are counted as it completes (R646). -/
def State.countRead (s : State) (x : NSlot) : State :=
  if s.isIo x 2 then match x.job.bind (KMap.find s.jobs) with
    | some j => s.count 31 0x02 j.output.length
    | none => s
  else s

/-- NVME_COMPLETE (R416, R419, R424): an answered command's data goes out, then its completion is posted. -/
def doNvmeComplete (slot : Nat) (reads : List ReadResult) (badSegment : Option Nat) (s : State) : State :=
  match s.nslot slot with
  | none => s
  | some x =>
    if x.phase ≠ .answered then s
    else if s.isAdm x 8 then s.abortReply slot
    else
      let r := s.moveOut slot reads badSegment
      if r.1 then match r.2.nslot slot with
        | some y => (r.2.countRead y).finishSlot slot y.res y.dw0
        | none => r.2
      else r.2

/-- NVME_READ (R416): a checked Read is ready for its hand-off; an answered one has its data written to the host. -/
def doNvmeRead (slot : Nat) (reads : List ReadResult) (badSegment : Option Nat) (s : State) : State :=
  match s.nslot slot with
  | none => s
  | some x =>
    if !s.isIo x 2 then s
    else if x.phase = .checked then (s.makeReady slot fun _ => true)
    else if x.phase = .answered then (s.moveOut slot reads badSegment).2
    else s

/-! ### Queues of a controller (R407, R409) -/

/-- A free submission queue of the device's pool (R407): a free choice (log entry 3). -/
def State.poolSq (s : State) : Option Nat × State :=
  let d := s.draw
  (pickFree (d.1 % 65536) 65536 ((s.setBits R.QM_SQ_EN).length + s.nvm.sqs.length)
    (fun t => s.flag R.QM_SQ_EN t || (KMap.find s.nvm.sqs t).isSome), d.2)

/-- A free completion queue of the device's pool. -/
def State.poolCq (s : State) : Option Nat × State :=
  let d := s.draw
  (pickFree (d.1 % 16384) 16384 ((s.setBits R.QM_CQ_EN).length + s.nvm.cqs.length)
    (fun t => s.flag R.QM_CQ_EN t || (KMap.find s.nvm.cqs t).isSome), d.2)

/-- A new submission queue. -/
def State.addSq (s : State) (q f id base size cq prio : Nat) : State :=
  s.modNvm fun v => { v with sqs := KMap.put v.sqs q ⟨f, id, base, size, 0, 0, cq, prio, false⟩ }

/-- A new completion queue. -/
def State.addCq (s : State) (c f id base size vec : Nat) (ien : Bool) : State :=
  s.setNcq c ⟨f, id, base, size, 0, 0, true, ien, vec, 0, [], false⟩

/-- NVME_CREATE_IO_SQ (R407). -/
def doNvmeCreateIoSq (slot : Nat) (s : State) : State :=
  match s.checkedAs slot fun x => s.isAdm x 1 with
  | none => s
  | some x =>
    let id := x.dw 10 % 65536
    let size := bitsAt (x.dw 10) 16 16 + 1
    let base := leVal (sliceB x.cmd 24 8)
    let cqid := bitsAt (x.dw 11) 16 16
    if id = 0 ∨ (s.nctl x.fn).nsq < id ∨ (s.findSq x.fn id).isSome = true then s.failSlot slot 1 0x01
    else if size < 2 ∨ 4096 < size then s.failSlot slot 1 0x02
    else if bitAt (x.dw 11) 0 = false then s.failSlot slot 0 0x02
    else if base % (s.nctl x.fn).page ≠ 0 then s.failSlot slot 0 0x13
    else if cqid = 0 then s.failSlot slot 1 0x01
    else match s.findCq x.fn cqid with
      | none => s.failSlot slot 1 0x00
      | some (c, _) =>
        let p := s.poolSq
        match p.1 with
        | none => s.failSlot slot 1 0x01
        | some q => (p.2.addSq q x.fn id base size c (bitsAt (x.dw 11) 1 2)).finishSlot slot (0, 0, 0) 0

/-- NVME_CREATE_IO_CQ (R407). -/
def doNvmeCreateIoCq (slot : Nat) (s : State) : State :=
  match s.checkedAs slot fun x => s.isAdm x 5 with
  | none => s
  | some x =>
    let id := x.dw 10 % 65536
    let size := bitsAt (x.dw 10) 16 16 + 1
    let base := leVal (sliceB x.cmd 24 8)
    let vec := bitsAt (x.dw 11) 16 16
    if id = 0 ∨ (s.nctl x.fn).ncq < id ∨ (s.findCq x.fn id).isSome = true then s.failSlot slot 1 0x01
    else if size < 2 ∨ 4096 < size then s.failSlot slot 1 0x02
    else if bitAt (x.dw 11) 0 = false then s.failSlot slot 0 0x02
    else if base % (s.nctl x.fn).page ≠ 0 then s.failSlot slot 0 0x13
    else if s.rd R.HIF_FN_ACT_VEC_M1 x.fn < vec then s.failSlot slot 1 0x08
    else
      let p := s.poolCq
      match p.1 with
      | none => s.failSlot slot 1 0x01
      | some c => (p.2.addCq c x.fn id base size vec (bitAt (x.dw 11) 1)).finishSlot slot (0, 0, 0) 0

/-- NVME_DELETE_IO_SQ (R409): nothing more is fetched from the queue; it is deleted once every command fetched from it has posted its
completion. -/
def doNvmeDeleteIoSq (slot : Nat) (s : State) : State :=
  match s.checkedAs slot fun x => s.isAdm x 0 with
  | none => s
  | some x =>
    let id := x.dw 10 % 65536
    match s.findSq x.fn id with
    | none => s.failSlot slot 1 0x01
    | some (q, e) =>
      if id = 0 then s.failSlot slot 1 0x01
      else if s.nvm.slots.any fun y => y.2.sq == some q && !y.2.posted then
        s.modNvm fun v => { v with sqs := KMap.put v.sqs q { e with del := true } }
      else (s.modNvm fun v => { v with sqs := KMap.del v.sqs q }).finishSlot slot (0, 0, 0) 0

/-- NVME_DELETE_IO_CQ (R409): a queue that submission queues still name is not deleted; one whose entries have not all been issued
waits for them (R408). -/
def doNvmeDeleteIoCq (slot : Nat) (s : State) : State :=
  match s.checkedAs slot fun x => s.isAdm x 4 with
  | none => s
  | some x =>
    let id := x.dw 10 % 65536
    match s.findCq x.fn id with
    | none => s.failSlot slot 1 0x01
    | some (c, e) =>
      if id = 0 then s.failSlot slot 1 0x01
      else if s.nvm.sqs.any fun y => y.2.cq == c then s.failSlot slot 1 0x0C
      else if !e.spilled.isEmpty || (s.jobs.any fun y => match y.2.origin with
          | .ncpl k _ => k == c
          | _ => false) then s
      else (s.modNvm fun v => { v with cqs := KMap.del v.cqs c }).finishSlot slot (0, 0, 0) 0

/-! ### Abort (R424 to R428) -/

/-- Catch a command for an Abort (R426). -/
def State.catchSlot (s : State) (n : Nat) (x : NSlot) : State :=
  let s1 := if x.phase = .handed then s.cancel n x else s
  (s1.modNctl x.fn fun c => { c with waits := c.waits.filter fun k => k != n }).finishSlot n (nvmeStatus CplStat.aborted.code) 0

/-- The command may be caught where it is (R426). -/
def State.catchable (s : State) (x : NSlot) : Bool :=
  match x.phase with
  | .fetched | .checked | .ready => true
  | .handed => s.isIo x 2 || s.isAdm x 6 || s.isAdm x 2 || s.isAdm x 0x0C || s.isAdm x 0x0A
  | _ => false

/-- NVME_ABORT (R425 to R428). -/
def doNvmeAbort (slot : Nat) (reads : List ReadResult) (s : State) : State :=
  match s.checkedAs slot fun x => s.isAdm x 8 with
  | none => s
  | some x =>
    if 8 < ((s.slotsOf x.fn).filter fun e => s.isAdm e.2 8 && !e.2.posted).length then s.failSlot slot 1 0x03
    else
      let miss := { x with phase := .answered, dw0 := 1 }
      match s.findSq x.fn (x.dw 10 % 65536) with
      | none => ((s.setNslot slot miss).count 31 0x05 1).abortReply slot
      | some (q, e) =>
        let left := match x.tailAt with
          | some t => (t + e.size - e.head) % e.size
          | none => 0
        let s1 := if s.mayFetch x.fn then (State.fetchSq q x.tailAt left reads s).2 else s
        let more := match KMap.find s1.nvm.sqs q, x.tailAt with
          | some y, some t => decide (0 < left) && y.head != t
          | _, _ => false
        if more then s1
        else match s1.nvm.slots.find? fun y => y.1 != slot && y.2.sq == some q && y.2.cid == bitsAt (x.dw 10) 16 16 && !y.2.posted with
          | none => ((s1.setNslot slot { miss with tailAt := none }).count 31 0x05 1).abortReply slot
          | some (n, y) =>
            if s1.catchable y then
              (((s1.setNslot slot { miss with dw0 := 0, target := some y.id }).count 31 0x04 1).catchSlot n y).abortReply slot
            else ((s1.setNslot slot { miss with target := some y.id }).count 31 0x05 1).abortReply slot

/-! ### Features that the front-end answers (R407, R409, R420, R434 to R436) -/

/-- Answer a Set or a Get Features of the front-end. -/
def State.feature (s : State) (n o fid : Nat) (k : NSlot → NCtl → NCtl × Nat) : State :=
  match s.checkedAs n fun x => s.isFeat x o fid with
  | none => s
  | some x =>
    let r := k x (s.nctl x.fn)
    (s.setNctl x.fn r.1).finishSlot n (0, 0, 0) r.2

/-- NVME_SET_ARBITRATION (R420). -/
def doNvmeSetArbitration (slot : Nat) (s : State) : State :=
  s.feature slot 9 1 fun x c =>
    let v := x.dw 11
    ({ c with ab := bitsAt v 0 3, lpw := bitsAt v 8 8, mpw := bitsAt v 16 8, hpw := bitsAt v 24 8 }.refill, 0)

/-- NVME_GET_ARBITRATION (R409). -/
def doNvmeGetArbitration (slot : Nat) (s : State) : State :=
  s.feature slot 0x0A 1 fun _ c => (c, c.ab + c.lpw * 2 ^ 8 + c.mpw * 2 ^ 16 + c.hpw * 2 ^ 24)

/-- NVME_SET_POWER_MGMT (R435): entry into the requested state begins. -/
def doNvmeSetPowerMgmt (slot : Nat) (s : State) : State :=
  match s.checkedAs slot fun x => s.isFeat x 9 2 with
  | none => s
  | some x =>
    let p := bitsAt (x.dw 11) 0 5
    if 2 < p then s.failSlot slot 0 0x02
    else if (s.nctl x.fn).waits.contains slot then s
    else s.modNctl x.fn fun c => { c with want := some p, waits := c.waits ++ [slot] }

/-- NVME_GET_POWER_MGMT (R436). -/
def doNvmeGetPowerMgmt (slot : Nat) (s : State) : State := s.feature slot 0x0A 2 fun _ c => (c, c.want.getD c.ps)

/-- NVME_SET_NUM_QUEUES (R407): fixed once I/O queues exist. -/
def doNvmeSetNumQueues (slot : Nat) (s : State) : State :=
  match s.checkedAs slot fun x => s.isFeat x 9 7 with
  | none => s
  | some x =>
    let sq := bitsAt (x.dw 11) 0 16
    let cq := bitsAt (x.dw 11) 16 16
    let m := s.rd R.NVM_CTRL_CFG_MAXQ x.fn
    if sq = 0xFFFF ∨ cq = 0xFFFF then s.failSlot slot 0 0x02
    else if s.nvm.cqs.any fun e => e.2.fn == x.fn && e.2.id != 0 then s.failSlot slot 0 0x0C
    else
      let a := Nat.min sq m
      let b := Nat.min cq m
      (s.modNctl x.fn fun c => { c with nsq := a + 1, ncq := b + 1 }).finishSlot slot (0, 0, 0) (a + b * 2 ^ 16)

/-- NVME_GET_NUM_QUEUES (R409). -/
def doNvmeGetNumQueues (slot : Nat) (s : State) : State :=
  s.feature slot 0x0A 7 fun _ c => (c, (c.nsq - 1) + (c.ncq - 1) * 2 ^ 16)

/-- NVME_SET_INT_COALESCING (R409). -/
def doNvmeSetIntCoalescing (slot : Nat) (s : State) : State :=
  s.feature slot 9 8 fun x c => ({ c with thr := bitsAt (x.dw 11) 0 8, tim := bitsAt (x.dw 11) 8 8 }, 0)

/-- NVME_GET_INT_COALESCING (R409). -/
def doNvmeGetIntCoalescing (slot : Nat) (s : State) : State := s.feature slot 0x0A 8 fun _ c => (c, c.thr + c.tim * 2 ^ 8)

/-- NVME_SET_INT_VECTOR_CFG (R409). -/
def doNvmeSetIntVectorCfg (slot : Nat) (s : State) : State :=
  match s.checkedAs slot fun x => s.isFeat x 9 9 with
  | none => s
  | some x =>
    let v := bitsAt (x.dw 11) 0 16
    if s.rd R.HIF_FN_ACT_VEC_M1 x.fn < v then s.failSlot slot 0 0x02
    else s.feature slot 9 9 fun x c =>
      ({ c with cd := (c.cd.filter fun k => k != v) ++ (if bitAt (x.dw 11) 16 then [v] else []) }, 0)

/-- NVME_GET_INT_VECTOR_CFG (R409). -/
def doNvmeGetIntVectorCfg (slot : Nat) (s : State) : State :=
  match s.checkedAs slot fun x => s.isFeat x 0x0A 9 with
  | none => s
  | some x =>
    let v := bitsAt (x.dw 11) 0 16
    if s.rd R.HIF_FN_ACT_VEC_M1 x.fn < v then s.failSlot slot 0 0x02
    else s.feature slot 0x0A 9 fun _ c => (c, v + b2n (c.cd.contains v) * 2 ^ 16)

/-- NVME_POWER_STATE_ENTERED (R435). -/
def doNvmePowerStateEntered (fn : Nat) (s : State) : State :=
  let c := s.nctl fn
  match c.want with
  | none => s
  | some p =>
    if (s.slotsOf fn).any (fun e => !c.waits.contains e.1) || s.nvm.sqs.any (fun e => e.2.fn == fn && e.2.head != e.2.tail) then s
    else
      let s1 := s.setNctl fn { c with ps := p, opPs := if p < 2 then p else c.opPs, want := none, waits := [] }
      c.waits.foldl (fun s n => s.finishSlot n (0, 0, 0) 0) s1

/-! ### Controller reset and shutdown (R412, R438 to R441) -/

/-- The host sets CC.EN: the controller starts with its admin queues and its credits refilled (R412, R420). -/
def State.ctlStart (s : State) (f cc : Nat) : State :=
  let x := s.nctl f
  if x.en || x.rdy then s
  else
    let a := s.poolCq
    let b := a.2.poolSq
    match a.1, b.1 with
    | some c, some q =>
      let m := s.rd R.NVM_CTRL_CFG_MAXQ f + 1
      let y := { NCtl.fresh with
        cc := cc, aqa := x.aqa, asq := x.asq, acq := x.acq, late := x.late, nsq := m, ncq := m, wseq := x.wseq }
      let s1 := b.2.setNctl f y.refill
      ((s1.addCq c f 0 (x.acq / 4096 * 4096) (bitsAt x.aqa 16 12 + 1) 0 true).addSq q f 0 (x.asq / 4096 * 4096) (bitsAt x.aqa 0 12 + 1)
        c 0).settleRdy f
    | _, _ => s

/-- Catch a slot without a completion (R438): fetched ones are freed, those with the service get a CANCEL, answered ones stop. -/
def State.dropSlot_ (s : State) (n : Nat) (x : NSlot) : State :=
  if x.phase = .handed then (s.cancel n x).setNslot n { x with phase := .caught, posted := true }
  else if x.phase = .caught then s
  else s.freeSlot n { x with posted := true }

/-- The controller stops: its slots are caught, its queues are void and return to the pool (R438). -/
def State.ctlStop (s : State) (f : Nat) : State :=
  let mine := fun (j : Job) => match j.origin with
    | .ncpl _ _ => j.fn == some f
    | _ => false
  let js := (s.slotsOf f).filterMap fun e => e.2.job
  let late := (s.hif.reads.filter fun e => js.contains e.2.job).map fun e => e.1
  let s1 := { s with jobs := s.jobs.filter fun e => !mine e.2 }
  let s2 := s1.modNvm fun v =>
    let sq := fun (e : Nat × NSq) => e.2.fn != f
    let cq := fun (e : Nat × NCq) => e.2.fn != f
    { v with sqs := v.sqs.filter sq, cqs := v.cqs.filter cq }
  let s3 := (s.slotsOf f).foldl (fun s e => s.dropSlot_ e.1 e.2) s2
  (s3.modNctl f fun c => { c with waits := [], want := none, coal := [], late := c.late ++ late }).settleFn f

/-- A function reset as the storage front-end takes it (R405, R441, R448). -/
def State.ctlFnReset (s : State) (f : Nat) : State :=
  let s1 := s.ctlStop f
  (s1.setNctl f NCtl.fresh).wr R.NVM_CTRL_CFG_ACTIVE f (s1.rd R.NVM_CTRL_CFG_EN f)

/-- NVME_CC_ENABLE (R412, R420). -/
def doNvmeCcEnable (fn cc : Nat) (s : State) : State :=
  s.viaNvme fn fun s => if bitAt cc 0 then s.ctlStart fn cc else s

/-- NVME_CC_DISABLE (R438). -/
def doNvmeCcDisable (fn cc : Nat) (s : State) : State :=
  s.viaNvme fn fun s =>
    if !bitAt cc 0 && (s.nctl fn).en then (s.ctlStop fn).modNctl fn fun c => { c with cc := cc, shst := 0, shut := .none_, flushed := false }
    else s

/-- The conditions of R439. -/
def State.quietCtl (s : State) (f : Nat) : Bool :=
  let c := s.nctl f
  !(c.late.any fun t => (KMap.find s.hif.reads t).isSome) && !s.oldWrites f
    && (s.slotsOf f).all fun e => e.2.posted && e.2.job.isNone

/-- NVME_RDY_CLEAR (R439). -/
def doNvmeRdyClear (fn : Nat) (s : State) : State :=
  let c := s.nctl fn
  if c.rdy && (!c.en || c.shut == .abrupt) && s.quietCtl fn then s.setNctl fn { c with rdy := false, late := [] } else s

/-- Begin the flush of a normal shutdown (R433, R440): a command of the front-end's own, whose CID and dwords beyond opcode and NSID
are 0. -/
def State.shutFlush (s : State) (f : Nat) : State :=
  let c := s.nctl f
  if c.flushed || !s.nvmeRoom then s
  else match s.newSlot f none 0 (zeros 4 ++ leBytes 4 0xFFFFFFFF ++ zeros 56) with
    | some (n, s1) => match s1.nslot n with
      | some x => (s1.setNslot n { x with phase := .checked, buf := none }).modNctl f fun c => { c with flushed := true }
      | none => s1
    | none => s

/-- NVME_SHUTDOWN_NORMAL (R440). -/
def doNvmeShutdownNormal (fn cc : Nat) (s : State) : State :=
  s.viaNvme fn fun s =>
    let c := s.nctl fn
    if bitsAt cc 14 2 = 1 ∧ c.en = true ∧ c.shut = .none_ then
      (s.setNctl fn { c with cc := cc, shst := 1, shut := .normal }).shutFlush fn
    else s

/-- NVME_SHUTDOWN_ABRUPT (R440). -/
def doNvmeShutdownAbrupt (fn cc : Nat) (s : State) : State :=
  s.viaNvme fn fun s =>
    let c := s.nctl fn
    if bitsAt cc 14 2 = 2 ∧ c.en = true ∧ c.shut ≠ .abrupt then
      (s.ctlStop fn).modNctl fn fun c => { c with cc := cc, shst := 1, shut := .abrupt }
    else s

/-- NVME_SHUTDOWN_COMPLETE (R440). -/
def doNvmeShutdownComplete (fn : Nat) (s : State) : State :=
  let c := s.nctl fn
  if c.shst ≠ 1 then s
  else if c.shut = .abrupt then (if s.quietCtl fn then s.setNctl fn { c with shst := 2 } else s)
  else if !c.flushed then s.shutFlush fn
  else if (s.slotsOf fn).all fun e => e.2.posted then s.setNctl fn { c with shst := 2 }
  else s

/-! ### Firmware activation (R443, R444) -/

/-- A write of NVM_FWACT (R443, R444). -/
def State.wrFwact (s : State) (val : Nat) : State :=
  let s1 := if bitAt val 0 && s.rd R.NVM_FWACT_STATE 0 == 0 then
      ((s.wr R.NVM_FWACT_STATE 0 1).modNvm fun v => { v with paused := s.time }).settlePause
    else s
  if bitAt val 1 && s.rd R.NVM_FWACT_STATE 0 == 2 then s1.wr R.NVM_FWACT_STATE 0 0 else s1

/-- NVME_FWACT_PAUSE (R443). -/
def doNvmeFwactPause (w : Writer) (s : State) : State := if s.mayWrite w (Reg.NVM_FWACT.off 0) then s.wrFwact 1 else s

/-- Every command without its result ends with the status of a firmware activation (R443). -/
def State.abortForFw (s : State) : State :=
  s.nvm.slots.foldl (fun s e =>
    if e.2.posted || e.2.phase == .answered || e.2.phase == .caught then s
    else
      let s1 := if e.2.phase = .handed then s.cancel e.1 e.2 else s
      (s1.modNctl e.2.fn fun c => { c with waits := c.waits.filter fun k => k != e.1 }).finishSlot e.1
        (nvmeStatus CplStat.abortedFwAct.code) 0) s

/-- NVME_FWACT_DRAIN_TIMEOUT (R443). -/
def doNvmeFwactDrainTimeout (s : State) : State :=
  if s.rd R.NVM_FWACT_STATE 0 = 1 ∧ s.nvm.paused + 200000000 ≤ s.time then s.abortForFw else s

/-- NVME_FWACT_RESUME (R444). -/
def doNvmeFwactResume (w : Writer) (s : State) : State := if s.mayWrite w (Reg.NVM_FWACT.off 0) then s.wrFwact 2 else s

/-! ### The meanings of the rows -/

/-- NVM_ENABLE (R412). -/
def execNvmEnable (w : Writer) (val : Nat) (s : State) : Host.Outcome State Fault Refusal :=
  .next (s.after (doNvmEnable w val s))

/-- NVME_SQ_DOORBELL (R417). -/
def execNvmeSqDoorbell (fn : Nat) (id : Nat) (tail : Nat) (s : State) : Host.Outcome State Fault Refusal :=
  .next (s.after (doNvmeSqDoorbell fn id tail s))

/-- NVME_CQ_DOORBELL (R417). -/
def execNvmeCqDoorbell (fn : Nat) (id : Nat) (head : Nat) (s : State) : Host.Outcome State Fault Refusal :=
  .next (s.after (doNvmeCqDoorbell fn id head s))

/-- NVME_ARBITRATE (R420). -/
def execNvmeArbitrate (reads : List ReadResult) (s : State) : Host.Outcome State Fault Refusal :=
  .next (s.after (doNvmeArbitrate reads s))

/-- NVME_COMMAND_CHECK (R418). -/
def execNvmeCommandCheck (slot : Nat) (sep : Bool) (reads : List ReadResult) (s : State) :
    Host.Outcome State Fault Refusal :=
  .next (s.after (doNvmeCommandCheck slot sep reads s))

/-- NVME_HANDOFF (R422). -/
def execNvmeHandoff (slot : Nat) (s : State) : Host.Outcome State Fault Refusal :=
  .next (s.after (doNvmeHandoff slot s))

/-- NVM_DONE (R423). -/
def execNvmDone (w : Writer) (val : Nat) (s : State) : Host.Outcome State Fault Refusal :=
  .next (s.after (doNvmDone w val s))

/-- NVME_COMPLETE (R419). -/
def execNvmeComplete (slot : Nat) (reads : List ReadResult) (badSegment : Option Nat) (s : State) :
    Host.Outcome State Fault Refusal :=
  .next (s.after (doNvmeComplete slot reads badSegment s))

/-- NVME_READ (R416). -/
def execNvmeRead (slot : Nat) (reads : List ReadResult) (badSegment : Option Nat) (s : State) :
    Host.Outcome State Fault Refusal :=
  .next (s.after (doNvmeRead slot reads badSegment s))

/-- NVME_WRITE (R416). -/
def execNvmeWrite (slot : Nat) (reads : List ReadResult) (s : State) : Host.Outcome State Fault Refusal :=
  .next (s.after (doNvmeWrite slot reads s))

/-- NVME_FLUSH (R433). -/
def execNvmeFlush (slot : Nat) (s : State) : Host.Outcome State Fault Refusal :=
  .next (s.after (doNvmeFlush slot s))

/-- NVME_WRITE_ZEROES (R429). -/
def execNvmeWriteZeroes (slot : Nat) (s : State) : Host.Outcome State Fault Refusal :=
  .next (s.after (doNvmeWriteZeroes slot s))

/-- NVME_DATASET_MGMT (R429). -/
def execNvmeDatasetMgmt (slot : Nat) (reads : List ReadResult) (s : State) : Host.Outcome State Fault Refusal :=
  .next (s.after (doNvmeDatasetMgmt slot reads s))

/-- NVME_IDENTIFY (R410). -/
def execNvmeIdentify (slot : Nat) (s : State) : Host.Outcome State Fault Refusal :=
  .next (s.after (doNvmeIdentify slot s))

/-- NVME_GET_LOG_PAGE (R409). -/
def execNvmeGetLogPage (slot : Nat) (s : State) : Host.Outcome State Fault Refusal :=
  .next (s.after (doNvmeGetLogPage slot s))

/-- NVME_ASYNC_EVENT_REQUEST (R409). -/
def execNvmeAsyncEventRequest (slot : Nat) (s : State) : Host.Outcome State Fault Refusal :=
  .next (s.after (doNvmeAsyncEventRequest slot s))

/-- NVME_CREATE_IO_SQ (R407). -/
def execNvmeCreateIoSq (slot : Nat) (s : State) : Host.Outcome State Fault Refusal :=
  .next (s.after (doNvmeCreateIoSq slot s))

/-- NVME_DELETE_IO_SQ (R409). -/
def execNvmeDeleteIoSq (slot : Nat) (s : State) : Host.Outcome State Fault Refusal :=
  .next (s.after (doNvmeDeleteIoSq slot s))

/-- NVME_CREATE_IO_CQ (R407). -/
def execNvmeCreateIoCq (slot : Nat) (s : State) : Host.Outcome State Fault Refusal :=
  .next (s.after (doNvmeCreateIoCq slot s))

/-- NVME_DELETE_IO_CQ (R409). -/
def execNvmeDeleteIoCq (slot : Nat) (s : State) : Host.Outcome State Fault Refusal :=
  .next (s.after (doNvmeDeleteIoCq slot s))

/-- NVME_ABORT (R425). -/
def execNvmeAbort (slot : Nat) (reads : List ReadResult) (s : State) : Host.Outcome State Fault Refusal :=
  .next (s.after (doNvmeAbort slot reads s))

/-- NVME_SET_ARBITRATION (R420). -/
def execNvmeSetArbitration (slot : Nat) (s : State) : Host.Outcome State Fault Refusal :=
  .next (s.after (doNvmeSetArbitration slot s))

/-- NVME_GET_ARBITRATION (R409). -/
def execNvmeGetArbitration (slot : Nat) (s : State) : Host.Outcome State Fault Refusal :=
  .next (s.after (doNvmeGetArbitration slot s))

/-- NVME_SET_POWER_MGMT (R435). -/
def execNvmeSetPowerMgmt (slot : Nat) (s : State) : Host.Outcome State Fault Refusal :=
  .next (s.after (doNvmeSetPowerMgmt slot s))

/-- NVME_GET_POWER_MGMT (R436). -/
def execNvmeGetPowerMgmt (slot : Nat) (s : State) : Host.Outcome State Fault Refusal :=
  .next (s.after (doNvmeGetPowerMgmt slot s))

/-- NVME_SET_NUM_QUEUES (R407). -/
def execNvmeSetNumQueues (slot : Nat) (s : State) : Host.Outcome State Fault Refusal :=
  .next (s.after (doNvmeSetNumQueues slot s))

/-- NVME_GET_NUM_QUEUES (R409). -/
def execNvmeGetNumQueues (slot : Nat) (s : State) : Host.Outcome State Fault Refusal :=
  .next (s.after (doNvmeGetNumQueues slot s))

/-- NVME_SET_INT_COALESCING (R409). -/
def execNvmeSetIntCoalescing (slot : Nat) (s : State) : Host.Outcome State Fault Refusal :=
  .next (s.after (doNvmeSetIntCoalescing slot s))

/-- NVME_GET_INT_COALESCING (R409). -/
def execNvmeGetIntCoalescing (slot : Nat) (s : State) : Host.Outcome State Fault Refusal :=
  .next (s.after (doNvmeGetIntCoalescing slot s))

/-- NVME_SET_INT_VECTOR_CFG (R409). -/
def execNvmeSetIntVectorCfg (slot : Nat) (s : State) : Host.Outcome State Fault Refusal :=
  .next (s.after (doNvmeSetIntVectorCfg slot s))

/-- NVME_GET_INT_VECTOR_CFG (R409). -/
def execNvmeGetIntVectorCfg (slot : Nat) (s : State) : Host.Outcome State Fault Refusal :=
  .next (s.after (doNvmeGetIntVectorCfg slot s))

/-- NVME_POWER_STATE_ENTERED (R435). -/
def execNvmePowerStateEntered (fn : Nat) (s : State) : Host.Outcome State Fault Refusal :=
  .next (s.after (doNvmePowerStateEntered fn s))

/-- NVME_CC_ENABLE (R420). -/
def execNvmeCcEnable (fn : Nat) (cc : Nat) (s : State) : Host.Outcome State Fault Refusal :=
  .next (s.after (doNvmeCcEnable fn cc s))

/-- NVME_CC_DISABLE (R438). -/
def execNvmeCcDisable (fn : Nat) (cc : Nat) (s : State) : Host.Outcome State Fault Refusal :=
  .next (s.after (doNvmeCcDisable fn cc s))

/-- NVME_RDY_CLEAR (R439). -/
def execNvmeRdyClear (fn : Nat) (s : State) : Host.Outcome State Fault Refusal :=
  .next (s.after (doNvmeRdyClear fn s))

/-- NVME_SHUTDOWN_NORMAL (R440). -/
def execNvmeShutdownNormal (fn : Nat) (cc : Nat) (s : State) : Host.Outcome State Fault Refusal :=
  .next (s.after (doNvmeShutdownNormal fn cc s))

/-- NVME_SHUTDOWN_ABRUPT (R440). -/
def execNvmeShutdownAbrupt (fn : Nat) (cc : Nat) (s : State) : Host.Outcome State Fault Refusal :=
  .next (s.after (doNvmeShutdownAbrupt fn cc s))

/-- NVME_SHUTDOWN_COMPLETE (R440). -/
def execNvmeShutdownComplete (fn : Nat) (s : State) : Host.Outcome State Fault Refusal :=
  .next (s.after (doNvmeShutdownComplete fn s))

/-- NVME_FWACT_PAUSE (R443). -/
def execNvmeFwactPause (w : Writer) (s : State) : Host.Outcome State Fault Refusal :=
  .next (s.after (doNvmeFwactPause w s))

/-- NVME_FWACT_DRAIN_TIMEOUT (R443). -/
def execNvmeFwactDrainTimeout (s : State) : Host.Outcome State Fault Refusal :=
  .next (s.after (doNvmeFwactDrainTimeout s))

/-- NVME_FWACT_RESUME (R444). -/
def execNvmeFwactResume (w : Writer) (s : State) : Host.Outcome State Fault Refusal :=
  .next (s.after (doNvmeFwactResume w s))

end Sys2Proof.Machine
end

