-- ==== Sys2Proof/Machine/ResetOps.lean ====
section
/-!
DEFINITION. Resets (R448, R480, R529, R534, R535, R545, R709 to R711): the reset of functions, of a core, and of everything outside the
Ember domain.
-/

namespace Sys2Proof.Machine

/-! ### The reset of functions (R448) -/

/-- Forget a Glint job's key and its place in its cluster. -/
def State.dropGlint (s : State) (n : Nat) (j : Job) : State :=
  let s1 := s.modGlint fun g => { g with keys := KMap.del g.keys n }
  match j.opc, j.cluster with
  | 8, some c => s1.jobOut c
  | _, _ => s1

/-- The function of a job; a job of an internal ring has one only while it uses host memory. -/
def State.jobFn (s : State) (j : Job) : Option Nat :=
  match j.origin with
  | .sq q _ => some (s.rd R.QM_SQ_FUNC q)
  | .rx q _ => some (s.rd R.QM_SQ_FUNC q)
  | .ring _ _ _ => if j.onHost then j.fn else none
  | _ => j.fn

/-- A job of a function that is reset ends without an entry for the host; a transfer completes in its internal ring (R448). -/
def State.resetJob (s : State) (n : Nat) : State :=
  match KMap.find s.jobs n with
  | none => s
  | some j =>
    let s1 := s.dropGlint n j
    match j.origin with
    | .ring _ _ _ =>
      s1.finishRing n (if s.avail n j < j.src.len then CplStat.dmaReadFault.code else CplStat.dmaWriteFault.code) j.done
    | .rx _ _ => ((s1.forgetJob n).endJob n).freeFrame { Pkt.fresh with handle := j.frame.getD 0, data := j.output }
    | .slot _ => s1
    | _ => (s1.forgetJob n).endJob n

/-- The indices at which a field is not at its reset value. -/
def State.listed (s : State) (f : Fld) : List Nat := (s.regs.filter fun e => e.1 / 2 ^ 24 == f.id).map fun e => e.1 % 2 ^ 24

/-- The queues of the functions are cleared (R529). -/
def State.resetQueues (s : State) (p : Nat → Bool) : State :=
  let sqs := (s.setBits R.QM_SQ_EN).filter fun q => p (s.rd R.QM_SQ_FUNC q)
  let cqs := (s.setBits R.QM_CQ_EN).filter fun c => p (s.rd R.QM_CQ_FUNC c)
  let s1 := sqs.foldl (fun s q =>
    let fr := KMap.getD s.tm.rxq q []
    let s2 := fr.foldl State.freeFrame { s with tm := { s.tm with rxq := KMap.del s.tm.rxq q } }
    ((s2.wrs q [(R.QM_SQ_EN, 0), (R.QM_SQ_PI, 0), (R.QM_SQ_CI, 0)]).bump R.QM_SQ_GEN q).setSqRun q SqRun.fresh) s
  cqs.foldl (fun s c =>
    (s.wrs c [(R.QM_CQ_EN, 0), (R.QM_CQ_HEAD, 0), (R.QM_CQ_TAIL, 0), (R.QM_CQ_SPILLED, 0), (R.QM_CQ_OUTSTANDING, 0),
      (R.QM_CQ_OVERFLOW, 0), (R.QM_CQ_BACKPRESSURE, 0)]).setCqRun c CqRun.fresh) s1

/-- What the storage front-end does (R405, R441). -/
def State.resetCtls (s : State) (p : Nat → Bool) : State :=
  let l := s.nvm.ctls.map (fun e => e.1) ++ s.listed R.NVM_CTRL_CFG_EN ++ s.listed R.NVM_CTRL_CFG_ACTIVE
  (l.eraseDups.filter p).foldl State.ctlFnReset s

/-- What the host interface keeps of the functions returns to reset values (R480, R482, R545). -/
def State.resetHif (s : State) (p : Nat → Bool) : State :=
  let late := fun (e : Nat × HRead) => if p e.2.fn && e.2.dead == .no then (e.1, { e.2 with dead := .late }) else e
  let gone := s.hif.invals.filter fun v => p v.fn
  let s1 := gone.foldl (fun s v => s.sendTlp (s.linkOf v.fn) (.invalidateDone v.fn v.tag)) s
  let s2 := { s1 with hif := { s1.hif with
    reads := s1.hif.reads.map late
    treqs := s1.hif.treqs.filter fun r => !p r.pg.fn
    atc := s1.hif.atc.filter fun e => !p e.pg.fn
    invals := s1.hif.invals.filter fun v => !p v.fn
    msix := s1.hif.msix.filter fun e => !p (e.1 / 2048)
    pend := s1.hif.pend.filter fun e => !p (e.1 / 2048) } }
  let s3 := ((List.range 8).filter p).foldl State.intx s2
  let s4 := ((s3.hif.fns.map fun e => e.1).filter p).foldl (fun s f =>
    s.setFcfg f { FnCfg.fresh with aer := (s.fcfg f).aer }) s3
  let clear := fun (s : State) (fl : Fld) => ((s.listed fl).filter p).foldl (fun s f => s.wr fl f 0) s
  let s5 := [R.HIF_FN_QCTL_QUIESCE, R.HIF_FN_QCTL_RX_RETURN, R.HIF_FN_QCTL_QUIESCED, R.HIF_FN_STAT_TORN, R.HIF_FN_STAT_DSTATE].foldl
    clear s4
  ((List.range 64).filter fun m => s5.flag R.HIF_MIR_CTL_BUSY m && p (s5.rd R.HIF_MIR_CFG_FUNC m)).foldl
    (fun s m => s.harvestEnd m 2) s5

/-- The vector range of a function: staged, or in force. -/
def State.vecRange (s : State) (f : Nat) (staged : Bool) : Nat × Nat :=
  if staged then (s.rd R.HIF_FN_CFG_VEC_BASE f, s.rd R.HIF_FN_CFG_VEC_BASE f + s.rd R.HIF_FN_CFG_VEC_M1 f)
  else (s.rd R.HIF_FN_ACT_VEC_BASE f, s.rd R.HIF_FN_ACT_VEC_BASE f + s.rd R.HIF_FN_ACT_VEC_M1 f)

/-- The staged vector range of a function is good (R535). `l`: the functions reset with it, which are checked by their staged ranges. -/
def State.vecGood (s : State) (l held : List Nat) (f : Nat) : Bool :=
  let a := s.vecRange f true
  decide (a.2 < 32768) && held.all fun g => g == f || (let b := s.vecRange g (l.contains g)
    decide (b.2 < a.1 ∨ a.2 < b.1))

/-- The staged limits come into force, or APPLY_ERR (R534, R535). -/
def State.applyLimits (s : State) (l : List Nat) : State :=
  let held := s.allFns
  l.foldl (fun t f =>
    if s.vecGood l held f then
      t.wrs f [(R.HIF_FN_ACT_SQ_COUNT, s.rd R.HIF_FN_CFG_SQ_COUNT f), (R.HIF_FN_ACT_CQ_COUNT, s.rd R.HIF_FN_CFG_CQ_COUNT f),
        (R.HIF_FN_ACT_VEC_BASE, s.rd R.HIF_FN_CFG_VEC_BASE f), (R.HIF_FN_ACT_VEC_M1, s.rd R.HIF_FN_CFG_VEC_M1 f),
        (R.HIF_FN_ACT_APPLY_ERR, 0)]
    else t.wr R.HIF_FN_ACT_APPLY_ERR f 1) s

/-- A function reset of every function of a list (R448). -/
def State.resetFns (s : State) (l : List Nat) : State :=
  let p := fun f => l.contains f
  let js := (s.jobs.filter fun e => match s.jobFn e.2 with
    | some f => p f
    | none => false).map fun e => e.1
  let s1 := (js.foldl State.resetJob s).resetCtls p
  (((s1.resetQueues p).resetHif p).applyLimits l).kick

/-! ### A unit reset of a core (R69, R616, R709) -/

/-- The registers of a core and its threads, which a unit reset returns to their reset values. -/
def coreRegs : List RegD := [Reg.LTN_CORE_ISSUE, Reg.LTN_CORE_ECL, Reg.LTN_CORE_FLTQ_STAT, Reg.LTN_CORE_HBCTL, Reg.LTN_DBG_CTL]
def threadRegs : List RegD :=
  [Reg.LTN_THR_CTL, Reg.LTN_THR_PC, Reg.LTN_THR_EVPEND, Reg.LTN_THR_EVOVR, Reg.LTN_THR_WAITMASK, Reg.LTN_THR_TIMER, Reg.LTN_THR_DBGSEL]

/-- A core returns to its reset state with every thread OFF; reservations end with their slots VOID. -/
def State.resetCore (s : State) (c : Nat) : State :=
  let ts := (List.range 8).map fun k => 8 * c + k
  let s1 := ts.foldl (fun s t => ((s.voidResv t).setThr t Thread.fresh)) s
  let s2 := ts.foldl (fun s t => threadRegs.foldl (fun s d => s.resetReg d t) s) s1
  let s3 := ts.foldl (fun s t => (List.range 32).foldl (fun s n => s.resetReg Reg.LTN_EVBIND (bindIx t n)) s) s2
  let s4 := coreRegs.foldl (fun s d => s.resetReg d c) s3
  (s4.setCore c { Core.fresh with gated := (s.core c).gated }).settleCore c

/-- The entry address that the boot chain has set for t0 (R69): ENTRY of the running device firmware. -/
def State.entry (s : State) : Option Word := s.sec.dev.map fun d => BitVec.ofNat 64 (leVal (sliceB d.2 32 8))

/-- t0 of a core starts at the entry address. -/
def State.startT0 (s : State) (c : Nat) : State :=
  match s.entry with
  | some e => s.startAt (8 * c) e
  | none => s

/-! ### Rights after a reset (R647, R651) -/

/-- The lifecycle state. -/
def State.life (s : State) : Nat := (s.otpField 1).getD 0

/-- The default rights of an accessor (R647, R651). In SCRAPPED no accessor holds a right. -/
def State.defaultRights (s : State) (a : Nat) : Nat :=
  match s.life with
  | 0 => 63
  | 1 => if a = 0 then 2 else if a = 1 then 1 else 0
  | 2 => 63 - 4
  | _ => 0

/-- The defaults are applied to every accessor. -/
def State.setRights (s : State) : State := (List.range 11).foldl (fun s a => s.wr R.LHS_RIGHTS_RIGHTS a (s.defaultRights a)) s

/-! ### Everything outside the Ember domain (R693, R694, R709 to R711) -/

/-- The fields of some registers. -/
def fldsOf (l : List RegD) : List Nat := l.flatMap fun d => d.flds.map fun f => f.id

/-- The registers that a device soft reset keeps: Lighthouse and power control, the host links, the node ID, the maps of the unit table
and the root keys. -/
def emberFlds : List Nat :=
  fldsOf (regsLhs ++ regsPwr ++ [Reg.HIF_LINK_STAT, Reg.HIF_WAKE_CFG, Reg.LTN_CL_MAP, Reg.GLT_ROOT])
    ++ [R.BCN_NODE_NODE, R.BCN_NODE_NODE_V, R.GLT_CL_STAT_PHYS, R.GLT_CL_STAT_POWER, R.GLT_CL_STAT_OUT, R.PSM_BANK_CFG_PHYS].map
      fun f => f.id

/-- An activation in progress ends (R711). -/
def State.endActivation (s : State) : State :=
  let st := s.rd R.LHS_FW_STAT_STATE 0
  if 3 ≤ st ∧ st ≤ 6 then
    (s.wrs 0 [(R.LHS_FW_STAT_STATE, 0), (R.LHS_FW_STAT_RESULT, 9)]).modSec fun x => { x with act := none, prev := none, fwHeld := false }
  else s

/-- The frames on the wire of every Ethernet port end aborted (R710). -/
def State.abortFrames (s : State) : State :=
  (List.range 16).foldl (fun s e => match KMap.getD s.ethTx e [] with
    | f :: _ => s.ethWire e f.data true
    | [] => s) s

/-- Every block outside the Ember domain returns to its reset state; on-die SRAM is zeroed (R709). `hbm`: HBM keeps its contents. -/
def State.clearOutside (s : State) (hbm : Bool) : State :=
  let inHbm := fun a => decide (a < hbmSize s.part)
  let gated := s.ltn.cores.filter fun e => e.2.gated
  { State.reset with
    regs := s.regs.filter fun e => emberFlds.contains (e.1 / 2 ^ 24)
    time := s.time
    frac := s.frac
    part := s.part
    mem := if hbm then s.mem.filter fun c => inHbm c.1 else []
    poison := if hbm then s.poison.filter fun e => inHbm (8 * e.1) else []
    ltn := { Ltn.fresh with
             cores := gated.map fun (e : Nat × Core) => (e.1, { Core.fresh with gated := true })
             migr := s.ltn.migr }
    hif := { Hif.fresh with portAct := s.hif.portAct, pfAct := s.hif.pfAct, wake := s.hif.wake, pmeOwed := s.hif.pmeOwed }
    fab := { Fabric.fresh with lastId := s.fab.lastId, wantId := s.fab.wantId }
    glint := { Glint.fresh with roots := s.glint.roots }
    reports := s.reports
    sec := s.sec
    lhs := s.lhs
    pwr := s.pwr
    nextJob := s.nextJob
    free := s.free
    drawn := s.drawn
    out := s.out
    pending := s.pending }

/-- Root keys that are not persistent are lost (R709, R714). -/
def State.loseKeys (s : State) : State :=
  { s with glint := { s.glint with roots := [] } , regs := s.regs.filter fun e => !(fldsOf [Reg.GLT_ROOT]).contains (e.1 / 2 ^ 24) }

/-- The directory copy in force (R665): its number, SEQ and preference bits. -/
def State.dirWin (s : State) : Option (Nat × Nat × Nat) :=
  s.sec.dir.foldl (fun (m : Option (Nat × Nat × Nat)) e => match m with
    | some x => if x.2.1 < e.2.1 then some (e.1, e.2) else some x
    | none => some (e.1, e.2)) none

/-- The preferred bank of LHS_FW (`k` = 0) or DEV_FW (`k` = 1): 0 A, 1 B. -/
def State.preferred (s : State) (k : Nat) : Nat := bitsAt ((s.dirWin.map fun x => x.2.2).getD 0) k 1

/-- Make a bank preferred: the other directory copy is rewritten with the next SEQ. -/
def State.prefer (s : State) (k b : Nat) : State :=
  match s.dirWin with
  | some (c, q, v) => s.modSec fun x => { x with dir := KMap.put x.dir (1 - c) (q + 1, putBits v k 1 b) }
  | none => s.modSec fun x => { x with dir := KMap.put x.dir 0 (1, putBits 0 k 1 b) }

/-- A staged LHS_FW becomes the preferred one (R682). -/
def State.preferLhs (s : State) : State :=
  match s.sec.lhsNew with
  | none => s
  | some b => (s.prefer 0 b).modSec fun x => { x with lhsNew := none }

/-- A device soft reset (R710, R711), with LAST. Stage 0 runs again only when a new LHS_FW has been staged. -/
def State.softReset (s : State) (cause : Nat) : State :=
  let new := s.sec.lhsNew.isSome
  let s1 := ((s.abortFrames.clearOutside true).endActivation).preferLhs
  let s2 := if cause = 1 then s1 else s1.resetReg Reg.HIF_WAKE_CFG 0
  let s3 := if s2.rd R.LHS_FW_STAT_STATE 0 = 1 then s2.wrs 0 [(R.LHS_FW_STAT_STATE, 0), (R.LHS_FW_STAT_RESULT, 7)] else s2
  let s4 := (s3.wr R.PWR_RST_CAUSE_LAST 0 cause).sat R.PWR_RST_CAUSE_SOFT_CNT 0 1
  (s4.setRights).modPwr fun x => { x with
    boot := if x.boot = .held ∨ x.boot = .rom ∨ x.boot = .isolated ∨ x.boot = .recovery then x.boot
      else if new then .powered else .loaded }

/-- The main supplies are gone: everything outside the Ember domain is lost (R714). -/
def State.isolate (s : State) : State :=
  let s1 := ((s.clearOutside false).loseKeys).endActivation
  let s2 := (List.range 4).foldl (fun s l => s.resetReg Reg.HIF_LINK_STAT l) s1
  s2.modPwr fun x => { x with
    mainPg := false
    boot := if x.boot = .held ∨ x.boot = .rom ∨ x.boot = .recovery then x.boot
      else if s.sec.lhs.isNone then .rom else .isolated }

end Sys2Proof.Machine
end

