-- ==== Sys2Proof/Machine/HostIf.lean ====
section
/-!
DEFINITION. The host interface (10_host_interface.md): PERST#, links, function level reset, configuration writes, MSI-X, power states,
wake and PTM.
-/

namespace Sys2Proof.Machine

/-! ### Links (R449 to R451, R483, R713) -/

/-- The data link layer of a link goes up or down: line 44 + l latches when that changes (R92). -/
def State.setUp (s : State) (l : Nat) (up : Bool) : State :=
  if s.flag R.HIF_LINK_STAT_UP l == up then s else ((s.setFlag R.HIF_LINK_STAT_UP l up).latchLine (44 + l)).ltr

/-- A link leaves its active state. -/
def State.linkDrop (s : State) (l : Nat) : State :=
  let s1 := (s.setUp l false).wrs l [(R.HIF_LINK_STAT_RATE, 0), (R.HIF_LINK_STAT_WIDTH, 0), (R.HIF_LINK_STAT_FLIT, 0)]
  { s1 with hif := { s1.hif with pm := KMap.del s1.hif.pm l, ltr := KMap.del s1.hif.ltr l } }

/-- The functions on a link. -/
def State.linkFns (s : State) (l : Nat) : List Nat := (s.pfsOf l).flatMap s.familyOf

/-- Every function of a link is reset, after its notice (R448, R540). -/
def State.resetLink (s : State) (l ev : Nat) : State :=
  if (s.pfsOf l).isEmpty then s else (s.notice ev 3 l).resetFns (s.linkFns l)

/-- The staged settings of a port come into force (R449, R451, R532). -/
def State.applyPort (s : State) (n : Nat) : State :=
  let act := (s.rd R.HIF_PORT_CFG_BIFUR n, s.rd R.HIF_PORT_CFG_MAX_RATE n, s.rd R.HIF_PORT_CFG_FLIT_EN n)
  let mine := (List.range 8).filter fun p => (s.pfLink p).1 / 2 == n || s.rd R.HIF_PF_LINK_LINK p / 2 == n
  let pf := mine.foldl (fun m p => KMap.put m p (s.rd R.HIF_PF_LINK_LINK p, s.rd R.HIF_PF_LINK_EN p)) s.hif.pfAct
  { s with hif := { s.hif with portAct := KMap.put s.hif.portAct n act, pfAct := pf } }

/-- The VF range of a PF: staged, or in force, as first and end. -/
def State.vfRange (s : State) (p : Nat) (staged : Bool) : Nat × Nat :=
  if staged then (s.rd R.HIF_PF_VF_FIRST p, s.rd R.HIF_PF_VF_FIRST p + s.rd R.HIF_PF_VF_COUNT p)
  else (s.rd R.HIF_PF_VF_ACT_FIRST p, s.rd R.HIF_PF_VF_ACT_FIRST p + s.rd R.HIF_PF_VF_ACT_COUNT p)

/-- The staged VF ranges of a set of PFs come into force together, or APPLY_ERR is set in each (R532). -/
def State.applyVfs (s : State) (l : List Nat) : State :=
  let good := l.all fun p => (List.range 8).all fun q => q == p || (
    let a := s.vfRange p true
    let b := s.vfRange q (l.contains q)
    a.1 == a.2 || b.1 == b.2 || decide (a.2 ≤ b.1 ∨ b.2 ≤ a.1))
  l.foldl (fun t p =>
    if good then
      t.wrs p [(R.HIF_PF_VF_ACT_FIRST, s.rd R.HIF_PF_VF_FIRST p), (R.HIF_PF_VF_ACT_COUNT, s.rd R.HIF_PF_VF_COUNT p),
        (R.HIF_PF_VF_APPLY_ERR, 0)]
    else t.wr R.HIF_PF_VF_APPLY_ERR p 1) s

/-- The links of a port. -/
def portLinks (n : Nat) : List Nat := [2 * n, 2 * n + 1]

/-- PERST# stands on every port that holds an enabled PF (R708). -/
def State.allPerst (s : State) : Bool :=
  ((List.range 8).filter s.pfOn).all fun p => s.pwr.perst.contains ((s.pfLink p).1 / 2)

/-- PERST_ASSERT (R448, R449, R451, R532, R708): the port's functions and links are reset and its staged settings come into force; with
PERST# on every port that holds an enabled PF, the device part follows. -/
def doPerstAssert (port : Nat) (s : State) : State :=
  if 2 ≤ port ∨ s.pwr.perst.contains port = true then s
  else
    let s1 := (portLinks port).foldl (fun s l => (s.resetLink l 4).linkDrop l) s
    let pfs := (List.range 8).filter fun p => (s.pfLink p).1 / 2 == port
    let s2 := ((s1.applyPort port).applyVfs pfs).modPwr fun x => { x with perst := addOnce port x.perst }
    if s2.allPerst && decide (s2.pwr.boot = .loaded ∨ s2.pwr.boot = .applied ∨ s2.pwr.boot = .ready ∨ s2.pwr.boot = .running) then
      if s.pwr.boot = .loaded ∨ s.pwr.boot = .applied then s2 else s2.softReset 1
    else s2

/-- PERST_DEASSERT (R486, R713): the port's links may train; WAKE# is released. -/
def doPerstDeassert (port : Nat) (s : State) : State :=
  if port < 2 ∧ s.pwr.perst.contains port = true then
    let s1 := (s.applyPort port).modPwr fun x => { x with perst := x.perst.filter fun n => n != port }
    if s1.hif.wake then ({ s1 with hif := { s1.hif with wake := false } }).emit (.wakePin false) else s1
  else s

/-- HOT_RESET (R448). -/
def doHotReset (link : Nat) (s : State) : State :=
  if s.linkExists link && s.flag R.HIF_LINK_STAT_UP link then (s.resetLink link 3).linkDrop link else s

/-- PCIE_LINK_DOWN (R448, R483): a link goes down without a reset. -/
def doPcieLinkDown (link : Nat) (s : State) : State :=
  if link < 4 ∧ s.flag R.HIF_LINK_STAT_UP link = true then
    ((s.resetLink link 5).linkDrop link).sat R.HIF_LINK_STAT_DOWN_CNT link 1
  else s

/-- The greatest link width of PCI Express within a number of lanes. -/
def pcieWidth (n : Nat) : Nat := if 16 ≤ n then 16 else if 8 ≤ n then 8 else if 4 ≤ n then 4 else if 2 ≤ n then 2 else n

/-- A link may train (R447, R647, R667, R713). -/
def State.mayTrain (s : State) (l : Nat) : Bool :=
  s.linkExists l && !(s.pfsOf l).isEmpty && decide (s.pwr.boot = .ready ∨ s.pwr.boot = .running)
    && !s.pwr.perst.contains (l / 2) && s.life != 3

/-- PCIE_LINK_UP (R447, R450, R451, R713): a link is trained with what both ends allow. A PME message owed from D3cold follows (R486). -/
def doPcieLinkUp (link partnerRate partnerWidth : Nat) (partnerFlit : Bool) (s : State) : State :=
  if !s.mayTrain link || s.flag R.HIF_LINK_STAT_UP link then s
  else
    let c := s.portCfg (link / 2)
    let flit := c.2.2 == 1 && partnerFlit
    let rate := Nat.min (Nat.min partnerRate (c.2.1 + 2)) (if flit then 5 else 4)
    let width := pcieWidth (Nat.min partnerWidth (if c.1 = 1 then 8 else 16))
    if width = 0 then s
    else
      let s1 := (s.wrs link [(R.HIF_LINK_STAT_RATE, rate), (R.HIF_LINK_STAT_WIDTH, width),
        (R.HIF_LINK_STAT_FLIT, b2n flit)]).setUp link true
      match s1.hif.pmeOwed, s1.pfsOf link with
      | true, p :: _ => ({ s1 with hif := { s1.hif with pmeOwed := false } }).sendTlp link (.pme p)
      | _, _ => s1

/-! ### Function level reset and VF Enable (R448, R480 to R482) -/

/-- FLR_START (R480, R481). -/
def doFlrStart (fn : Nat) (s : State) : State :=
  s.viaCfg fn fun s =>
    let l := if fn < 8 then s.familyOf fn else [fn]
    let live := s.existing l
    let s1 := (s.notice 0 (b2n (decide (fn < 8))) fn).resetFns l
    live.foldl (fun s f => s.wr R.HIF_FN_STAT_FLR_BUSY f 1) s1

/-- FLR_DONE (R480): the FLR of a function, with those of its VFs, completes. -/
def doFlrDone (fn : Nat) (s : State) : State :=
  if s.flag R.HIF_FN_STAT_FLR_BUSY fn then
    let l := if fn < 8 then s.familyOf fn else [fn]
    (((s.listed R.HIF_FN_STAT_FLR_BUSY).filter fun f => l.contains f).foldl (fun s f => s.wr R.HIF_FN_STAT_FLR_BUSY f 0) s).notice
      1 (b2n (decide (fn < 8))) fn
  else s

/-- VF_ENABLE_CLEAR (R448): a write of VF Enable and NumVFs of a PF. -/
def doVfEnableClear (pf numVfs : Nat) (enable : Bool) (s : State) : State :=
  if 8 ≤ pf then s
  else s.viaCfg pf fun s =>
    let c := s.fcfg pf
    if c.vfEn then
      if enable then s
      else
        let s1 := (s.notice 2 2 pf).setFcfg pf { c with vfEn := false }
        s1.resetFns (s1.vfsOf pf)
    else
      let n := Nat.min numVfs (s.rd R.HIF_PF_VF_ACT_COUNT pf)
      if !enable then s.setFcfg pf { c with numVfs := n }
      else
        let s1 := s.setFcfg pf { c with vfEn := true, numVfs := n, vfNums := n }
        if n = c.vfNums then s1 else (s1.notice 2 2 pf).resetFns (s1.vfsOf pf)

/-! ### Bus Master Enable (R477 to R479, R530) -/

/-- A job that a clear of Bus Master Enable tears. -/
def State.tears (s : State) (f : Nat) (j : Job) : Bool :=
  s.jobFn j == some f && j.issued && (match j.origin with
    | .sq _ _ => true
    | .rx _ _ => true
    | .slot _ => true
    | _ => false)

/-- The transfers of internal rings that use a function's host memory. -/
def State.ringJobsOf (s : State) (f : Nat) : List (Nat × Job) :=
  s.jobs.filter fun e => e.2.fn == some f && e.2.onHost && match e.2.origin with
    | .ring _ _ _ => true
    | _ => false

/-- Bus Master Enable of a function becomes 0 (R477): its jobs are torn, its reads dead, its ring jobs end with BME_LOST. -/
def State.dropBme (s : State) (fn : Nat) : State :=
  let torn := (s.jobs.filter fun e => s.tears fn e.2).map fun e => e.1
  let dead := fun (e : Nat × HRead) => if e.2.fn == fn && e.2.dead == .no then (e.1, { e.2 with dead := .bme }) else e
  let s1 := s.setFcfg fn { s.fcfg fn with bme := false }
  let s2 := { s1 with hif := { s1.hif with reads := s1.hif.reads.map dead } }
  let s3 := torn.foldl (fun s n => s.modJob n fun j => { j with torn := true }) s2
  let s4 := (s3.ringJobsOf fn).foldl (fun s e => (s.dropGlint e.1 e.2).finishRing e.1 CplStat.bmeLost.code e.2.done) s3
  let s5 := (s4.jobs.filter fun e => match e.2.origin with
    | .flush _ => e.2.fn == some fn
    | _ => false).foldl (fun s e => s.modJob e.1 fun j => j.fail CplStat.bmeLost.code) s4
  ((if torn.isEmpty then s5 else s5.wr R.HIF_FN_STAT_TORN fn 1).notice 6 0 fn).settleFn fn

/-- BME_CLEAR (R477, R478). -/
def doBmeClear (fn : Nat) (s : State) : State :=
  s.viaCfg fn fun s => if !(s.fcfg fn).bme then s else s.dropBme fn

/-- Spilled entries of a function's queues go to their rings (R530). -/
def State.moveSpills (s : State) (f : Nat) : State :=
  let s1 := (s.cqsOf f).foldl (fun s c => (List.range (s.rd R.QM_CQ_SPILLED c)).foldl (fun s _ => s.moveSpill c) s) s
  (s1.nvm.cqs.filter fun e => e.2.fn == f).foldl (fun s e => (List.range e.2.spilled.length).foldl (fun s _ => s.moveNvmeSpill e.1) s) s1

/-- A torn job completes with BME_LOST when Bus Master Enable is set again; an OPEN job that has written output is zeroed first (R402,
R478). -/
def State.endTorn (s : State) (n : Nat) : State :=
  match KMap.find s.jobs n with
  | none => s
  | some j =>
    if !j.torn then s
    else
      let zeroing := match KMap.find s.glint.keys n with
        | some _ => j.opc == 8 && (jobHdr j.input).open_ && decide (0 < j.done)
        | none => false
      if zeroing then s.scrubJob n CplStat.bmeLost.code
      else
        let st := CplStat.bmeLost.code
        match j.origin with
        | .sq q _ => (((s.dropGlint n j).forgetJob n).endJob n).complete q j.desc st j.done j.aux
        | .rx q _ =>
          ((((s.forgetJob n).endJob n).freeFrame { Pkt.fresh with handle := j.frame.getD 0, data := j.output }).complete q j.desc st
            j.done j.aux).returnRx q
        | .slot k => s.finishSlot k (nvmeStatus st) 0
        | _ => s

/-- Bus Master Enable of a function becomes 1 (R478): entries that waited are written, torn jobs end, messages go out. -/
def State.gainBme (s : State) (fn : Nat) : State :=
  let s1 := (s.setFcfg fn { s.fcfg fn with bme := true }).moveSpills fn
  let torn := (s1.jobs.filter fun e => e.2.torn && s1.jobFn e.2 == some fn).map fun e => e.1
  let s2 := ((torn.foldl State.endTorn s1).flushMsgs fn).wr R.HIF_FN_STAT_TORN fn 0
  (s2.kick.notice 7 0 fn).settleFn fn

/-- BME_SET (R478, R530). -/
def doBmeSet (fn : Nat) (s : State) : State :=
  s.viaCfg fn fun s => if (s.fcfg fn).bme then s else s.gainBme fn

/-! ### Address translation and MSI-X (R464 to R470) -/

/-- ATS_ENABLE_CLEAR (R470). -/
def doAtsEnableClear (fn : Nat) (s : State) : State :=
  s.viaCfg fn fun s =>
    let s1 := s.setFcfg fn { s.fcfg fn with atsEn := false }
    ({ s1 with hif := { s1.hif with atc := s1.hif.atc.filter fun e => e.pg.fn != fn } }).kick

/-- Vectors of a function (R464). -/
def State.vecCount (s : State) (f : Nat) : Nat := s.rd R.HIF_FN_ACT_VEC_M1 f + 1

/-- A write of the address or data of an MSI-X table entry (R465, R466). -/
def State.wrMsix (s : State) (f v : Nat) (addr data : Option Nat) : State :=
  let e := s.msixEnt f v
  if s.vecCount f ≤ v ∨ (e.mask || (s.fcfg f).fnMask) = false then s
  else
    let e2 : MsixEnt := { e with addr := (addr.getD e.addr) % 2 ^ 64, data := (data.getD e.data) % 2 ^ 32 }
    { s with hif := { s.hif with msix := KMap.setD s.hif.msix (vecKey f v) MsixEnt.fresh e2 } }

/-- A write of the Mask bit of an entry (R466, R467). -/
def State.maskVec (s : State) (f v : Nat) (m : Bool) : State :=
  if s.vecCount f ≤ v then s
  else
    let e : MsixEnt := { s.msixEnt f v with mask := m }
    ({ s with hif := { s.hif with msix := KMap.setD s.hif.msix (vecKey f v) MsixEnt.fresh e } }).flushMsgs f

/-- MSIX_TABLE_WRITE (R466). -/
def doMsixTableWrite (fn vec : Nat) (addr data : Option Nat) (s : State) : State := s.viaBar fn fun s => s.wrMsix fn vec addr data

/-- MSIX_UNMASK (R467). -/
def doMsixUnmask (fn vec : Nat) (s : State) : State := s.viaBar fn fun s => s.maskVec fn vec false

/-- INTERRUPT_DISABLE_WRITE (R468). -/
def doInterruptDisableWrite (pf : Nat) (disable : Bool) (s : State) : State :=
  if pf < 8 then s.viaCfg pf fun s => (s.setFcfg pf { s.fcfg pf with intxDis := disable }).intx pf else s

/-! ### Power states and wake (R484 to R489) -/

/-- D3HOT_ENTRY (R484, R485). -/
def doD3hotEntry (fn : Nat) (s : State) : State :=
  s.viaCfg fn fun s => if s.rd R.HIF_FN_STAT_DSTATE fn = 3 then s else (s.wr R.HIF_FN_STAT_DSTATE fn 3).notice 8 0 fn

/-- D0_ENTRY (R484, R485): held writes, entries and messages go out. -/
def doD0Entry (fn : Nat) (s : State) : State :=
  s.viaCfg fn fun s =>
    if s.rd R.HIF_FN_STAT_DSTATE fn = 0 then s
    else (((((s.wr R.HIF_FN_STAT_DSTATE fn 0).moveSpills fn).kick).flushMsgs fn).notice 9 0 fn).settleFn fn

/-- A wake event of a function stands (R486): a frame for one of its receive queues, or a completion due on one of its queues. -/
def State.wakeDue (s : State) (f : Nat) : Bool :=
  (s.tm.rxq.any fun e => !e.2.isEmpty && s.rd R.QM_SQ_FUNC e.1 == f)
    || (s.cqsOf f).any (fun c => s.rd R.QM_CQ_SPILLED c != 0) || s.nvmeSpilled f
    || s.jobs.any fun e => s.jobFn e.2 == some f && match e.2.origin with
      | .cpl _ _ => true
      | .ncpl _ _ => true
      | .rx _ _ => true
      | _ => false

/-- PME_SEND (R486). -/
def doPmeSend (fn : Nat) (s : State) : State :=
  let c := s.fcfg fn
  if s.rd R.HIF_FN_STAT_DSTATE fn = 3 ∧ c.pmeEn = true ∧ c.pmeStat = false ∧ s.wakeDue fn = true then
    (s.setFcfg fn { c with pmeStat := true }).sendTlp (s.linkOf fn) (.pme fn)
  else s

/-- A wake source is enabled (R486). -/
def State.wakeOn (s : State) : WakeSrc → Bool
  | .ethGroup n => decide (n < 4) && bitAt (s.rd R.HIF_WAKE_CFG_ETH_GRP 0) n
  | .mgmt => s.flag R.HIF_WAKE_CFG_MGMT 0
  | .gpio n => s.flag R.HIF_WAKE_CFG_GPIO 0 && s.rd R.HIF_WAKE_CFG_GPIO_SEL 0 == n

/-- WAKE_EVENT (R486): in D3cold an enabled source asserts WAKE#. -/
def doWakeEvent (src : WakeSrc) (s : State) : State :=
  if s.pwr.boot = .isolated ∧ s.flag R.HIF_WAKE_CFG_WAKE_EN 0 = true ∧ s.wakeOn src = true ∧ s.hif.wake = false then
    ({ s with hif := { s.hif with wake := true, pmeOwed := true } }).emit (.wakePin true)
  else s

/-- PME_TURN_OFF (R486). -/
def doPmeTurnOff (link : Nat) (s : State) : State :=
  if s.flag R.HIF_LINK_STAT_UP link then (s.sendTlp link (.pmeToAck link)).tlpIn link else s

/-- Function number 0 of a link (R452). -/
def State.fn0 (s : State) (l : Nat) : Option Nat := (s.pfsOf l).head?

/-- Power state of a link. -/
def State.linkPm (s : State) (l : Nat) : LinkPm := KMap.getD s.hif.pm l .l0

/-- Set it. -/
def State.setPm (s : State) (l : Nat) (x : LinkPm) : State := { s with hif := { s.hif with pm := KMap.setD s.hif.pm l .l0 x } }

/-- ASPM_L1_ENTRY (R488): enabled, and no request outstanding on the link. -/
def doAspmL1Entry (link : Nat) (s : State) : State :=
  let on := match s.fn0 link with
    | some p => (s.fcfg p).aspmL1
    | none => false
  let busy := (s.hif.reads.any fun e => s.linkOf e.2.fn == link) || s.hif.treqs.any fun r => s.linkOf r.pg.fn == link
  if s.flag R.HIF_LINK_STAT_UP link && on && !busy && s.linkPm link != .l1 then (s.setPm link .l1).emit (.enterL1 link) else s

/-- L0P_WIDTH_CHANGE (R488): in Flit Mode the link goes to half or to full width. -/
def doL0pWidthChange (link : Nat) (full : Bool) (s : State) : State :=
  let now := s.linkPm link
  if s.flag R.HIF_LINK_STAT_UP link && s.flag R.HIF_LINK_STAT_FLIT link && now == (if full then .l0pHalf else .l0) then
    (s.setPm link (if full then .l0 else .l0pHalf)).emit (.l0pWidth link full)
  else s

/-! ### PTM (R490, R706) -/

/-- How far apart the greatest and the least of a list of signed 64-bit numbers lie. -/
def spread (l : List Nat) : Nat :=
  let v := l.map (signedOf 64)
  match v with
  | [] => 0
  | a :: r => (r.foldl max a - r.foldl min a).toNat

/-- An offset of the timebase from the PTM master is taken (R490, R706): the last ten are kept; with STEER_EN the rate follows. -/
def State.takePtm (s : State) (master : Nat) : State :=
  let o := toSigned 64 ((master : Int) - s.time)
  let l := (o :: s.pwr.ofs).take 10
  let s1 := (s.wr R.PWR_TB_OFS_OFFSET 0 o).modPwr fun x => { x with ofs := l }
  let s2 := s1.setFlag R.PWR_TB_STAT_LOCKED 0 (decide (l.length = 10) && decide (spread l < 1000))
  if s2.flag R.PWR_TB_CFG_STEER_EN 0 then
    let m := 1000 * s2.rd R.PWR_TB_CFG_MAX_PPM 0
    s2.draw.2.wr R.PWR_TB_STAT_RATE_PPB 0 (toSigned 24 ((s2.draw.1 % (2 * m + 1) : Nat) - (m : Int)))
  else s2

/-- PTM_MEASURE (R490, R706): OFFSET is taken; Lighthouse steers the rate within MAX_PPM, to a value that the spec does not state. -/
def doPtmMeasure (master : Nat) (s : State) : State :=
  let on := match s.fn0 (s.rd R.PWR_TB_CFG_PTM_LINK 0) with
    | some p => (s.fcfg p).ptmEn
    | none => false
  let l := s.rd R.PWR_TB_CFG_PTM_LINK 0
  if !on then s else (s.takePtm master).tlpBoth l

/-! ### The meanings of the rows -/

/-- PERST_ASSERT (R708). -/
def execPerstAssert (port : Nat) (s : State) : Host.Outcome State Fault Refusal :=
  .next (s.after (doPerstAssert port s))

/-- PERST_DEASSERT (R713). -/
def execPerstDeassert (port : Nat) (s : State) : Host.Outcome State Fault Refusal :=
  .next (s.after (doPerstDeassert port s))

/-- HOT_RESET (R448). -/
def execHotReset (link : Nat) (s : State) : Host.Outcome State Fault Refusal :=
  .next (s.after (doHotReset link s))

/-- PCIE_LINK_UP (R450). -/
def execPcieLinkUp (link : Nat) (partnerRate : Nat) (partnerWidth : Nat) (partnerFlit : Bool) (s : State) :
    Host.Outcome State Fault Refusal :=
  .next (s.after (doPcieLinkUp link partnerRate partnerWidth partnerFlit s))

/-- PCIE_LINK_DOWN (R483). -/
def execPcieLinkDown (link : Nat) (s : State) : Host.Outcome State Fault Refusal :=
  .next (s.after (doPcieLinkDown link s))

/-- FLR_START (R480). -/
def execFlrStart (fn : Nat) (s : State) : Host.Outcome State Fault Refusal :=
  .next (s.after (doFlrStart fn s))

/-- FLR_DONE (R480). -/
def execFlrDone (fn : Nat) (s : State) : Host.Outcome State Fault Refusal :=
  .next (s.after (doFlrDone fn s))

/-- VF_ENABLE_CLEAR (R448). -/
def execVfEnableClear (pf : Nat) (numVfs : Nat) (enable : Bool) (s : State) : Host.Outcome State Fault Refusal :=
  .next (s.after (doVfEnableClear pf numVfs enable s))

/-- BME_CLEAR (R477). -/
def execBmeClear (fn : Nat) (s : State) : Host.Outcome State Fault Refusal :=
  .next (s.after (doBmeClear fn s))

/-- BME_SET (R478). -/
def execBmeSet (fn : Nat) (s : State) : Host.Outcome State Fault Refusal :=
  .next (s.after (doBmeSet fn s))

/-- ATS_ENABLE_CLEAR (R470). -/
def execAtsEnableClear (fn : Nat) (s : State) : Host.Outcome State Fault Refusal :=
  .next (s.after (doAtsEnableClear fn s))

/-- MSIX_TABLE_WRITE (R466). -/
def execMsixTableWrite (fn : Nat) (vec : Nat) (addr : Option Nat) (data : Option Nat) (s : State) :
    Host.Outcome State Fault Refusal :=
  .next (s.after (doMsixTableWrite fn vec addr data s))

/-- MSIX_UNMASK (R467). -/
def execMsixUnmask (fn : Nat) (vec : Nat) (s : State) : Host.Outcome State Fault Refusal :=
  .next (s.after (doMsixUnmask fn vec s))

/-- D3HOT_ENTRY (R485). -/
def execD3hotEntry (fn : Nat) (s : State) : Host.Outcome State Fault Refusal :=
  .next (s.after (doD3hotEntry fn s))

/-- D0_ENTRY (R484). -/
def execD0Entry (fn : Nat) (s : State) : Host.Outcome State Fault Refusal :=
  .next (s.after (doD0Entry fn s))

/-- PME_SEND (R486). -/
def execPmeSend (fn : Nat) (s : State) : Host.Outcome State Fault Refusal :=
  .next (s.after (doPmeSend fn s))

/-- WAKE_EVENT (R486). -/
def execWakeEvent (src : WakeSrc) (s : State) : Host.Outcome State Fault Refusal :=
  .next (s.after (doWakeEvent src s))

/-- PME_TURN_OFF (R486). -/
def execPmeTurnOff (link : Nat) (s : State) : Host.Outcome State Fault Refusal :=
  .next (s.after (doPmeTurnOff link s))

/-- ASPM_L1_ENTRY (R488). -/
def execAspmL1Entry (link : Nat) (s : State) : Host.Outcome State Fault Refusal :=
  .next (s.after (doAspmL1Entry link s))

/-- L0P_WIDTH_CHANGE (R488). -/
def execL0pWidthChange (link : Nat) (full : Bool) (s : State) : Host.Outcome State Fault Refusal :=
  .next (s.after (doL0pWidthChange link full s))

/-- PTM_MEASURE (R490). -/
def execPtmMeasure (master : Nat) (s : State) : Host.Outcome State Fault Refusal :=
  .next (s.after (doPtmMeasure master s))

/-- INTERRUPT_DISABLE_WRITE (R468). -/
def execInterruptDisableWrite (pf : Nat) (disable : Bool) (s : State) : Host.Outcome State Fault Refusal :=
  .next (s.after (doInterruptDisableWrite pf disable s))

end Sys2Proof.Machine
end

