-- ==== Sys2Proof/Machine/Cuckoo.lean ====
section
/-!
DEFINITION. The two-choice cuckoo tables of forwarding (R302 to R307): the exact-match flow table and the learned MAC tables, their
lookups, insertions with chains of moves, and the next-hop stores of R292.
-/

namespace Sys2Proof.Machine

/-- The trie, next-hop and MAC windows (R43, R290, R314). -/
def trieBase : Nat := 0x4000000000

/-- Base of the next-hop table (R290). -/
def nhBase : Nat := 0x4005C00000

/-- Base of the MAC table of a pipeline (R314). -/
def macBase (p : Nat) : Nat := 0x400F000000 + 0x400000 * p

/-! ### Stores to the next-hop table (R292) -/

/-- Hold bytes from offset `off` on of the lower half of next-hop entry `n`, over what is held or stored there (R292). -/
def State.nhHold (s : State) (n off : Nat) (bs : Bytes) : State :=
  let cur := (KMap.find s.fwd.nhHeld n).getD (s.bytes (nhBase + 16 * n) 8)
  let low := (List.range 8).map fun k => if off ≤ k then bs.getD (k - off) (cur.getD k 0) else cur.getD k 0
  { s with fwd := { s.fwd with nhHeld := KMap.put s.fwd.nhHeld n low } }

/-- Write the lower half held for next-hop entry `n`, if one is (R292). -/
def State.nhRelease (s : State) (n : Nat) : State :=
  match KMap.find s.fwd.nhHeld n with
  | some low => ({ s with fwd := { s.fwd with nhHeld := KMap.del s.fwd.nhHeld n } }).setBytes (nhBase + 16 * n) (low.take 8)
  | none => s

/-- Store bytes at an internal address. In the next-hop table a store to bytes 0 to 7 of an entry is held, and the entry changes
whole at the store to its bytes 8 to 15 (R292). -/
def State.storeMem (s : State) (a : Nat) (bs : Bytes) : State :=
  if a < nhBase ∨ trieBase + 0x6000000 ≤ a then s.setBytes a bs
  else
    let n := (a - nhBase) / 16
    let off := (a - nhBase) % 16
    let lowNew := bs.take (8 - off)
    let highNew := bs.drop (8 - off)
    let s1 := if lowNew = [] then s else s.nhHold n off lowNew
    if highNew = [] then s1 else (s1.nhRelease n).setBytes (Nat.max a (nhBase + 16 * n + 8)) highNew

/-- Store bytes, each 8-byte word of the next-hop table as a store of its own. -/
def State.storeAll (s : State) (a : Nat) (bs : Bytes) : State :=
  if a + bs.length ≤ nhBase ∨ trieBase + 0x6000000 ≤ a then s.setBytes a bs
  else
    let first := 8 - a % 8
    let n := (bs.length + 7 - first) / 8
    (List.range n).foldl (fun s k => s.storeMem (a + first + 8 * k) ((bs.drop (first + 8 * k)).take 8))
      (s.storeMem a (bs.take first))

/-! ### Tables -/

/-- A cuckoo table: where it lies, buckets, entry size, VALID bit, bytes of the key, seeds, longest chain. -/
structure CTab where
  base : Nat
  nb   : Nat
  esz  : Nat
  vbit : Nat
  klen : Nat
  s1   : Nat
  s2   : Nat
  maxPath : Nat
  deriving DecidableEq, Repr

/-- The flow table (`none`, R308) or the MAC table of a pipeline (R314). -/
def State.ctab (s : State) (t : Option Nat) : CTab :=
  match t with
  | none => ⟨s.rd R.FWD_FLOW_CFG_BASE 0 * 65536, 2 ^ s.rd R.FWD_FLOW_CFG_SIZE_LOG2 0, 64, 320, 41,
      s.rd R.FWD_FLOW_SEED_SEED_1 0, s.rd R.FWD_FLOW_SEED_SEED_2 0, s.rd R.FWD_FLOW_CFG_MAX_PATH 0⟩
  | some p => ⟨macBase p, 65536, 16, 64, 8, s.rd R.FWD_MAC_SEED_SEED_1 p, s.rd R.FWD_MAC_SEED_SEED_2 p,
      s.rd R.FWD_MAC_CFG_MAX_PATH p⟩

/-- The key of an entry: MAC and FD (R314), or KEY and FLOW_PROF (R311). -/
def CTab.key (t : CTab) (e : Nat) : Nat :=
  if t.klen = 8 then e % 2 ^ 64 else e % 2 ^ 320 + bitsAt e 328 8 * 2 ^ 320

/-- The two buckets of a key (R302). -/
def CTab.buckets (t : CTab) (key : Nat) : Nat × Nat :=
  let bs := leBytes t.klen key
  (crcSeed t.s1 bs % t.nb, crcSeed t.s2 bs % t.nb)

/-- The candidate slots of a key in the order of R304. -/
def CTab.cands (t : CTab) (key : Nat) : List Nat :=
  let b := t.buckets key
  let ways := fun x => (List.range 4).map fun w => 4 * x + w
  if b.1 = b.2 then ways b.1 else ways b.1 ++ ways b.2

/-- The address of a slot. -/
def CTab.addr (t : CTab) (i : Nat) : Nat := t.base + t.esz * i

/-- The entry in a slot. -/
def State.cEnt (s : State) (t : CTab) (i : Nat) : Nat := s.mval (t.addr i) t.esz

/-- A slot reads poisoned. -/
def State.cBad (s : State) (t : CTab) (i : Nat) : Bool := s.badRange (t.addr i) t.esz

/-- A slot holds a readable valid entry. -/
def State.cValid (s : State) (t : CTab) (i : Nat) : Bool := !s.cBad t i && bitAt (s.cEnt t i) t.vbit

/-- The slot that matches a key (R302). -/
def State.cFind (s : State) (t : CTab) (key : Nat) : Option Nat :=
  (t.cands key).find? fun i => s.cValid t i && t.key (s.cEnt t i) == key

/-- The first poisoned slot of the buckets of a key (R307). -/
def State.cPoison (s : State) (t : CTab) (key : Nat) : Option Nat := (t.cands key).find? fun i => s.cBad t i

/-- The reads of the buckets of a key that meet poisoned words are counted (R206). -/
def State.cCount (s : State) (t : CTab) (key : Nat) : State :=
  (t.cands key).foldl (fun s i => s.countPoison (t.addr i) t.esz) s

/-- The counter of valid entries of a table. -/
def State.cEntries (s : State) (t : Option Nat) (up down : Nat) : State :=
  match t with
  | none => s.wr R.FWD_FLOW_STAT_ENTRIES 0 (s.rd R.FWD_FLOW_STAT_ENTRIES 0 + up - down)
  | some p => s.wr R.FWD_MAC_STAT_ENTRIES p (s.rd R.FWD_MAC_STAT_ENTRIES p + up - down)

/-- Write a whole entry (R306), which clears its poison (R205). -/
def State.cWrite (s : State) (tid : Option Nat) (i e : Nat) : State :=
  let t := s.ctab tid
  let old := b2n (bitAt (s.cEnt t i) t.vbit)
  (s.setVal (t.addr i) t.esz e).cEntries tid (b2n (bitAt e t.vbit)) old

/-- The learn engine of a pipeline. -/
def State.learnEng (s : State) (p : Nat) : LearnEng := KMap.getD s.fwd.learn p LearnEng.fresh

/-- Set the learn engine of a pipeline. -/
def State.setLearn (s : State) (p : Nat) (e : LearnEng) : State :=
  { s with fwd := { s.fwd with learn := KMap.setD s.fwd.learn p LearnEng.fresh e } }

/-- The hit bit of a slot (R315). -/
def State.setHit (s : State) (p i : Nat) (b : Bool) : State :=
  let e := s.learnEng p
  s.setLearn p { e with hits := KMap.setD e.hits i false b }

/-- Perform one write of a chain; a move counts in RELOCS and takes the hit bit with it (R305, R315). -/
def State.chainStep (s : State) (tid : Option Nat) (c : ChainStep) : State :=
  let s1 := s.cWrite tid c.slot (leVal c.data)
  match c.from_, tid with
  | none, _ => s1
  | some _, none => s1.bump R.FWD_FLOW_STAT_RELOCS 0
  | some f, some p =>
    let h := KMap.getD (s1.learnEng p).hits f false
    (((s1.bump R.FWD_MAC_STAT_RELOCS p).setHit p f false).setHit p c.slot h).count (16 + p) 0x08 1

/-! ### Insertion (R304, R307) -/

/-- The other bucket of the entry in slot `i`. -/
def State.otherBucket (s : State) (t : CTab) (i : Nat) : Nat :=
  let b := t.buckets (t.key (s.cEnt t i))
  if i / 4 = b.1 then b.2 else b.1

/-- What the scan of one other bucket finds: a slot to end the chain, or the paths to go on with; `n` slots examined so far. -/
structure Scan where
  free  : Option Nat
  paths : List (List Nat)
  seen  : List Nat
  n     : Nat
  deriving DecidableEq, Repr

/-- Examine one slot from a path (R304): at most 512 slots. -/
def State.scanSlot (s : State) (t : CTab) (path : List Nat) (a : Scan) (i : Nat) : Scan :=
  if a.free.isSome || a.seen.contains i || decide (512 ≤ a.n) then a
  else if !s.cValid t i then { a with free := some i, n := a.n + 1 }
  else
    { a with paths := if path.length < t.maxPath then a.paths ++ [i :: path] else a.paths,
             seen := i :: a.seen, n := a.n + 1 }

/-- Breadth-first search for a chain (R304): a queue of paths, each from its last slot back to a candidate slot. The answer is the
free slot and the path. -/
def State.bfs (s : State) (t : CTab) : Nat → List (List Nat) → List Nat → Nat → Option (Nat × List Nat)
  | 0, _, _, _ => none
  | _ + 1, [], _, _ => none
  | fuel + 1, path :: q, seen, n =>
    let i := path.headD 0
    let ob := s.otherBucket t i
    if ob = i / 4 then s.bfs t fuel q seen n
    else
      let a := ((List.range 4).map fun w => 4 * ob + w).foldl (s.scanSlot t path) ⟨none, [], seen, n⟩
      match a.free with
      | some f => some (f, path)
      | none => s.bfs t fuel (q ++ a.paths) a.seen a.n

/-- The writes of a chain in the order of R305: from its free end, each move to the slot that the move before left, then the new
entry. `path` runs from the last slot back to the candidate slot. -/
def chainSteps (s : State) (t : CTab) (new : Nat) : Nat → List Nat → List ChainStep
  | to_, [] => [⟨to_, leBytes t.esz new, none⟩]
  | to_, i :: r => ⟨to_, leBytes t.esz (s.cEnt t i), some i⟩ :: chainSteps s t new i r

/-- The writes that insert an entry (R304, R307), or none when there is no room: a poisoned slot first, then a free slot, then a
chain. -/
def State.cInsert (s : State) (tid : Option Nat) (new : Nat) : List ChainStep :=
  let t := s.ctab tid
  let cs := t.cands (t.key new)
  match cs.find? (fun i => s.cBad t i), cs.find? (fun i => !s.cValid t i) with
  | some i, _ => [⟨i, leBytes t.esz new, none⟩]
  | none, some i => [⟨i, leBytes t.esz new, none⟩]
  | none, none =>
    match s.bfs t 520 (cs.map fun i => [i]) cs cs.length with
    | some (f, path) => chainSteps s t new f path
    | none => []

end Sys2Proof.Machine
end

