-- ==== Sys2Proof/Machine/Forwarding.lean ====
section
/-!
DEFINITION. The commands of 06_forwarding_learning.md: the forwarding decision, the LPM trie, flow batches, address learning,
ageing and the MAC table commands.
-/

namespace Sys2Proof.Machine

/-! ### The LPM trie (R293 to R295) -/

/-- What a trie lookup ends in. -/
inductive LpmRes where
  | hit (nh plen : Nat)
  | miss
  /-- A NODE beyond the last stage or outside the pool: a miss counted in NH_BAD. -/
  | badNode
  | noRoot
  /-- The word at this address read poisoned. -/
  | ue (a : Nat)
  deriving DecidableEq, Repr

/-- The stages of R295 from the entry at address `e`; `rem` stages of 8 bits are left. -/
def lpmFrom (s : State) (addr : Nat) : Nat → Nat → LpmRes
  | rem, e =>
    if s.bad e then .ue e
    else
      let v := s.mval e 4
      match bitsAt v 0 2 with
      | 1 => .hit (bitsAt v 10 18) (bitsAt v 2 8)
      | 2 =>
        match rem with
        | 0 => .badNode
        | r + 1 =>
          let blk := bitsAt v 10 17
          if 94207 < blk then .badNode
          else lpmFrom s addr r (trieBase + blk * 1024 + 4 * bitsAt addr (8 * r) 8)
      | _ => .miss

/-- The lookup of R295 of an address of `w` bits, 32 or 128. -/
def lpm (s : State) (vrf addr w : Nat) : LpmRes :=
  let on := if w = 32 then s.flag R.FWD_VRF_V4_EN vrf else s.flag R.FWD_VRF_V6_EN vrf
  let root := if w = 32 then s.rd R.FWD_VRF_V4_ROOT vrf else s.rd R.FWD_VRF_V6_ROOT vrf
  if 4095 < vrf ∨ on = false then .noRoot
  else lpmFrom s addr ((w - 16) / 8) (trieBase + root * 1024 + 4 * bitsAt addr (w - 16) 16)

/-! ### Outcomes (R286) -/

/-- The outcome of a forwarding decision. -/
inductive FwdOut where
  | send | drop | nhBad
  | except (reason : Nat)
  | exceptTo (q reason : Nat)
  | ue
  deriving DecidableEq, Repr

/-- The index of FWD_PSEL of a frame. -/
def pselIx (f : Pkt) : Nat := 64 * f.pipe + f.prof % 64

/-- The MISS action of FWD_PSEL. -/
def State.pselMiss (s : State) (f : Pkt) (reason : Nat) : FwdOut :=
  if s.rd R.FWD_PSEL_MISS (pselIx f) = 0 then .except reason else .drop

/-- A key field of width `w` named by a bit offset and a PRESENT bit, or `none` when it is absent (R284, R285). -/
def keyField (key b pi w : Nat) : Option Nat :=
  if bitAt key (16 + pi) = true ∧ b % 8 = 0 ∧ 48 ≤ b ∧ b + w ≤ 640 then some (bitsAt key b w) else none

/-- A KIND and DEST become the frame's destination (R287, R290). -/
def destOf (f : Pkt) (kind dest : Nat) : Pkt × FwdOut :=
  match kind with
  | 1 => if dest ≤ 15 then ({ f with dest := some (.eth dest) }, .send) else (f, .nhBad)
  | 2 => if dest < 65536 then ({ f with dest := some (.hostq dest) }, .send) else (f, .nhBad)
  | 3 => if dest < 4096 then ({ f with dest := some (.fabric dest) }, .send) else (f, .nhBad)
  | _ => (f, .nhBad)

/-- A next-hop entry that is no ECMP entry acts on a frame (R290). -/
def nhAct (f : Pkt) (e : Nat) : Pkt × FwdOut :=
  let kind := bitsAt e 0 4
  let dest := bitsAt e 4 20
  let g := { f with rewrite := if bitAt e 80 then some (bitsAt e 32 48) else none, egress := bitsAt e 96 16 }
  match kind with
  | 0 => (f, .drop)
  | 5 => (f, .exceptTo (dest % 16) 0x14)
  | 1 | 2 | 3 => destOf g kind dest
  | _ => (f, .nhBad)

/-- The next hop of a lookup (R290 to R292). -/
def nextHop (s : State) (f : Pkt) (n : Nat) : Pkt × FwdOut × State :=
  let a := nhBase + 16 * n
  if s.badRange a 16 then (f, .ue, s.countPoison a 16)
  else
    let e := s.mval a 16
    if bitsAt e 0 4 = 4 then
      let m := bitsAt e 4 20 + bitsAt f.h 16 16 * (bitsAt e 24 6 + 1) / 65536
      let b := nhBase + 16 * m
      if 262143 < m then (f, .nhBad, s)
      else if s.badRange b 16 then (f, .ue, s.countPoison b 16)
      else
        let r := nhAct f (s.mval b 16)
        (r.1, r.2, s)
    else
      let r := nhAct f e
      (r.1, r.2, s)

/-- Forwarding by LPM4 or LPM6 (R282, R285, R286). -/
def byLpm (s : State) (f : Pkt) (w : Nat) : Pkt × FwdOut × State :=
  let i := pselIx f
  let s0 := s.count (16 + f.pipe) 0x03 1
  let miss := fun (s : State) => (f, s.pselMiss f 0x12, s.count (16 + f.pipe) 0x04 1)
  match keyField f.key (s.rd R.FWD_PSEL_IP_BIT i) (s.rd R.FWD_PSEL_IP_PI i) w with
  | none => (f, s.pselMiss f 0x12, s)
  | some a =>
    match lpm s0 (bitsAt f.act 8 16) a w with
    | .hit nh _ => nextHop s0 f nh
    | .miss => miss s0
    | .badNode => miss (s0.sat R.FWD_CNT_NH_BAD 0 1)
    | .noRoot => miss s0
    | .ue e => (f, .ue, s0.countPoison e 4)

/-- The queue of a learn engine takes an item (R318): a learn record needs a place beside the one kept for a command. -/
def State.learnQueue (s : State) (p : Nat) (it : LearnItem) : State :=
  let e := s.learnEng p
  s.setLearn p { e with queue := e.queue ++ [it] }

/-- The source lookup of a frame (R316, R317, R318). -/
def State.learnSource (s : State) (f : Pkt) : State :=
  let i := pselIx f
  let p := f.pipe
  match keyField f.key (s.rd R.FWD_PSEL_SA_BIT i) (s.rd R.FWD_PSEL_SA_PI i) 48 with
  | none => s
  | some sa =>
    if !s.flag R.FWD_PSEL_LEARN i || bitAt sa 40 || sa == 0 || f.locKind == 0 then s
    else
      let t := s.ctab (some p)
      let key := sa + bitsAt f.act 8 16 * 2 ^ 48
      let s1 := s.cCount t key
      let queue := fun (s : State) =>
        if 1023 ≤ (s.learnEng p).queue.length then s.sat R.FWD_MAC_CNT_LEARN_DROP p 1
        else s.learnQueue p (.learn key f.locKind f.locDest)
      match s1.cFind t key with
      | none => queue s1
      | some j =>
        let e := s1.cEnt t j
        if bitsAt e 76 4 = f.locKind ∧ bitsAt e 80 20 = f.locDest then s1.setHit p j true
        else if bitAt e 65 || bitAt e 67 then s1
        else queue s1

/-- Forwarding by the MAC table (R285 to R287, R307). -/
def byMac (s0 : State) (f : Pkt) : Pkt × FwdOut × State :=
  let s := s0.learnSource f
  let i := pselIx f
  let p := f.pipe
  match keyField f.key (s.rd R.FWD_PSEL_DA_BIT i) (s.rd R.FWD_PSEL_DA_PI i) 48 with
  | none => (f, s.pselMiss f 0x10, s)
  | some da =>
    let t := s.ctab (some p)
    let key := da + bitsAt f.act 8 16 * 2 ^ 48
    let s1 := (s.cCount t key).count (16 + p) 0x01 1
    match s1.cFind t key with
    | some j =>
      let s2 := if (s1.cPoison t key).isSome then s1.sat R.FWD_CNT_UE 0 1 else s1
      let e := s1.cEnt t j
      let kind := bitsAt e 76 4
      let dest := bitsAt e 80 20
      if kind = 1 ∧ f.src < 16 ∧ dest = f.src then (f, .nhBad, s2)
      else
        let r := destOf f kind dest
        (r.1, r.2, s2)
    | none =>
      if (s1.cPoison t key).isSome then (f, .ue, s1)
      else (f, s1.pselMiss f (if bitAt da 40 then 0x11 else 0x10), s1.count (16 + p) 0x02 1)

/-- A field of the action set is replaced by a flow entry's when its V bit is set (R311). -/
def overAct (a : Nat) (v : Bool) (lo w x : Nat) : Nat := if v then putBits a lo w x else a

/-- The key of a flow lookup: flow key and FLOW_PROF (R310). -/
def flowTabKey (key : Bytes) (prof : Nat) : Nat := leVal key + prof * 2 ^ 320

/-- Forwarding by the flow table (R308 to R311). -/
def byFlow (s : State) (f : Pkt) : Pkt × FwdOut × State :=
  let n := bitsAt f.act 24 8
  let t := s.ctab none
  let on := s.flag R.FWD_FLOW_CFG_EN 0
  let key := flowTabKey (s.flowKey f.key n) n
  let s1 := (if on then s.cCount t key else s).count (16 + f.pipe) 0x05 1
  match (if on then s1.cFind t key else none) with
  | some j =>
    let e := s1.cEnt t j
    let w := bitsAt e 384 64
    let a1 := overAct f.act (bitAt w 37) 32 18 (bitsAt w 19 18)
    let a2 := overAct a1 (bitAt w 54) 72 16 (bitsAt w 38 16)
    let a3 := overAct a2 (bitAt w 58) 51 3 (bitsAt w 55 3)
    let s2 := if (s1.cPoison t key).isSome then s1.sat R.FWD_CNT_UE 0 1 else s1
    if bitAt w 18 then nextHop s2 { f with act := a3 } (bitsAt w 0 18) else (f, .drop, s2)
  | none =>
    if on && (s1.cPoison t key).isSome then (f, .ue, s1)
    else
      let s2 := s1.count (16 + f.pipe) 0x06 1
      match s2.rd R.FWD_FPROF_MISS n with
      | 0 => (f, .except 0x13, s2)
      | 1 => (f, .drop, s2)
      | 2 => byLpm s2 f 32
      | _ => byLpm s2 f 128

/-- The lookup that FWD selects (R282); a frame that names none has no destination (log entry 23). -/
def forward (s : State) (f : Pkt) : Pkt × FwdOut × State :=
  match actFwd f.act with
  | 1 => byMac s f
  | 2 => byLpm s f 32
  | 3 => byLpm s f 128
  | 4 => byFlow s f
  | _ => (f, .nhBad, s)

/-- FORWARD_DECISION (R282, R286, R289, R316): the oldest frame whose action set says FORWARD gets its destination. -/
def doForwardDecision (p : Nat) (s : State) : State :=
  let x := s.prism p
  match x.acted with
  | [] => s
  | f0 :: r =>
    let s0 := s.setPrism p { x with acted := r }
    let f := { f0 with h := s0.flowHash f0 }
    let o := forward s0 f
    let g := o.1
    let s1 := o.2.2
    match o.2.1 with
    | .send => { s1 with tm := { s1.tm with inq := KMap.setD s1.tm.inq p [] (KMap.getD s1.tm.inq p [] ++ [g]) } }
    | .drop => s1.freeFrame g
    | .nhBad => (s1.sat R.FWD_CNT_NH_BAD 0 1).freeFrame g
    | .except c => s1.except g c
    | .exceptTo q c => s1.exceptTo g q c
    | .ue => (s1.sat R.FWD_CNT_UE 0 1).except g 0x15

/-! ### The LPM drain (R300) -/

/-- GO of FWD_LPM_DRAIN. -/
def State.drainGo (s : State) : State :=
  { s.wr R.FWD_LPM_DRAIN_DONE 0 0 with fwd := { s.fwd with drain := true } }

/-- LPM_DRAIN_GO (R300). -/
def doLpmDrainGo (w : Writer) (s : State) : State := if s.mayWrite w (Reg.FWD_LPM_DRAIN.off 0) then s.drainGo else s

/-- LPM_DRAIN_DONE (R300): every lookup begun before GO has completed. -/
def doLpmDrainDone (s : State) : State :=
  if s.fwd.drain then
    ({ s with fwd := { s.fwd with drain := false } }.wr R.FWD_LPM_DRAIN_DONE 0 1).latchLine 29
  else s

/-! ### The flow table (R308 to R313) -/

/-- A write of FWD_FLOW_CFG (R309): while EN is 1 it changes only EN; setting EN is refused when the table lies outside HBM or is
not aligned to its size. -/
def State.wrFlowCfg (s : State) (val : Nat) : State :=
  if s.flag R.FWD_FLOW_CFG_EN 0 then s.wr R.FWD_FLOW_CFG_EN 0 (bitsAt val 0 1)
  else
    let z := bitsAt val 2 5
    let m := bitsAt val 7 4
    let s1 := if 10 ≤ z ∧ z ≤ 22 then s.wr R.FWD_FLOW_CFG_SIZE_LOG2 0 z else s
    let s2 := if m = 0 then s1 else s1.wr R.FWD_FLOW_CFG_MAX_PATH 0 m
    let s3 := s2.wr R.FWD_FLOW_CFG_BASE 0 (bitsAt val 16 32)
    if bitAt val 0 then
      let base := bitsAt val 16 32 * 65536
      let size := 256 * 2 ^ s3.rd R.FWD_FLOW_CFG_SIZE_LOG2 0
      if base % size = 0 ∧ inHbm s.part base size = true then
        s3.wrs 0 [(R.FWD_FLOW_CFG_EN, 1), (R.FWD_FLOW_CFG_CFG_ERR, 0)]
      else s3.wr R.FWD_FLOW_CFG_CFG_ERR 0 1
    else s3

/-- FLOW_TABLE_ENABLE (R309): a write of FWD_FLOW_CFG that sets EN. -/
def doFlowTableEnable (w : Writer) (val : Nat) (s : State) : State :=
  if s.mayWrite w (Reg.FWD_FLOW_CFG.off 0) then s.wrFlowCfg (val ||| 1) else s

/-- Word `w` of flow operation `k` (R313). -/
def State.flowWord (s : State) (k w : Nat) : Nat := s.rd R.FWD_FLOW_OP_DATA (10 * k + w)

/-- The entry of flow operation `k`. -/
def State.flowEntry (s : State) (k : Nat) : Nat :=
  (List.range 8).foldl (fun v w => v + s.flowWord k (w + 2) * 2 ^ (64 * w)) 0

/-- Post the result of flow operation `k`; BUCKET and WAY of an operation that wrote and found no entry are free (log entry 3). -/
def State.flowResult (s : State) (k status moves : Nat) (slot : Option Nat) : State :=
  let d := s.draw
  let bw := match slot with
    | some i => (i, s)
    | none => (d.1, d.2)
  bw.2.wrs k [(R.FWD_FLOW_RES_STATUS, status), (R.FWD_FLOW_RES_MOVES, moves), (R.FWD_FLOW_RES_BUCKET, bw.1 / 4),
    (R.FWD_FLOW_RES_WAY, bw.1 % 4)]

/-- Begin flow operation `k` (R313, R304, R307): it completes, or leaves the rest of its chain. -/
def State.flowOne (s : State) (k : Nat) : State :=
  let c := s.flowWord k 0
  let op := c % 16
  let t := s.ctab none
  let e := s.flowEntry k
  let key := t.key e
  if 16 ≤ c ∨ s.flowWord k 1 ≠ 0 ∨ 3 < op then s.flowResult k 4 0 none
  else if op = 0 then s.flowResult k 0 0 none
  else if inHbm s.part t.base (256 * t.nb) = false ∨ (op = 1 ∧ bitAt e 320 = false) then s.flowResult k 4 0 none
  else
    let s1 := s.cCount t key
    match op, s1.cFind t key with
    | 1, some i => s1.flowResult k 1 0 (some i)
    | 1, none =>
      match s1.cInsert none e with
      | [] => s1.flowResult k 3 0 none
      | st :: r =>
        let s2 := s1.chainStep none st
        let last := (r.getLast?.getD st).slot
        ({ s2 with fwd := { s2.fwd with flowChain := r } }).flowResult k 0 r.length (some last)
    | 2, some i => (s1.cWrite none i 0).flowResult k 0 0 (some i)
    | 2, none =>
      match s1.cPoison t key with
      | some i => (s1.cWrite none i 0).flowResult k 5 0 (some i)
      | none => s1.flowResult k 2 0 none
    | _, some i =>
      let old := s1.cEnt t i
      (s1.cWrite none i (old % 2 ^ 384 + bitsAt e 384 128 * 2 ^ 384)).flowResult k 0 0 (some i)
    | _, none => s1.flowResult k 2 0 none

/-- Run the flow engine until a chain stands or the batch has ended (R313). -/
def State.flowRun : Nat → State → State
  | 0, s => s
  | fuel + 1, s =>
    match s.fwd.flowOp with
    | some (k, n) =>
      if k < n ∧ s.fwd.flowChain = [] then
        State.flowRun fuel (({ s with fwd := { s.fwd with flowOp := some (k + 1, n) } }).flowOne k)
      else s
    | none => s

/-- GO of FWD_FLOW_CTL (R313). -/
def State.wrFlowCtl (s : State) (val : Nat) : State :=
  let s1 := if bitsAt val 0 7 ≤ 64 then s.wr R.FWD_FLOW_CTL_COUNT 0 (bitsAt val 0 7) else s
  if bitAt val 7 then
    if s1.flag R.FWD_FLOW_CTL_BUSY 0 then s1.wr R.FWD_FLOW_CTL_REFUSED 0 1
    else
      let s2 := s1.wrs 0 [(R.FWD_FLOW_CTL_BUSY, 1), (R.FWD_FLOW_CTL_REFUSED, 0)]
      State.flowRun 65 { s2 with fwd := { s2.fwd with flowOp := some (0, s2.rd R.FWD_FLOW_CTL_COUNT 0) } }
  else s1

/-- FLOW_BATCH_GO (R313). -/
def doFlowBatchGo (w : Writer) (val : Nat) (s : State) : State :=
  if s.mayWrite w (Reg.FWD_FLOW_CTL.off 0) then s.wrFlowCtl (val ||| 2 ^ 7) else s

/-- FLOW_BATCH_DONE (R313): every operation has been applied; BUSY clears. -/
def doFlowBatchDone (s : State) : State :=
  match s.fwd.flowOp with
  | some (k, n) =>
    if n ≤ k ∧ s.fwd.flowChain = [] then
      (({ s with fwd := { s.fwd with flowOp := none } }).wr R.FWD_FLOW_CTL_BUSY 0 0).latchLine 28
    else s
  | none => s

/-! ### The learn engine (R318 to R326) -/

/-- Commit a notification, or count it lost (R326). -/
def State.notify (s : State) (p : Nat) (w0 w1 : Nat) : State :=
  if s.flag R.FWD_MAC_CFG_NOTIFY_EN p then
    let c := s.rd R.FWD_MAC_CFG_NOTIFY_CHAN p
    if s.chanRoom c then s.hwCommit c [w0, w1] else s.sat R.FWD_MAC_CNT_NOTIFY_LOST p 1
  else s

/-- Word 1 of a notification (R326). -/
def noteWord (ty kind dest kind0 dest0 : Nat) : Nat :=
  ty + kind * 2 ^ 4 + dest * 2 ^ 8 + kind0 * 2 ^ 28 + dest0 * 2 ^ 32

/-- The timebase in 8 µs units, modulo 2^21 (R314). -/
def State.now8 (s : State) : Nat := s.time / 8000 % 2 ^ 21

/-- Put the rest of a chain with the learn engine. -/
def State.startChain (s : State) (p : Nat) (st : ChainStep) (r : List ChainStep) (cmd : Bool) : State :=
  let s1 := s.chainStep (some p) st
  let e := s1.learnEng p
  s1.setLearn p { e with chain := r, cmdBusy := cmd && !r.isEmpty }

/-- Apply a learn record (R319, R320). -/
def State.applyLearn (s0 : State) (p key kind dest : Nat) : State :=
  let t := s0.ctab (some p)
  let s := (s0.cCount t key).count (16 + p) 0x07 1
  match s.cFind t key with
  | none =>
    let new := key + 2 ^ 64 + kind * 2 ^ 76 + dest * 2 ^ 80 + s.now8 * 2 ^ 100
    match s.cInsert (some p) new with
    | [] => (s.sat R.FWD_MAC_CNT_NO_ROOM p 1).notify p key (noteWord 4 kind dest 0 0)
    | st :: r => (s.startChain p st r false).notify p key (noteWord 0 kind dest 0 0)
  | some i =>
    let e := s.cEnt t i
    let k0 := bitsAt e 76 4
    let d0 := bitsAt e 80 20
    if k0 = kind ∧ d0 = dest then s.setHit p i true
    else if bitAt e 65 || bitAt e 67 then s
    else if (s.now8 + 2 ^ 21 - bitsAt e 100 21) % 2 ^ 21 < s.rd R.FWD_MAC_CFG_FLAP_WIN p then
      (((s.cWrite (some p) i (orBit e 67)).sat R.FWD_MAC_CNT_FLAPS p 1).count (16 + p) 0x09 1).notify p key
        (noteWord 2 kind dest k0 d0)
    else
      let e1 := putBits (putBits (putBits (putBits (putBits e 76 4 kind) 80 20 dest) 100 21 s.now8) 66 1 0) 68 8 0
      (s.cWrite (some p) i e1).notify p key (noteWord 1 kind dest k0 d0)

/-- LEARN_APPLY (R318, R319): the oldest item of the learn queue, a learn record, is applied. -/
def doLearnApply (p : Nat) (s : State) : State :=
  let e := s.learnEng p
  if e.chain = [] then
    match e.queue with
    | .learn key kind dest :: r => (s.setLearn p { e with queue := r }).applyLearn p key kind dest
    | _ => s
  else s

/-- The command at the front of the learn queue has ended (R324): BUSY clears. -/
def State.macDone (s : State) (p status : Nat) : State :=
  (s.wrs p [(R.FWD_MAC_CMD_STATUS, status), (R.FWD_MAC_CMD_BUSY, 0)]).latchLine (24 + p)

/-- CUCKOO_RELOCATE (R305): the lookups in flight have completed, and the next write of the chain is performed. -/
def doCuckooRelocate (table : Option Nat) (s : State) : State :=
  match table with
  | none =>
    match s.fwd.flowChain with
    | [] => s
    | st :: r => State.flowRun 65 ({ s with fwd := { s.fwd with flowChain := r } }.chainStep none st)
  | some p =>
    let e := s.learnEng p
    match e.chain with
    | [] => s
    | st :: r =>
      let s1 := (s.setLearn p { e with chain := r, cmdBusy := e.cmdBusy && !r.isEmpty }).chainStep (some p) st
      if e.cmdBusy && r.isEmpty then s1.macDone p 0 else s1

/-- The slots of a MAC table with a byte listed, rising. -/
def State.macSlots (s : State) (p : Nat) : List Nat :=
  (s.mem.filter fun c => decide (macBase p ≤ c.1 ∧ c.1 < macBase p + 0x400000)).foldl
    (fun l c => let i := (c.1 - macBase p) / 16; if l.head? = some i then l else i :: l) [] |>.reverse

/-- One slot of a sweep (R322, R323). -/
def State.sweepSlot (s : State) (p i : Nat) : State :=
  let t := s.ctab (some p)
  if !s.cValid t i then s
  else
    let e := s.cEnt t i
    let e1 := if 2 ^ 20 < (s.now8 + 2 ^ 21 - bitsAt e 100 21) % 2 ^ 21 then
        putBits e 100 21 ((s.now8 + 2 ^ 20) % 2 ^ 21) else e
    if bitAt e 65 || bitAt e 66 then s.cWrite (some p) i e1
    else
      let idle := if KMap.getD (s.learnEng p).hits i false then 0 else Nat.min 255 (bitsAt e 68 8 + 1)
      let s1 := s.setHit p i false
      let age := s.rd R.FWD_MAC_CFG_AGE_SWEEPS p
      if age ≠ 0 ∧ age ≤ idle then
        let k := bitsAt e 76 4
        let d := bitsAt e 80 20
        (s1.cWrite (some p) i 0).notify p (e % 2 ^ 64) (noteWord 3 k d k d)
      else s1.cWrite (some p) i (putBits e1 68 8 idle)

/-- MAC_AGE_SWEEP (R322, R323): SWEEP_S after the last sweep, between records. Hit bits with a parity error read as set and are
reported as corrected (R315). -/
def doMacAgeSweep (p : Nat) (parity : List Nat) (s : State) : State :=
  let e := s.learnEng p
  if p < 4 ∧ e.sweepAt + 1000000000 * s.rd R.FWD_MAC_CFG_SWEEP_S p ≤ s.time ∧ e.chain = [] then
    let s1 := s.setLearn p { e with sweepAt := s.time }
    let s2 := parity.foldl (fun s i => (s.setHit p i true).report (unitId 8 p) .parity i) s1
    (s2.macSlots p).foldl (fun s i => s.sweepSlot p i) s2
  else s

/-- RECON_TICK (R326): every RECON_MS a message with the timebase. -/
def doReconTick (p : Nat) (s : State) : State :=
  let e := s.learnEng p
  if p < 4 ∧ e.reconAt + 1000000 * s.rd R.FWD_MAC_CFG_RECON_MS p ≤ s.time then
    (s.setLearn p { e with reconAt := s.time }).notify p s.time 6
  else s

/-! ### MAC table commands (R324) -/

/-- GO of FWD_MAC_CMD: the command joins the learn queue. -/
def State.wrMacCmd (s : State) (p val : Nat) : State :=
  if bitAt val 3 then
    if s.flag R.FWD_MAC_CMD_BUSY p then (s.wr R.FWD_MAC_CMD_OP p (bitsAt val 0 3)).wr R.FWD_MAC_CMD_REFUSED p 1
    else
      let s1 := s.wrs p [(R.FWD_MAC_CMD_OP, bitsAt val 0 3), (R.FWD_MAC_CMD_BUSY, 1), (R.FWD_MAC_CMD_REFUSED, 0)]
      s1.learnQueue p (.cmd (bitsAt val 0 3) (s1.rd R.FWD_MAC_CMD_DATA_DATA p))
  else s.wr R.FWD_MAC_CMD_OP p (bitsAt val 0 3)

/-- MAC_CMD_GO (R324). -/
def doMacCmdGo (w : Writer) (p val : Nat) (s : State) : State :=
  if p < 4 ∧ s.mayWrite w (Reg.FWD_MAC_CMD.off p) = true then s.wrMacCmd p (val ||| 2 ^ 3) else s

/-- The command at the front of the learn queue runs when the engine is free and its OP is `op`, or reserved with `op` 0. -/
def State.macRun (s : State) (p op : Nat) (k : State → Nat → State) : State :=
  let e := s.learnEng p
  if e.chain = [] then
    match e.queue with
    | .cmd o d :: r =>
      if o = op then k (s.setLearn p { e with queue := r }) d
      else if op = 0 ∧ 5 < o then (s.setLearn p { e with queue := r }).macDone p 3
      else s
    | _ => s
  else s

/-- MAC_NOP (R324): a queued NOP does nothing; a queued reserved OP ends with BAD_OP. -/
def doMacNop (p : Nat) (s : State) : State := s.macRun p 0 fun s _ => s.macDone p 0

/-- MAC_INSERT (R324): creates or overwrites the entry. A KIND that R314 does not let be written ends with BAD_OP (log entry 24).
-/
def doMacInsert (p : Nat) (s : State) : State :=
  s.macRun p 1 fun s d =>
    let t := s.ctab (some p)
    let k := bitsAt d 76 4
    let new := d % 2 ^ 64 + 2 ^ 64 + bitsAt d 65 2 * 2 ^ 65 + k * 2 ^ 76 + bitsAt d 80 20 * 2 ^ 80 + s.now8 * 2 ^ 100
    if k = 0 ∨ 3 < k then s.macDone p 3
    else
      let s1 := s.cCount t (d % 2 ^ 64)
      match s1.cFind t (d % 2 ^ 64) with
      | some i => ((s1.cWrite (some p) i new).setHit p i false).macDone p 0
      | none =>
        match s1.cInsert (some p) new with
        | [] => s1.macDone p 2
        | st :: r =>
          let s2 := s1.startChain p st r true
          if r.isEmpty then s2.macDone p 0 else s2

/-- MAC_DELETE (R324, R307). -/
def doMacDelete (p : Nat) (s : State) : State :=
  s.macRun p 2 fun s d =>
    let t := s.ctab (some p)
    let s1 := s.cCount t (d % 2 ^ 64)
    match s1.cFind t (d % 2 ^ 64), s1.cPoison t (d % 2 ^ 64) with
    | some i, _ => ((s1.cWrite (some p) i 0).setHit p i false).macDone p 0
    | none, some i => ((s1.cWrite (some p) i 0).setHit p i false).macDone p 1
    | none, none => s1.macDone p 1

/-- CLEAR_FLAP (R324). -/
def doClearFlap (p : Nat) (s : State) : State :=
  s.macRun p 3 fun s d =>
    let t := s.ctab (some p)
    let s1 := s.cCount t (d % 2 ^ 64)
    match s1.cFind t (d % 2 ^ 64) with
    | some i => (s1.cWrite (some p) i (putBits (s1.cEnt t i) 67 1 0)).macDone p 0
    | none => s1.macDone p 1

/-- Remove every non-static entry that satisfies `q`; REMOVED counts them (R324). -/
def State.flush (s : State) (p : Nat) (q : Nat → Bool) : State :=
  let t := s.ctab (some p)
  let l := (s.macSlots p).filter fun i => s.cValid t i && !bitAt (s.cEnt t i) 65 && q (s.cEnt t i)
  let s1 := l.foldl (fun s i => (s.cWrite (some p) i 0).setHit p i false) s
  (s1.wr R.FWD_MAC_CMD_REMOVED p l.length).macDone p 0

/-- FLUSH_DEST (R324). -/
def doFlushDest (p : Nat) (s : State) : State :=
  s.macRun p 4 fun s d => s.flush p fun e => !bitAt e 66 && bitsAt e 76 24 == bitsAt d 76 24

/-- FLUSH_FD (R324). -/
def doFlushFd (p : Nat) (s : State) : State :=
  s.macRun p 5 fun s d => s.flush p fun e => bitsAt e 48 16 == bitsAt d 48 16

/-! ### The meanings of the rows -/

/-- FORWARD_DECISION (R286). -/
def execForwardDecision (p : Nat) (s : State) : Host.Outcome State Fault Refusal :=
  .next (s.after (doForwardDecision p s))

/-- LPM_DRAIN_GO (R300). -/
def execLpmDrainGo (w : Writer) (s : State) : Host.Outcome State Fault Refusal :=
  .next (s.after (doLpmDrainGo w s))

/-- LPM_DRAIN_DONE (R300). -/
def execLpmDrainDone (s : State) : Host.Outcome State Fault Refusal :=
  .next (s.after (doLpmDrainDone s))

/-- FLOW_TABLE_ENABLE (R309). -/
def execFlowTableEnable (w : Writer) (val : Nat) (s : State) : Host.Outcome State Fault Refusal :=
  .next (s.after (doFlowTableEnable w val s))

/-- FLOW_BATCH_GO (R313). -/
def execFlowBatchGo (w : Writer) (val : Nat) (s : State) : Host.Outcome State Fault Refusal :=
  .next (s.after (doFlowBatchGo w val s))

/-- CUCKOO_RELOCATE (R305). -/
def execCuckooRelocate (table : Option Nat) (s : State) : Host.Outcome State Fault Refusal :=
  .next (s.after (doCuckooRelocate table s))

/-- FLOW_BATCH_DONE (R313). -/
def execFlowBatchDone (s : State) : Host.Outcome State Fault Refusal :=
  .next (s.after (doFlowBatchDone s))

/-- LEARN_APPLY (R319). -/
def execLearnApply (p : Nat) (s : State) : Host.Outcome State Fault Refusal :=
  .next (s.after (doLearnApply p s))

/-- MAC_AGE_SWEEP (R322). -/
def execMacAgeSweep (p : Nat) (parity : List Nat) (s : State) : Host.Outcome State Fault Refusal :=
  .next (s.after (doMacAgeSweep p parity s))

/-- RECON_TICK (R326). -/
def execReconTick (p : Nat) (s : State) : Host.Outcome State Fault Refusal :=
  .next (s.after (doReconTick p s))

/-- MAC_CMD_GO (R324). -/
def execMacCmdGo (w : Writer) (p : Nat) (val : Nat) (s : State) : Host.Outcome State Fault Refusal :=
  .next (s.after (doMacCmdGo w p val s))

/-- MAC_NOP (R324). -/
def execMacNop (p : Nat) (s : State) : Host.Outcome State Fault Refusal :=
  .next (s.after (doMacNop p s))

/-- MAC_INSERT (R324). -/
def execMacInsert (p : Nat) (s : State) : Host.Outcome State Fault Refusal :=
  .next (s.after (doMacInsert p s))

/-- MAC_DELETE (R324). -/
def execMacDelete (p : Nat) (s : State) : Host.Outcome State Fault Refusal :=
  .next (s.after (doMacDelete p s))

/-- CLEAR_FLAP (R324). -/
def execClearFlap (p : Nat) (s : State) : Host.Outcome State Fault Refusal :=
  .next (s.after (doClearFlap p s))

/-- FLUSH_DEST (R324). -/
def execFlushDest (p : Nat) (s : State) : Host.Outcome State Fault Refusal :=
  .next (s.after (doFlushDest p s))

/-- FLUSH_FD (R324). -/
def execFlushFd (p : Nat) (s : State) : Host.Outcome State Fault Refusal :=
  .next (s.after (doFlushFd p s))

end Sys2Proof.Machine
end

