-- ==== Sys2Proof/Machine/Prism.lean ====
section
/-!
DEFINITION. The commands of 05_prism_parse_classify.md: the input queue, the parse walk and the key, the associative memory and its
shadow, batches of rule changes, placement and readback.
-/

namespace Sys2Proof.Machine

/-! ### The input queue (R275, R276) -/

/-- Remove element `k` of a list. -/
def dropNth {α : Type} : List α → Nat → List α
  | [], _ => []
  | _ :: r, 0 => r
  | a :: r, k + 1 => a :: dropNth r k

/-- PRISM_INPUT_ENQUEUE (R275, R276): frame `k` at the input, the oldest of its source, joins the queue. During a hold only Ethernet
frames join it; a full queue drops an Ethernet frame and holds back any other. -/
def doPrismInputEnqueue (p k : Nat) (s : State) : State :=
  let l := s.arrivals p
  match l[k]? with
  | some f =>
    let x := s.prism p
    let eth := decide (f.src < 16) && f.forced.isNone
    if (l.take k).any fun g => g.src == f.src && g.forced.isNone == f.forced.isNone then s
    else if eth && decide (4096 ≤ x.inq.length) then
      (((s.setArrivals p (dropNth l k)).sat R.PSM_HOLD_STAT_DROPS p 1).count (12 + p) 0x08 1).freeFrame f
    else if !eth && (x.hold || decide (4096 ≤ x.inq.length)) then s
    else
      let s1 := (s.setArrivals p (dropNth l k)).setPrism p { x with inq := x.inq ++ [{ f with reparse := false }] }
      let s2 := s1.wr R.PSM_HOLD_STAT_MAX_FILL p (Nat.max (s1.rd R.PSM_HOLD_STAT_MAX_FILL p) (x.inq.length + 1))
      if f.reparse then { s2 with tm := { s2.tm with cmd := some (.done 0) } } else s2
  | none => s

/-! ### The parse walk (R240 to R247) -/

/-- The unsigned number in wire bits `[8 * S + B, + W)` of a frame, first bit most significant (R8, R241). Bytes beyond the frame
are not part of any header and read 0. -/
def wireField (data : Bytes) (S B W : Nat) : Nat :=
  let a := 8 * S + B
  let lo := a / 8
  let n := (a + W + 7) / 8 - lo
  bitsAt (beVal (sliceB data lo n)) (8 * n - a % 8 - W) W

/-- A field width, 0 meaning 16. -/
def width16 (w : Nat) : Nat := if w = 0 then 16 else w

/-- Set bits of a number of 16 bits. -/
def popc16 (x : Nat) : Nat := ((List.range 16).filter fun i => bitAt x i).length

/-- The length of the header of node `i` (pipeline and node) at byte `S` (R241). -/
def nodeLen (x : Prism) (i : Nat) (data : Bytes) (S : Nat) : Nat :=
  let mode := x.val R.PRS_NODE_LEN_LEN_MODE i
  if mode = 0 then x.val R.PRS_NODE_LEN_MIN_LEN i
  else
    let f := wireField data S (x.val R.PRS_NODE_LEN_LEN_BIT i) (width16 (x.val R.PRS_NODE_LEN_LEN_W i))
    let f := if mode = 2 then popc16 f else f
    x.val R.PRS_NODE_LEN_LEN_ADD i + f * 2 ^ x.val R.PRS_NODE_LEN_LEN_SH i

/-- The end that a node claims (R241). -/
def nodeClaim (x : Prism) (i : Nat) (data : Bytes) (S : Nat) : Nat :=
  let f := wireField data S (x.val R.PRS_NODE_NXT_CLM_BIT i) (width16 (x.val R.PRS_NODE_NXT_CLM_W i))
  S + x.val R.PRS_NODE_NXT_CLM_ADD i + f * 2 ^ x.val R.PRS_NODE_NXT_CLM_SH i

/-- The transition taken from a node with a field value: the lowest index that matches (R242). Transitions with V = 1 are listed in
the configuration, so only listed ones are looked at. -/
def transition (x : Prism) (p n f : Nat) : Option Nat :=
  let k0 := R.PRS_TRANS_V.key (1024 * p)
  let on := x.cfg.filter fun e => decide (k0 ≤ e.1 ∧ e.1 < k0 + 1024 ∧ e.2 = 1)
  let hit := (on.map fun e => e.1 - k0 + 1024 * p).find? fun i =>
    let m := x.val R.PRS_TRANS_MASK i
    x.val R.PRS_TRANS_FROM i == n && f &&& m == x.val R.PRS_TRANS_VALUE i &&& m
  hit.map fun i => x.val R.PRS_TRANS_NEXT i

/-- What a walk leaves: the header records, PARSE_TRUNC, LEN_CONFLICT, and the limits `win` and `lim`. -/
structure WalkEnd where
  hdrs  : List (Nat × Nat)
  trunc : Bool
  lenc  : Bool
  win   : Nat
  lim   : Nat
  deriving DecidableEq, Repr

/-- The walk of R243 from node `n` at byte `S`; `fuel` bounds the headers (DEPTH is at most 24). -/
def parseFrom (x : Prism) (p depth : Nat) (data : Bytes) (win : Nat) :
    Nat → Nat → Nat → Nat → List (Nat × Nat) → WalkEnd
  | 0, _, _, lim, hs => ⟨hs, true, false, win, lim⟩
  | fuel + 1, n, S, lim, hs =>
    let i := 128 * p + n
    let m := x.val R.PRS_NODE_LEN_MIN_LEN i
    let L := nodeLen x i data S
    if !x.on R.PRS_NODE_LEN_V i || m == 0 then ⟨hs, false, false, win, lim⟩
    else if hs.length = depth then ⟨hs, true, false, win, lim⟩
    else if lim < S + m then ⟨hs, false, true, win, lim⟩
    else if win < S + m then ⟨hs, true, false, win, lim⟩
    else if L < m ∨ lim < S + L then ⟨hs, false, true, win, lim⟩
    else if win < S + L then ⟨hs, true, false, win, lim⟩
    else
      let hs1 := hs ++ [(n, S)]
      let ce := nodeClaim x i data S
      let clm := x.on R.PRS_NODE_NXT_CLM_EN i
      if clm && decide (ce < S + L ∨ lim < ce) then ⟨hs1, false, true, win, lim⟩
      else
        let lim1 := if clm then ce else lim
        if !x.on R.PRS_NODE_NXT_NXT_EN i then ⟨hs1, false, false, win, lim1⟩
        else
          let f := wireField data S (x.val R.PRS_NODE_NXT_NXT_BIT i) (width16 (x.val R.PRS_NODE_NXT_NXT_W i))
          match transition x p n f with
          | none => ⟨hs1, false, false, win, lim1⟩
          | some nx => parseFrom x p depth data win fuel nx (S + L) lim1 hs1

/-- The parse walk of R243 under profile `n` of pipeline `p`. -/
def parseWalk (x : Prism) (p n : Nat) (data : Bytes) : WalkEnd :=
  let i := 64 * p + n
  let win := Nat.min (64 * x.val R.PRS_PROF_WINDOW i) data.length
  parseFrom x p (x.val R.PRS_PROF_DEPTH i) data win 26 (x.val R.PRS_PROF_START i) 0 data.length []

/-! ### The key (R248 to R250) -/

/-- The byte offset of the header instance that an extract instruction names. -/
def instanceOf (hs : List (Nat × Nat)) (node occ : Nat) : Option Nat :=
  let l := (hs.filter fun h => h.1 == node).map fun h => h.2
  if occ = 3 then l.getLast? else l[occ]?

/-- Extract instruction `i` of profile `n` writes its field into the key (R249): the key and the PRESENT bits. -/
def extractOne (x : Prism) (p n : Nat) (data : Bytes) (w : WalkEnd) (kp : Nat × Nat) (i : Nat) : Nat × Nat :=
  let j := 16 * (64 * p + n) + i
  let wd := x.val R.PRS_KEYX_WIDTH j
  let db := x.val R.PRS_KEYX_DST_BIT j
  if !x.on R.PRS_KEYX_EN j || wd == 0 || decide (db < 48 ∨ 640 < db + wd) then kp
  else
    let sb := x.val R.PRS_KEYX_SRC_BIT j
    match instanceOf w.hdrs (x.val R.PRS_KEYX_NODE j) (x.val R.PRS_KEYX_OCC j) with
    | some S =>
      let last := (8 * S + sb + wd - 1) / 8
      if last < w.win ∧ last < w.lim then (putBits kp.1 db wd (wireField data S sb wd), orBit kp.2 i)
      else (putBits kp.1 db wd 0, kp.2)
    | none => (putBits kp.1 db wd 0, kp.2)

/-- The 640-bit key with its metadata word (R248). -/
def buildKey (x : Prism) (f : Pkt) (n : Nat) (w : WalkEnd) : Nat :=
  let kp := (List.range 16).foldl (extractOne x f.pipe n f.data w) (0, 0)
  let md := n + b2n w.trunc * 2 ^ 6 + b2n w.lenc * 2 ^ 7 + f.recirc % 4 * 2 ^ 8 + w.hdrs.length * 2 ^ 10
    + kp.2 * 2 ^ 16 + f.src % 64 * 2 ^ 32
  putBits kp.1 0 48 md

/-- The pre-filter byte (R250). -/
def preFilter (x : Prism) (p n key : Nat) : Nat :=
  let i := 64 * p + n
  if x.on R.PRS_PROF_PF_MODE i then bitsAt key (x.val R.PRS_PROF_PF_BIT i) 8 else x.val R.PRS_PROF_PF_CONST i

/-- PRISM_PARSE (R240, R243, R247): the oldest frame of the input queue is parsed under its profile and its key built; no frame is
taken during a hold. -/
def doPrismParse (p : Nat) (s : State) : State :=
  let x := s.prism p
  match x.inq with
  | [] => s
  | f :: r =>
    if x.hold then s
    else
      let s1 := s.setPrism p { x with inq := r }
      let n := match f.forced with
        | some n => n
        | none => x.val R.PRS_SRC_PROF_PROFILE (32 * p + f.src % 32)
      let i := 64 * p + n
      if !x.on R.PRS_PROF_EN i then (s1.sat R.PRS_CNT_B_NOPROF p 1).freeFrame f
      else
        let w := parseWalk x p n f.data
        let key := buildKey x f n w
        let g := { f with prof := n, forced := none, hdrs := w.hdrs, key := key, pf := preFilter x p n key,
                          win := none, act := 0, dest := none, rewrite := none, egress := 0 }
        let s2 := s1.count (12 + p) 0x01 1
        let s3 := if w.trunc then (s2.sat R.PRS_CNT_A_TRUNC p 1).count (12 + p) 0x02 1 else s2
        let s4 := if w.lenc then (s3.sat R.PRS_CNT_A_LENC p 1).count (12 + p) 0x03 1 else s3
        let la := x.val R.PRS_PROF_LEN_ACT i
        if w.lenc && la == 0 then s4.except g 0x02
        else if w.lenc && la == 2 then s4.freeFrame g
        else s4.modPrism p fun x => { x with parsed := x.parsed ++ [g] }

/-! ### The associative memory (R251 to R254, R258 to R262) -/

/-- Rows that an entry of a bank takes (R251). -/
def psmWidth (x : Prism) (p b : Nat) : Nat := 2 ^ x.val R.PSM_BANK_CFG_WIDTH (32 * p + b)

/-- Unit `u` of a key (R248). -/
def keyUnit (key u : Nat) : Nat := bitsAt key (160 * u) 160

/-- The key unit that row `j` of an entry compares (R251, KSEL): width 1, unit KSEL; width 2, K0 and K1 or K2 and K3; width 4, all.
-/
def keySel (x : Prism) (p b key j : Nat) : Nat :=
  let ks := x.val R.PSM_BANK_CFG_KSEL (32 * p + b)
  match psmWidth x p b with
  | 1 => keyUnit key ks
  | 2 => keyUnit key (2 * ks + j)
  | _ => keyUnit key j

/-- An empty row of the array. -/
def emptyRow : PsmRow := ⟨0, 0, false⟩

/-- An empty row of the shadow. -/
def emptyShadow : PsmShadow := ⟨0, 0, false, 0, 0, false⟩

/-- A row of the associative array of a physical bank. -/
def Prism.row (x : Prism) (phys row : Nat) : PsmRow := KMap.getD x.arr (2048 * phys + row) emptyRow

/-- A row of the shadow of a logical bank. -/
def Prism.shd (x : Prism) (b row : Nat) : PsmShadow := KMap.getD x.shadow (2048 * b + row) emptyShadow

/-- Write a row of the array. -/
def Prism.setRow (x : Prism) (phys row : Nat) (v : PsmRow) : Prism :=
  { x with arr := KMap.setD x.arr (2048 * phys + row) emptyRow v }

/-- Write a row of the shadow. -/
def Prism.setShd (x : Prism) (b row : Nat) (v : PsmShadow) : Prism :=
  { x with shadow := KMap.setD x.shadow (2048 * b + row) emptyShadow v }

/-- Value and mask match a key unit (R252). -/
def unitMatch (k value mask : Nat) : Bool := (k ^^^ value) &&& mask == 0

/-- The row group of a row is enabled for a pre-filter byte (R253). -/
def groupOn (x : Prism) (p b row pf : Nat) : Bool :=
  let i := 16 * (32 * p + b) + row / 128
  let m := x.val R.PSM_RG_MASK i
  x.on R.PSM_RG_EN i && pf &&& m == x.val R.PSM_RG_VALUE i &&& m

/-- The entry at (logical bank, first row) matches in the array (R252). -/
def arrMatch (s : State) (p : Nat) (x : Prism) (key pf banks : Nat) (excl : List (Nat × Nat)) (b row : Nat) : Bool :=
  let w := psmWidth x p b
  let phys := s.rd R.PSM_BANK_CFG_PHYS (32 * p + b)
  x.on R.PSM_BANK_CFG_EN (32 * p + b) && bitAt banks b && !x.outOf.contains b && row % w == 0
    && groupOn x p b row pf && (x.row phys row).valid && !excl.contains (b, row)
    && !KMap.getD x.dead (2048 * b + row) false
    && (List.range w).all fun j => unitMatch (keySel x p b key j) (x.row phys (row + j)).value (x.row phys (row + j)).mask

/-- (Logical bank, row) in the order of R254. -/
def posLe (a b : Nat × Nat) : Bool := decide (a.1 < b.1 ∨ (a.1 = b.1 ∧ a.2 ≤ b.2))

/-- The winner of a search: the lowest (logical bank, row) among the matching entries (R254). Rows with VALID 1 are listed in the
array, so only listed ones are looked at. -/
def psmFind (s : State) (p : Nat) (x : Prism) (key pf banks : Nat) (excl : List (Nat × Nat)) : Option (Nat × Nat) :=
  let valid := (x.arr.filter fun e => e.2.valid).map fun e => (e.1 / 2048, e.1 % 2048)
  let cand := valid.flatMap fun pr =>
    ((List.range 32).filter fun b => s.rd R.PSM_BANK_CFG_PHYS (32 * p + b) == pr.1).map fun b => (b, pr.2)
  (cand.filter fun c => arrMatch s p x key pf banks excl c.1 c.2).foldl
    (fun best c => match best with
      | none => some c
      | some b => if posLe b c then some b else some c) none

/-- What a verified search ends in (R259). -/
inductive PsmRes where
  | miss
  | hit (b row : Nat)
  | shadowUe (b row : Nat)
  | verifyLimit
  deriving DecidableEq, Repr

/-- The unit of R599 that holds a logical bank. -/
def State.bankUnit (s : State) (p b : Nat) : Nat := unitId 2 (33 * p + s.rd R.PSM_BANK_CFG_PHYS (32 * p + b))

/-- Mark an entry dead (R259, R262). -/
def State.markDead (s : State) (p b row : Nat) : State :=
  s.modPrism p fun x => { x with dead := KMap.put x.dead (2048 * b + row) true }

/-- The shadow of an entry matches a key (R259). -/
def shdMatch (p : Nat) (x : Prism) (b row key : Nat) : Bool :=
  (x.shd b row).valid && (List.range (psmWidth x p b)).all fun j =>
    unitMatch (keySel x p b key j) (x.shd b (row + j)).value (x.shd b (row + j)).mask

/-- A shadow row of an entry reads poisoned. -/
def shdBad (p : Nat) (x : Prism) (b row : Nat) : Bool :=
  (List.range (psmWidth x p b)).any fun j => (x.shd b (row + j)).bad

/-- An uncorrectable word is found in a shadow row (R206, R258): it is poisoned, counted and reported. -/
def State.shadowUe (s : State) (p b row : Nat) : State :=
  ((s.modPrism p fun x => x.setShd b row { x.shd b row with bad := true }).sat R.MEM_ECC_CNT_UNCORRECTABLE 0 1).report
    (s.bankUnit p b) .eccUe row

/-- The search and verification of R259: at most five runs. -/
def psmRuns (p key pf banks : Nat) : Nat → List (Nat × Nat) → Nat × Nat → State → PsmRes × State
  | 0, _, last, s =>
    (.verifyLimit, (s.sat R.PSM_VERIFY_STAT_LIMIT p 1).report (s.bankUnit p last.1) .prismVerify last.2)
  | runs + 1, excl, last, s0 =>
    let s := s0.count (12 + p) 0x04 1
    let x := s.prism p
    match psmFind s p x key pf banks excl with
    | none => (.miss, s)
    | some (b, row) =>
      if shdBad p x b row then
        let s1 := (s.sat R.MEM_ECC_CNT_POISON_READS 0 1).sat R.PSM_VERIFY_STAT_SHADOW_UE p 1
        (.shadowUe b row, (s1.markDead p b row).report (s1.bankUnit p b) .prismVerify row)
      else if shdMatch p x b row key then (.hit b row, s.count (12 + p) 0x05 1)
      else
        let s1 := (s.sat R.PSM_VERIFY_STAT_FALSE_HITS p 1).count (12 + p) 0x06 1
        let s2 := s1.modPrism p fun x => { x with suspect := KMap.put x.suspect (2048 * b + row) true }
        psmRuns p key pf banks runs (excl ++ [(b, row)]) (b, row)
          (if last = (b, row) then s2 else s2.report (s2.bankUnit p b) .prismVerify row)

/-- Search pipeline `p` for a key with a pre-filter byte and a mask of banks (R252 to R254, R259). -/
def State.psmSearch (s : State) (p key pf banks : Nat) : PsmRes × State := psmRuns p key pf banks 5 [] (32, 0) s

/-- An upset changes a row of the array (R258). -/
def State.upsetRow (s : State) (p : Nat) (u : RowUpset) : State :=
  if u.phys < 33 ∧ u.row < 2048 then
    s.modPrism p fun x => x.setRow u.phys u.row ⟨u.value % 2 ^ 160, u.mask % 2 ^ 160, u.valid⟩
  else s

/-- Prism acts on DISP of the action set (R255, R256, R330). -/
def State.dispose (s : State) (f : Pkt) (hit : Bool) : State :=
  match actDisp f.act with
  | 1 => s.modPrism f.pipe fun x => { x with acted := x.acted ++ [f] }
  | 2 => s.exceptTo f (bitsAt f.act 56 4) (if hit then 0x00 else 0x01)
  | 3 =>
    let g := { f with dest := some (.hostq (bitsAt f.act 56 16)), h := s.flowHash f }
    { s with tm := { s.tm with inq := KMap.setD s.tm.inq f.pipe [] (KMap.getD s.tm.inq f.pipe [] ++ [g]) } }
  | 4 =>
    if f.recirc = 2 then s.except f 0x03
    else { s with toGlint := KMap.setD s.toGlint f.pipe [] (KMap.getD s.toGlint f.pipe [] ++ [f]) }
  | _ => s.freeFrame f

/-- PRISM_SEARCH (R259, R233, R255): the oldest parsed frame is searched and its winner verified. An upset of one array row, or an
uncorrectable shadow word of the first winner, comes about first. -/
def doPrismSearch (p : Nat) (upset : Option RowUpset) (ue : Bool) (s : State) : State :=
  match (s.prism p).parsed with
  | [] => s
  | f :: r =>
    let s0 := s.modPrism p fun x => { x with parsed := r }
    let s1 := match upset with
      | some u => s0.upsetRow p u
      | none => s0
    let banks := (s1.prism p).val R.PSM_PROF_BANKS_BANKS (64 * p + f.prof)
    let s2 := match psmFind s1 p (s1.prism p) f.key f.pf banks [] with
      | some (b, row) => if ue then s1.shadowUe p b row else s1
      | none => s1
    let res := s2.psmSearch p f.key f.pf banks
    match res.1 with
    | .miss => res.2.dispose { f with act := (s2.prism p).val R.PSM_PROF_MISS_REC (64 * p + f.prof) } false
    | .hit b row => res.2.dispose { f with act := ((s2.prism p).shd b row).act, win := some (b, row) } true
    | .shadowUe b row => res.2.except { f with win := some (b, row) } 0x05
    | .verifyLimit => res.2.except f 0x04

/-- Write rows `row` to `row + n - 1` of a bank's array from their shadow. -/
def rewriteRows (phys b : Nat) (rows : List Nat) (x : Prism) : Prism :=
  rows.foldl (fun x r => x.setRow phys r ⟨(x.shd b r).value, (x.shd b r).mask, (x.shd b r).valid⟩) x

/-- The rows of an entry. -/
def entryRows (x : Prism) (p b row : Nat) : List Nat := (List.range (psmWidth x p b)).map fun j => row + j

/-- SUSPECT_ROW_REWRITE (R261): a suspect entry's rows are rewritten from their shadow and it ceases to be suspect. -/
def doSuspectRowRewrite (p bank row : Nat) (s : State) : State :=
  let x := s.prism p
  if KMap.getD x.suspect (2048 * bank + row) false then
    s.setPrism p { rewriteRows (s.rd R.PSM_BANK_CFG_PHYS (32 * p + bank)) bank (entryRows x p bank row) x with
      suspect := KMap.del x.suspect (2048 * bank + row) }
  else s

/-- The scrubber compares one row of a logical bank with its shadow (R263, R264). -/
def State.scrubOne (s : State) (p row : Nat) (ue : List Nat) (b : Nat) : State :=
  let first (x : Prism) := row - row % psmWidth x p b
  let s1 := if ue.contains b then s.shadowUe p b row else s
  let x := s1.prism p
  let sh := x.shd b row
  let phys := s1.rd R.PSM_BANK_CFG_PHYS (32 * p + b)
  if sh.bad then
    let s2 := s1.sat R.MEM_ECC_CNT_POISON_READS 0 1
    if KMap.getD x.dead (2048 * b + first x) false then s2
    else (s2.markDead p b (first x)).report (s2.bankUnit p b) .prismVerify row
  else if x.row phys row = ⟨sh.value, sh.mask, sh.valid⟩ then s1
  else
    ((s1.setPrism p (rewriteRows phys b [row] x)).sat R.PSM_SCRUB_STAT_REPAIRS p 1).report (s1.bankUnit p b) .prismScrub row

/-- PRISM_SCRUB_ROW (R263, R264): the row next in turn is compared with its shadow in every bank in service, and repaired where it
differs; upsets and uncorrectable shadow words of that row come about first. -/
def doPrismScrubRow (p : Nat) (upsets : List RowUpset) (ue : List Nat) (s : State) : State :=
  if p < 4 then
    let row := (s.prism p).scrub
    let s1 := upsets.foldl (fun s u => s.upsetRow p u) s
    let banks := (List.range 32).filter fun b => !(s1.prism p).outOf.contains b
    let s2 := banks.foldl (fun s b => s.scrubOne p row ue b) s1
    let s3 := s2.modPrism p fun x => { x with scrub := (row + 1) % 2048 }
    if row = 2047 then s3.bump R.PSM_SCRUB_STAT_PASSES p else s3
  else s

/-! ### Batches (R266 to R271) -/

/-- Operation `k` of the buffer as one 512-bit number (R267). -/
def State.updOp (s : State) (p k : Nat) : Nat :=
  (List.range 8).foldl (fun v w => v + s.rd R.PSM_UPD_OP_DATA (2048 * p + 8 * k + w) * 2 ^ (64 * w)) 0

/-- The number of entries of a bank of a width. -/
def bankEntries (w : Nat) : Nat := 2048 / w

/-- The first invalid entry at or after position `e` (R268). -/
def holeFrom (x : Prism) (b w e : Nat) : Option Nat :=
  (List.range (bankEntries w - e)).map (fun k => e + k) |>.find? fun k => !(x.shd b (w * k)).valid

/-- Write one row with its shadow, in the array of the bank's physical bank. -/
def Prism.putRow (x : Prism) (phys b row : Nat) (v : PsmShadow) : Prism :=
  (x.setShd b row v).setRow phys row ⟨v.value, v.mask, v.valid⟩

/-- Move entry `e` of a bank of width `w` down by one entry (R268): rows from their shadow; a dead mark moves, a suspect mark is
cleared. -/
def moveEntry (phys b w e : Nat) (x : Prism) : Prism :=
  let x1 := (List.range w).foldl (fun x j => x.putRow phys b (w * (e + 1) + j) (x.shd b (w * e + j))) x
  let k0 := 2048 * b + w * e
  let k1 := 2048 * b + w * (e + 1)
  { x1 with dead := KMap.setD (KMap.del x1.dead k0) k1 false (KMap.getD x1.dead k0 false),
            suspect := KMap.del (KMap.del x1.suspect k0) k1 }

/-- Clear the dead and suspect marks of an entry (R269). -/
def Prism.clearMarks (x : Prism) (b first : Nat) : Prism :=
  { x with dead := KMap.del x.dead (2048 * b + first), suspect := KMap.del x.suspect (2048 * b + first) }

/-- Apply one operation with the bank widths `wd` (R268): the code of R270 on failure, else the Prism and the row writes. -/
def psmApply (phys wd lim : Nat → Nat) (op : Nat) (x : Prism) : Nat ⊕ (Prism × Nat) :=
  let code := bitsAt op 0 4
  let b := bitsAt op 4 5
  let row := bitsAt op 9 11
  let w := wd b
  let first := row - row % w
  let act := bitsAt op 384 128
  if 3 < code ∨ bitsAt op 25 39 ≠ 0 ∨ (code = 1 ∧ row % w = 0 ∧ actReserved act = true) then .inl 1
  else if (code = 2 ∨ code = 3) ∧ row % w ≠ 0 then .inl 2
  else
    match code with
    | 0 => .inr (x, 0)
    | 1 =>
      if x.outOf.contains b then .inl 6
      else
        let old := x.shd b row
        let v : PsmShadow := if row % w = 0 then
            ⟨bitsAt op 64 160, bitsAt op 224 160, bitAt op 24, bitsAt op 20 4, act, false⟩
          else ⟨bitsAt op 64 160, bitsAt op 224 160, old.valid, old.band, old.act, false⟩
        .inr ((x.putRow (phys b) b row v).clearMarks b first, 1)
    | 2 =>
      if x.outOf.contains b then .inl 6
      else .inr ((x.putRow (phys b) b row { x.shd b row with valid := false }).clearMarks b first, 1)
    | _ =>
      let e := row / w
      match holeFrom x b w e with
      | none => .inl 4
      | some h =>
        if lim b < h - e then .inl 3
        else if x.outOf.contains b then .inl 6
        else
          let x1 := (List.range (h - e)).foldl (fun x k => moveEntry (phys b) b w (h - 1 - k) x) x
          .inr ((x1.putRow (phys b) b row { x1.shd b row with valid := false }).clearMarks b row, (h - e) * w)

/-- Run operations `k` on, counting row writes (R270): the failing operation and code, or the Prism that results. -/
def psmBatch (phys wd lim : Nat → Nat) : List Nat → Nat → Nat → Prism → (Nat × Nat) ⊕ Prism
  | [], _, _, x => .inr x
  | op :: r, k, n, x =>
    match psmApply phys wd lim op x with
    | .inl e => .inl (k, e)
    | .inr (x1, m) => if 256 < n + m then .inl (k, 5) else psmBatch phys wd lim r (k + 1) (n + m) x1

/-- The operations of the batch in the buffer. -/
def State.batchOps (s : State) (p n : Nat) : List Nat := (List.range n).map fun k => s.updOp p k

/-- GO of PSM_UPD_CTL (R270): the batch is checked against the layouts as staged and refused, or its hold is scheduled. -/
def State.psmGo (s : State) (p : Nat) : State :=
  if s.flag R.PSM_UPD_CTL_BUSY p then s.wr R.PSM_UPD_CTL_REFUSED p 1
  else
    let s1 := s.wr R.PSM_UPD_CTL_REFUSED p 0
    let n := s1.rd R.PSM_UPD_CTL_COUNT p
    let wd := fun b => 2 ^ s1.rd R.PSM_BANK_CFG_WIDTH (32 * p + b)
    let lim := fun b => s1.rd R.PSM_BANK_CFG_SHIFT_LIMIT (32 * p + b)
    let phys := fun b => s1.rd R.PSM_BANK_CFG_PHYS (32 * p + b)
    match psmBatch phys wd lim (s1.batchOps p n) 0 0 (s1.prism p) with
    | .inl (k, e) => (s1.wrs p [(R.PSM_UPD_CTL_ERR, e), (R.PSM_UPD_CTL_ERR_OP, k)]).latchLine (16 + p)
    | .inr _ => (s1.wr R.PSM_UPD_CTL_BUSY p 1).modPrism p fun x => { x with batch := some n }

/-- The fields of PSM_UPD_CTL that a write sets (R9, R13). -/
def State.wrUpdCtl (s : State) (p val : Nat) : State :=
  let s1 := if bitsAt val 0 9 ≤ 256 then s.wr R.PSM_UPD_CTL_COUNT p (bitsAt val 0 9) else s
  let s2 := s1.wr R.PSM_UPD_CTL_HOLD_GATE p (bitsAt val 11 1)
  if bitAt val 9 then s2.psmGo p else s2

/-- PSM_BATCH_GO (R270): a write of PSM_UPD_CTL with GO. -/
def doPsmBatchGo (w : Writer) (p val : Nat) (s : State) : State :=
  if p < 4 ∧ s.mayWrite w (Reg.PSM_UPD_CTL.off p) = true then s.wrUpdCtl p (val ||| 2 ^ 9) else s

/-- The staged registers of R238: register and instances per pipeline. -/
def stagedRegs : List (RegD × Nat) :=
  [(Reg.PRS_PROF, 64), (Reg.PRS_SRC_PROF, 32), (Reg.PRS_NODE_LEN, 128), (Reg.PRS_NODE_NXT, 128), (Reg.PRS_TRANS, 1024),
   (Reg.PRS_KEYX, 1024), (Reg.PSM_BANK_CFG, 32), (Reg.PSM_RG, 512), (Reg.PSM_PROF_BANKS, 64), (Reg.PSM_PROF_MISS, 64)]

/-- A key of the register file is a staged field of pipeline `p`. -/
def stagedKey (p k : Nat) : Bool :=
  stagedRegs.any fun e => e.1.flds.any fun f =>
    f.id == k / 2 ^ 24 && f.id != R.PSM_BANK_CFG_PHYS.id && k % 2 ^ 24 / e.2 == p

/-- The staged state of pipeline `p`. -/
def State.stagedState (s : State) (p : Nat) : KMap Nat := s.regs.filter fun e => stagedKey p e.1

/-- PSM_HOLD_BEGIN (R266, HOLD_GATE): the hold of a checked batch begins; with HOLD_GATE 1 only when the input queue is empty. The
staged state is taken now. -/
def doPsmHoldBegin (p : Nat) (s : State) : State :=
  let x := s.prism p
  if x.batch.isSome ∧ x.hold = false ∧ (s.flag R.PSM_UPD_CTL_HOLD_GATE p = true → x.inq = []) then
    ((s.setPrism p { x with hold := true, next := s.stagedState p }).sat R.PSM_HOLD_STAT_HOLDS p 1).wr
      R.PSM_UPD_CTL_STAGED p 0
  else s

/-- PSM_BATCH_APPLY (R266 to R271): when the frames past the parser have left the search, the operations and the staged registers
apply and the input is released; BUSY clears and the line of R92 latches. -/
def doPsmBatchApply (p : Nat) (s : State) : State :=
  let x := s.prism p
  match x.batch with
  | some n =>
    if x.hold = true ∧ x.parsed = [] then
      let x1 := { x with cfg := x.next, next := [], hold := false, batch := none }
      let wd := fun b => 2 ^ x1.val R.PSM_BANK_CFG_WIDTH (32 * p + b)
      let lim := fun _ => 2048
      let phys := fun b => s.rd R.PSM_BANK_CFG_PHYS (32 * p + b)
      let x2 := match psmBatch phys wd lim (s.batchOps p n) 0 0 x1 with
        | .inr y => y
        | .inl _ => x1
      ((s.setPrism p x2).wrs p [(R.PSM_UPD_CTL_BUSY, 0), (R.PSM_UPD_CTL_ERR, 0), (R.PSM_UPD_CTL_ERR_OP, 0)]).latchLine
        (16 + p)
    else s
  | none => s

/-! ### Placement and readback (R273, R279) -/

/-- GO of PSM_PLACE starts a search and clears DONE (R273). -/
def State.wrPlace (s : State) (p val : Nat) : State :=
  let s1 := s.wrs p [(R.PSM_PLACE_BANK, bitsAt val 0 5), (R.PSM_PLACE_BAND, bitsAt val 5 4)]
  if bitAt val 9 then (s1.wr R.PSM_PLACE_DONE p 0).modPrism p fun x => { x with placing := true } else s1

/-- PSM_PLACE_GO (R273). -/
def doPsmPlaceGo (w : Writer) (p val : Nat) (s : State) : State :=
  if p < 4 ∧ s.mayWrite w (Reg.PSM_PLACE.off p) = true then s.wrPlace p (val ||| 2 ^ 9) else s

/-- The entry position just after the last valid entry of a bank whose band is at or below `band` (R273). -/
def bandPlace (x : Prism) (p b band : Nat) : Nat :=
  let w := psmWidth x p b
  (x.shadow.filter fun e => decide (e.1 / 2048 = b ∧ e.1 % 2048 % w = 0) && e.2.valid && decide (e.2.band ≤ band)).foldl
    (fun m e => Nat.max m (e.1 % 2048 / w + 1)) 0

/-- PSM_PLACE_DONE (R273): the search ends; DONE sets with the row, or with FULL when the position lies past the bank's end, where the
spec gives ROW no value (log entry 3). -/
def doPsmPlaceDone (p : Nat) (s : State) : State :=
  let x := s.prism p
  if x.placing then
    let b := s.rd R.PSM_PLACE_BANK p
    let row := psmWidth x p b * bandPlace x p b (s.rd R.PSM_PLACE_BAND p)
    let d := s.draw
    let s1 := if row < 2048 then s.wrs p [(R.PSM_PLACE_ROW, row), (R.PSM_PLACE_FULL, 0)]
      else d.2.wrs p [(R.PSM_PLACE_ROW, d.1), (R.PSM_PLACE_FULL, 1)]
    ((s1.wr R.PSM_PLACE_DONE p 1).setPrism p { x with placing := false }).latchLine (20 + p)
  else s

/-- A write of PSM_RDSEL loads the row's shadow into PSM_RDDATA (R279). A row that reads poisoned returns 0 and sets UE. -/
def State.wrRdsel (s : State) (p val : Nat) : State :=
  let b := bitsAt val 0 5
  let row := bitsAt val 5 11
  let x := s.prism p
  let sh := x.shd b row
  let first := row - row % psmWidth x p b
  let op := if sh.bad then 0 else
    1 + b * 2 ^ 4 + row * 2 ^ 9 + sh.band * 2 ^ 20 + b2n sh.valid * 2 ^ 24 + sh.value * 2 ^ 64 + sh.mask * 2 ^ 224
      + sh.act * 2 ^ 384
  let s0 := if sh.bad then s.sat R.MEM_ECC_CNT_POISON_READS 0 1 else s
  let s1 := (List.range 8).foldl (fun s w => s.wr R.PSM_RDDATA_DATA (8 * p + w) (bitsAt op (64 * w) 64)) s0
  s1.wrs p [(R.PSM_RDSEL_BANK, b), (R.PSM_RDSEL_ROW, row), (R.PSM_RDSEL_UE, b2n sh.bad),
    (R.PSM_RDSEL_SUSPECT, b2n (KMap.getD x.suspect (2048 * b + first) false)),
    (R.PSM_RDSEL_DEAD, b2n (KMap.getD x.dead (2048 * b + first) false))]

/-- PSM_READBACK (R279). -/
def doPsmReadback (w : Writer) (p val : Nat) (s : State) : State :=
  if p < 4 ∧ s.mayWrite w (Reg.PSM_RDSEL.off p) = true then s.wrRdsel p val else s

/-! ### The meanings of the rows -/

/-- PRISM_INPUT_ENQUEUE (R275). -/
def execPrismInputEnqueue (p : Nat) (k : Nat) (s : State) : Host.Outcome State Fault Refusal :=
  .next (s.after (doPrismInputEnqueue p k s))

/-- PRISM_PARSE (R243). -/
def execPrismParse (p : Nat) (s : State) : Host.Outcome State Fault Refusal :=
  .next (s.after (doPrismParse p s))

/-- PRISM_SEARCH (R259). -/
def execPrismSearch (p : Nat) (upset : Option RowUpset) (ue : Bool) (s : State) : Host.Outcome State Fault Refusal :=
  .next (s.after (doPrismSearch p upset ue s))

/-- SUSPECT_ROW_REWRITE (R261). -/
def execSuspectRowRewrite (p : Nat) (bank : Nat) (row : Nat) (s : State) : Host.Outcome State Fault Refusal :=
  .next (s.after (doSuspectRowRewrite p bank row s))

/-- PRISM_SCRUB_ROW (R263). -/
def execPrismScrubRow (p : Nat) (upsets : List RowUpset) (ue : List Nat) (s : State) : Host.Outcome State Fault Refusal :=
  .next (s.after (doPrismScrubRow p upsets ue s))

/-- PSM_BATCH_GO (R270). -/
def execPsmBatchGo (w : Writer) (p : Nat) (val : Nat) (s : State) : Host.Outcome State Fault Refusal :=
  .next (s.after (doPsmBatchGo w p val s))

/-- PSM_HOLD_BEGIN (R266). -/
def execPsmHoldBegin (p : Nat) (s : State) : Host.Outcome State Fault Refusal :=
  .next (s.after (doPsmHoldBegin p s))

/-- PSM_BATCH_APPLY (R271). -/
def execPsmBatchApply (p : Nat) (s : State) : Host.Outcome State Fault Refusal :=
  .next (s.after (doPsmBatchApply p s))

/-- PSM_PLACE_GO (R273). -/
def execPsmPlaceGo (w : Writer) (p : Nat) (val : Nat) (s : State) : Host.Outcome State Fault Refusal :=
  .next (s.after (doPsmPlaceGo w p val s))

/-- PSM_PLACE_DONE (R273). -/
def execPsmPlaceDone (p : Nat) (s : State) : Host.Outcome State Fault Refusal :=
  .next (s.after (doPsmPlaceDone p s))

/-- PSM_READBACK (R279). -/
def execPsmReadback (w : Writer) (p : Nat) (val : Nat) (s : State) : Host.Outcome State Fault Refusal :=
  .next (s.after (doPsmReadback w p val s))

end Sys2Proof.Machine
end

