-- ==== Sys2Proof/Machine/Reliability.lean ====
section
/-!
DEFINITION. The commands of 14_reliability.md: verdicts on fault reports and what they do to a unit, switch-overs, fencing, the
self-test, lane recalibration, and the fade monitors with margin re-planning.
-/

namespace Sys2Proof.Machine

/-! ### Times -/

/-- An hour and a day of the device timebase, in ns. -/
def hourNs : Nat := 3600000000000
def dayNs : Nat := 24 * hourNs

/-! ### Threads of a core (R621, R622) -/

/-- The GTIDs of a core. -/
def coreThreads (c : Nat) : List Nat := (List.range 8).map fun k => 8 * c + k

/-- OFF slots t1 to t7 of the other cores of a core's cluster, on cores that issue. -/
def State.roomFor (s : State) (c : Nat) : List Nat :=
  ((List.range 64).map fun k => 64 * (c / 8) + k).filter fun x =>
    coreOf x != c && slotOf x != 0 && (s.thr x).st == .off && s.alive (coreOf x) && !(s.ltn.migr.any fun e => e.2 == x)

/-- The threads on a core that are not OFF: its own that have not migrated, and those that have migrated to it. -/
def State.residents (s : State) (c : Nat) : List Nat :=
  ((coreThreads c).filter fun t => (s.thr t).st != .off && coreOf (s.slotAt t) == c)
    ++ ((s.ltn.migr.filter fun e => coreOf e.2 == c && coreOf e.1 != c).map fun e => e.1)

/-- Close or open the gate of a core (R613). -/
def State.gateCore (s : State) (c : Nat) (b : Bool) : State := s.modCore c fun k => { k with gated := b }

/-- Migrate the threads on a core that are not OFF (R621, R622); `none` when the cluster has too few slots. -/
def State.migrate (s : State) (c : Nat) : Option State :=
  let ts := s.residents c
  let xs := s.roomFor c
  if xs.length < ts.length then none
  else
    let put := (ts.zip xs).foldl (fun m e => KMap.put m e.1 e.2) s.ltn.migr
    let s1 := ({ s with ltn := { s.ltn with migr := put } }).gateCore c true
    let cores := ((ts.zip xs).map fun e => coreOf e.2).eraseDups
    some ((c :: cores).foldl State.tellCore (s1.settleCluster (c / 8)))

/-- The migrated threads of a core return to it (R622). -/
def State.migrateBack (s : State) (c : Nat) : State :=
  let hosts := ((s.ltn.migr.filter fun e => coreOf e.1 == c).map fun e => coreOf e.2).eraseDups
  let s1 := ({ s with ltn := { s.ltn with migr := s.ltn.migr.filter fun e => coreOf e.1 != c } }).gateCore c false
  (c :: hosts).foldl State.tellCore (s1.settleCluster (c / 8))

/-- Transfers and CRYPT jobs of a thread complete with UNIT_RETIRED_RETRY (R612, R616). -/
def State.retireTransfers (s : State) (t : Nat) : State :=
  let l := (s.jobs.filter fun e => e.2.gtid == some t).map fun e => e.1
  l.foldl (fun s n => match KMap.find s.jobs n with
    | some j => (s.dropGlint n j).finishRing n CplStat.unitRetiredRetry.code j.done
    | none => s) s

/-- A thread enters FAULTED where it stands. -/
def State.faultThread (s : State) (t : Nat) : State :=
  ((s.modThr t fun th => { th with st := .faulted, stepping := false, blk := none, lens := none, lensIn := [] }).wr
    R.LTN_THR_WAITMASK_MASK t 0).settle t

/-! ### Glint clusters (R403, R404) -/

/-- The work of a logical cluster is spread over the other lit clusters, and the cluster reads OUT. -/
def State.spreadGlint (s : State) (c : Nat) : State :=
  let s1 := s.wr R.GLT_CL_STAT_OUT c 1
  let l := (s1.jobs.filter fun e => e.2.opc == 8 && e.2.cluster == some c).map fun e => e.1
  l.foldl (fun s n => match KMap.find s.jobs n, s.chooseCluster with
    | some j, (some d, s2) => ((s2.jobOut c).jobIn d).setJob n { j with cluster := some d }
    | _, _ => s) s1

/-- A logical cluster loses its derived-key cache (R374). -/
def State.dropCache (s : State) (c : Nat) : State := s.modGlint fun g => { g with cache := KMap.del g.cache c }

/-- A look-aside job whose state is lost (R403): all PAY_LEN bytes at OUT_ADDR are zeroed and it completes with UNIT_RETIRED_RETRY. -/
def State.loseJob (s : State) (c n : Nat) : State :=
  let st := CplStat.unitRetiredRetry.code
  match KMap.find s.jobs n with
  | none => s
  | some j =>
    if j.opc ≠ 8 ∨ j.cluster ≠ some c then s
    else
      match KMap.find s.glint.keys n, j.dst with
      | none, _ => s.failJob n st
      | _, .chan _ => s.failJob n st
      | some _, _ =>
        let j1 : Job := { j with scrub := some st, status := none, torn := false, output := zeros (jobHdr j.input).payLen, done := 0 }
        (s.setJob n j1).pump n

/-- A context record whose state is lost (R403): its inline frames in the cluster are dropped, and it is marked invalid and reported. -/
def State.loseCtx (s : State) (c u n : Nat) : State :=
  let gone := s.glint.inl.filter fun e => e.cl == c && e.ctx == n
  let s1 := s.modGlint fun g => { g with inl := g.inl.filter fun e => !(e.cl == c && e.ctx == n) }
  let s2 := gone.foldl (fun s e => ((s.jobOut c).sat R.GLT_INLINE_CNT_OTHER 0 1).freeFrame e.pkt) s1
  let s3 := match s2.ctxRec n with
    | some b => s2.holdCtx n (putB b 32 (leBytes 8 (clearMask (ctxWord b) 1)))
    | none => s2
  s3.report u .eccUe n

/-! ### Prism banks (R277, R278) -/

/-- The bank may be taken out of service (R278): DUP_VALID, and the shadows of the bank and of DUP_BANK hold the same valid entries. -/
def State.dupGood (s : State) (p b : Nat) : Bool :=
  let x := s.prism p
  let i := 32 * p + b
  let d := s.rd R.PSM_BANK_CFG_DUP_BANK i
  s.flag R.PSM_BANK_CFG_DUP_VALID i
    && (List.range 2048).all fun r =>
      let a := x.shd b r
      let e := x.shd d r
      !(a.valid || e.valid) || a == e

/-! ### Retirement with no spare (R609, R612) -/

/-- The words of the HBM row that holds an address (R200, R735), and for an SRAM address its 64-byte line, are written with P = 1. -/
def State.poisonRow (s : State) (a : Nat) : State :=
  if a < hbmSize s.part then
    let sh := if s.part = .b24 then 6 else 7
    let ch := pseudoChannel s.part a
    let row := localOffset s.part a / 1024
    (List.range 4).foldl (fun s k =>
      let hi := 4 * row + k
      s.poisonRange (hi * 2 ^ (8 + sh) + (ch ^^^ hi % 2 ^ sh) * 256) 256) s
  else s.poisonRange (a / 64 * 64) 64

/-- The address that bits [37:6] in WHERE name for a unit: HBM, or the SRAM regions of R43. -/
def rowAddr (u loc : Nat) : Nat := loc % 2 ^ 32 * 64 + if unitTy u = 3 then 0 else 0x4000000000

/-- A core with no spare: its threads migrate, or they enter FAULTED and the map shows the logical core unserved; which of the codes
that name no physical core the map then holds is a free value. -/
def State.loseCore (s : State) (u : Nat) : State :=
  let c := s.rd R.LHS_UNIT_STAT_LOGICAL u
  match s.migrate c with
  | some s1 => s1
  | none =>
    let s1 := (s.residents c).foldl (fun s t => (s.faultThread t).retireTransfers t) s
    let s2 := s1.draw.2.gateCore c true
    let m := putBits (s2.rd R.LTN_CL_MAP_MAP (c / 8)) (4 * (c % 8)) 4 (9 + s1.draw.1 % 7)
    (s2.wr R.LTN_CL_MAP_MAP (c / 8) m).settleCluster (c / 8)

/-- A unit in service is retired with no spare (R612). -/
def State.retireAlone (s : State) (u loc : Nat) : State :=
  let s0 := s.degrade u
  let ix := unitIx u
  let log := s.rd R.LHS_UNIT_STAT_LOGICAL u
  match unitTy u with
  | 0 => (s0.wr R.LHS_UNIT_STAT_ROLE u 2).loseCore u
  | 1 => ((s0.wr R.LHS_UNIT_STAT_ROLE u 2).spreadGlint log)
  | 2 =>
    if s.dupGood (log / 32) (log % 32) then
      (s0.wr R.LHS_UNIT_STAT_ROLE u 2).modPrism (log / 32) fun x => { x with outOf := addOnce (log % 32) x.outOf }
    else s0
  | 3 => s0.poisonRow (rowAddr u loc)
  | 4 => s0.poisonRow (rowAddr u loc)
  | 5 => doLaneRetire (ix / 4) (ix % 4) (s0.wr R.LHS_UNIT_STAT_ROLE u 2)
  | _ => s0

/-! ### Verdicts (R604 to R612) -/

/-- The unit is declared dead (R611): counted, and kept for its self-test (R617, R623). -/
def State.declareDead (s : State) (u kind loc : Nat) (stop keep : Bool) : State :=
  let twice := match KMap.find s.lhs.deaths u with
    | some t => decide (s.time ≤ t + dayNs)
    | none => false
  let d : DeadUnit := ⟨s.time, kind, loc, stop, twice, false⟩
  (s.sat R.LHS_UNIT_STAT_PERM_CNT u 1).modLhs fun x => { x with
    deaths := KMap.put x.deaths u s.time
    dead := if keep then KMap.put x.dead u d else x.dead }

/-- A unit of types 0 to 2 is stopped: its gate closes and its switch-over is queued (R613, R615). -/
def State.queueSwitch (s : State) (u : Nat) : State :=
  let s1 := s.modLhs fun x => { x with swq := addOnce u x.swq }
  if unitTy u = 0 then s1.gateCore (s.rd R.LHS_UNIT_STAT_LOGICAL u) true else s1

/-- A spare is found for a unit: a spare unit of types 0 to 2; a spare row, whose presence in HBM the spec leaves to JESD238 and is a
free value, and of which an SRAM macro has four (R599). -/
def State.findSpare (s : State) (u : Nat) : Bool × State :=
  match unitTy u with
  | 0 | 1 | 2 => (s.spareFree u, s)
  | 3 => (s.draw.1 % 2 == 1, s.draw.2)
  | 4 =>
    let n := KMap.getD s.lhs.rows u 0
    if n < 4 then (true, s.modLhs fun x => { x with rows := KMap.put x.rows u (n + 1) }) else (false, s)
  | _ => (false, s)

/-- A PERMANENT verdict (R609): the unit is retired with a spare, or, with none free, the verdict is DEGRADED. A unit that is not in
service has its role changed only. -/
def State.permanent (s : State) (u kind tries loc : Nat) (stop : Bool) : State :=
  if u = unitDevice then s.record u kind .permanent tries loc
  else
    match s.rd R.LHS_UNIT_STAT_ROLE u with
    | 0 =>
      match s.findSpare u with
      | (true, s1) =>
        let sw := decide (unitTy u ≤ 2)
        let s2 := (s1.record u kind .permanent tries loc).declareDead u kind loc stop sw
        if sw then s2.queueSwitch u else s2
      | (false, s1) => ((s1.record u kind .degraded tries loc).declareDead u kind loc stop false).retireAlone u loc
    | 1 => ((s.record u kind .permanent tries loc).declareDead u kind loc stop true).wr R.LHS_UNIT_STAT_ROLE u 2
    | _ => s.record u kind .permanent tries loc

/-- The kinds of R610, which stop the unit at once. -/
def stopsUnit (kind : Nat) : Bool := kind == 5 || kind == 6 || kind == 7 || kind == 0xF || kind == 0x10

/-- A switch-over of a logical core (R615, R616, R128): TLBs are not carried, threads whose state is lost enter FAULTED, held events are
latched in arrival order, and each census restarts. -/
def State.restartCore (s : State) (c : Nat) (lost : List Nat) : State :=
  let held := s.ltn.heldEv.filter fun e => coreOf e.1 == c
  let beat := fun (k : Core) => if k.hbStart.isSome then some s.time else none
  let s1 := (s.modCore c fun k => { k with tlb := [], failed := false, gated := false, hbStart := beat k }).wr R.LTN_CORE_ISSUE_RP c 0
  let s2 := { s1 with ltn := { s1.ltn with heldEv := s1.ltn.heldEv.filter fun e => coreOf e.1 != c } }
  let again := fun (th : Thread) => { th with blk := none, lens := none, lensIn := [] }
  let s3 := (coreThreads c).foldl (fun s t => s.modThr t again) s2
  let gone := (coreThreads c).filter fun t => lost.contains t
  let s4 :=
    if gone.contains (8 * c) then
      ((gone.foldl State.retireTransfers s3).resetCore c).recordFree (coreUnit s3 c) FKind.regfileUe.code 0
    else gone.foldl (fun s t =>
      let s5 := ((s.faultThread t).retireTransfers t).draw
      s5.2.pushFault c ⟨Cls.regfileUe.code, slotOf t, s5.1 % 2 ^ 48⟩ 0) s3
  let s6 := if gone.contains (8 * c) then s4.startT0 c else s4
  let s7 := held.foldl (fun s e => s.latchSet e.1 e.2) s6
  let groups := (List.range 16).map fun g => 16 * (c / 8) + g
  let s8 := groups.foldl (fun s x => s.wr R.LTN_GRP_CTL_COUNT x 0) (s7.wr R.LTN_CORE_ECL_COUNT c 0)
  (s8.settleCluster (c / 8)).tellCore c

/-- The retry of R610 for a unit with no spare free: a switch-over into the same unit after a unit reset. -/
def State.retryUnit (s : State) (u : Nat) : State :=
  let l := s.rd R.LHS_UNIT_STAT_LOGICAL u
  match unitTy u with
  | 0 => ((s.bump R.LHS_UNIT_STAT_EPOCH u).count 67 0x02 1).restartCore l []
  | 1 => ((s.bump R.LHS_UNIT_STAT_EPOCH u).count 67 0x02 1).dropCache l
  | 2 => (s.bump R.LHS_UNIT_STAT_EPOCH u).count 67 0x02 1
  | _ => s

/-- Judge a report (R604 to R610). `ok`: the retry of R607 ended in success after `tries`. -/
def State.judge (s : State) (u kind loc tries : Nat) (ok : Bool) : State :=
  let lim := s.rd R.LHS_FLT_CFG_RETRY_MAX 0
  let n := s.ninth u loc
  let done := KMap.getD s.lhs.retries u 0
  if stopsUnit kind then
    if decide (unitTy u ≤ 2) && s.spareFree u && s.rd R.LHS_UNIT_STAT_ROLE u == 0 then n.2.permanent u kind 0 loc true
    else if n.1 = false ∧ done < lim then
      ((n.2.modLhs fun x => { x with retries := KMap.put x.retries u (done + 1) }).record u kind .transient (done + 1) loc).retryUnit u
    else n.2.permanent u kind done loc true
  else
    let t := if ok then Nat.min tries lim else lim
    if n.1 then n.2.permanent u kind t loc false
    else if kind = FKind.eccCorr.code then n.2.record u kind .masked 0 loc
    else if ok then n.2.record u kind .transient t loc
    else n.2.permanent u kind t loc false

/-- Remove the first element that satisfies a condition. -/
def dropFirst {α : Type} (p : α → Bool) : List α → List α
  | [] => []
  | a :: r => if p a then r else a :: dropFirst p r

/-- FAULT_REPORT (R600 to R612). A report that stands with Lighthouse is taken from it. -/
def doFaultReport (unit kind loc tries : Nat) (ok : Bool) (s : State) : State :=
  if unitListed unit && decide ((1 ≤ kind ∧ kind ≤ 0x10) ∨ kind = 0x14) then
    ({ s with reports := dropFirst (fun (r : Report) => r.unit == unit && r.kind == kind && r.loc % 2 ^ 32 == loc % 2 ^ 32) s.reports
              }).judge unit kind (loc % 2 ^ 32) tries ok
  else s

/-- FAULT_LOG_POP (R603): a write of LHS_FLT_POP. -/
def doFaultLogPop (w : Writer) (val : Nat) (s : State) : State :=
  let off := Reg.LHS_FLT_POP.off 0
  if !s.mayWrite w off then s
  else if !s.holds w .safety then s.refuse w off
  else
    match s.lhs.flog with
    | r :: rest =>
      if bitAt val 16 && bitsAt val 0 16 == r.time % 65536 then
        s.setting w off val fun s => s.modLhs fun x => { x with flog := if x.flog.head? = some r then rest else x.flog.drop 1 }
      else s
    | [] => s

/-! ### The one test engine (R618 to R623) -/

/-- No self-test starts from NOTIFIED to the end of TRIAL (R686). -/
def State.testHeld (s : State) : Bool := decide (3 ≤ s.rd R.LHS_FW_STAT_STATE 0)

/-- STATE becomes DONE with a RESULT; line 54 latches. -/
def State.testEnd (s : State) (result : Nat) : State :=
  (((s.wr R.LHS_TEST_STAT_STATE 0 4).wr R.LHS_TEST_STAT_RESULT 0 result).modLhs fun x => { x with req := none }).latchLine 54

/-- A unit's test begins with a spare free: its switch-over is queued (R619). -/
def State.testBegin (s : State) (u : Nat) (why : TestWhy) : State :=
  (s.modLhs fun x => { x with test := some ⟨u, why, false, false⟩ }).queueSwitch u

/-- The oldest unit declared dead that is power-gated is tested, when the engine is free (R617, R623). -/
def State.testDead (s : State) : State :=
  if s.lhs.test.isSome || decide (1 ≤ s.rd R.LHS_TEST_STAT_STATE 0 ∧ s.rd R.LHS_TEST_STAT_STATE 0 ≤ 3) || s.testHeld then s
  else
    match s.lhs.dead.find? fun e => e.2.gated with
    | some (u, _) => (s.modLhs fun x => { x with test := some ⟨u, .dead, false, true⟩ }).wr R.LHS_UNIT_STAT_ROLE u 3
    | none => s

/-- A dead unit is power-gated (R617); its self-test follows. -/
def State.gateDead (s : State) (u : Nat) : State :=
  match KMap.find s.lhs.dead u with
  | some d =>
    if d.gated then s
    else (s.modLhs fun x => { x with dead := KMap.put x.dead u { d with gated := true } }).testDead
  | none => s

/-- A request is dropped for its epoch (R646): it counts as a fenced request, and in a mesh quadrant; which one, the spec does not say,
and is a free value. -/
def State.countFenced (s : State) : State := (s.draw.2.count 67 0x04 1).count (49 + s.draw.1 % 4) 0x03 1

/-- FENCED_REQUEST_DROP (R614, R617): a request of a unit that has been replaced carries an old epoch. -/
def doFencedRequestDrop (unit : Nat) (s : State) : State :=
  if unitListed unit && decide (unitTy unit ≤ 2) && s.rd R.LHS_UNIT_STAT_ROLE unit != 0 then
    (((s.countFenced.sat R.LHS_FENCE_CNT_DROPPED 0 1).recordFree unit FKind.fenced.code 0)).gateDead unit
  else s

/-- FENCED_UNIT_GATE (R617): 1 ms after the verdict. -/
def doFencedUnitGate (unit : Nat) (s : State) : State :=
  match KMap.find s.lhs.dead unit with
  | some d =>
    if decide (d.since + 1000000 ≤ s.time) && !s.lhs.swq.contains unit then s.gateDead unit else s
  | none => s

/-- LHS_MISMATCH (R598). -/
def doLhsMismatch (s : State) : State := s.record unitDevice FKind.lhsMismatch.code .transient 0 0

/-- The spare that a switch-over takes; which of several is a free value. -/
def State.pickSpare (s : State) (u : Nat) : Option (Nat × State) :=
  match s.sparesOf u with
  | [] => none
  | [v] => some (v, s)
  | l => (l[s.draw.1 % l.length]?).map fun v => (v, s.draw.2)

/-- Roles, logical unit and epoch move from a unit to its successor (R614): the old unit is under test, or retired. -/
def State.succeed (s : State) (u v : Nat) : State :=
  let tested := match s.lhs.test with
    | some r => r.unit == u
    | none => false
  let s1 := s.wrs v [(R.LHS_UNIT_STAT_ROLE, 0), (R.LHS_UNIT_STAT_LOGICAL, s.rd R.LHS_UNIT_STAT_LOGICAL u),
    (R.LHS_UNIT_STAT_EPOCH, s.rd R.LHS_UNIT_STAT_EPOCH u + 1)]
  let s2 := (s1.wr R.LHS_UNIT_STAT_ROLE u (if tested then 3 else 2)).count 67 0x02 1
  s2.modLhs fun x => { x with
    swq := x.swq.filter fun y => y != u
    test := x.test.map fun r => if r.unit == u then { r with running := true } else r }

/-- The next switch-over of a unit's type (R613 to R616). `lost`: threads, or look-aside jobs, whose state cannot be read out; `lostCtx`:
context records. -/
def State.switchOver (s : State) (unit : Nat) (lost lostCtx : List Nat) : State :=
  let first := s.lhs.swq.find? fun x => unitTy x == unitTy unit
  match first == some unit, s.pickSpare unit with
  | true, some (v, s0) =>
    let l := s.rd R.LHS_UNIT_STAT_LOGICAL unit
    match unitTy unit with
    | 0 =>
      let m := putBits (s.rd R.LTN_CL_MAP_MAP (l / 8)) (4 * (l % 8)) 4 (unitIx v % 9)
      ((s0.succeed unit v).wr R.LTN_CL_MAP_MAP (l / 8) m).restartCore l lost
    | 1 =>
      let s1 := ((s0.succeed unit v).wr R.GLT_CL_STAT_PHYS l (unitIx v)).dropCache l
      lostCtx.foldl (fun s n => s.loseCtx l unit n) (lost.foldl (fun s n => s.loseJob l n) s1)
    | _ =>
      let p := l / 32
      let b := l % 32
      if (s.prism p).hold then s
      else
        let s1 := (s0.succeed unit v).modPrism p fun x => rewriteRows (unitIx v % 33) b (List.range 2048) x
        s1.wr R.PSM_BANK_CFG_PHYS (32 * p + b) (unitIx v % 33)
  | _, _ => s

/-- A request that no test keeps waiting is taken up (R618 to R620). -/
def State.takeRequest (s : State) (u : Nat) : State :=
  if 5 ≤ unitTy u then
    (s.wr R.LHS_TEST_STAT_STATE 0 3).modLhs fun x => { x with req := none, test := some ⟨u, .request, false, true⟩ }
  else if s.rd R.LHS_UNIT_STAT_ROLE u ≠ 0 then s.testEnd 3
  else if s.spareFree u then
    ((s.wr R.LHS_TEST_STAT_STATE 0 3).modLhs fun x => { x with req := none }).testBegin u .request
  else s

/-- TEST_REQUEST (R618 to R620): a write of LHS_TEST_REQ with GO. -/
def doTestRequest (w : Writer) (val : Nat) (s : State) : State :=
  if !s.mayWrite w (Reg.LHS_TEST_REQ.off 0) then s
  else
    let st := s.rd R.LHS_TEST_STAT_STATE 0
    let s1 := s.wrReg w Reg.LHS_TEST_REQ 0 val
    let u := s1.rd R.LHS_TEST_REQ_UNIT 0
    let ty := unitTy u
    if 1 ≤ st ∧ st ≤ 3 then s1.wr R.LHS_TEST_STAT_RESULT 0 4
    else if unitListed u = false ∨ ¬ (ty ≤ 2 ∨ (5 ≤ ty ∧ ty ≤ 7)) ∨ (ty ≤ 2 ∧ s1.rd R.LHS_UNIT_STAT_ROLE u ≠ 0) then s1.testEnd 3
    else
      let q : TestReq := ⟨u, s1.rd R.LHS_TEST_REQ_DEADLINE_S 0, s1.time⟩
      let s2 := (s1.wr R.LHS_TEST_STAT_STATE 0 1).modLhs fun x => { x with req := some q }
      if s2.lhs.test.isSome || s2.testHeld then s2 else s2.takeRequest u

/-- SCHEDULED_TEST (R595, R619): the unit's period has passed and a spare is free. -/
def doScheduledTest (unit : Nat) (s : State) : State :=
  let st := s.rd R.LHS_TEST_STAT_STATE 0
  let due := KMap.getD s.lhs.lastTest unit 0 + s.rd R.LHS_TEST_SCHED_PERIOD_H 0 * hourNs ≤ s.time
  if unitListed unit && decide (unitTy unit ≤ 2) && s.flag R.LHS_TEST_SCHED_EN 0 && decide due
      && s.rd R.LHS_UNIT_STAT_ROLE unit == 0 && !(decide (1 ≤ st ∧ st ≤ 3)) && s.lhs.test.isNone && !s.testHeld
      && !s.lhs.swq.contains unit && s.spareFree unit then
    s.testBegin unit .schedule
  else s

/-- TEST_SPARE_FREE (R618, R620): the request that waits is taken up. -/
def doTestSpareFree (s : State) : State :=
  match s.lhs.req with
  | some q => if s.lhs.test.isSome || s.testHeld then s else s.takeRequest q.unit
  | none => s

/-- TEST_DEADLINE (R620, R621): with no spare by the deadline, the unit's work is shed, or the request ends with NO_SPARE. -/
def doTestDeadline (s : State) : State :=
  match s.lhs.req with
  | none => s
  | some q =>
    if s.time < q.asked + q.deadline * 1000000000 ∨ s.lhs.test.isSome = true ∨ s.testHeld = true then s
    else if 5 ≤ unitTy q.unit ∨ s.rd R.LHS_UNIT_STAT_ROLE q.unit ≠ 0 ∨ s.spareFree q.unit = true then s.takeRequest q.unit
    else
      let u := q.unit
      let l := s.rd R.LHS_UNIT_STAT_LOGICAL u
      let shed := fun (s : State) =>
        ((s.wr R.LHS_TEST_STAT_STATE 0 2).wr R.LHS_UNIT_STAT_ROLE u 3).modLhs fun x =>
          { x with req := none, test := some ⟨u, .request, true, true⟩ }
      match unitTy u with
      | 0 => match s.migrate l with
        | some s1 => shed s1
        | none => s.testEnd 2
      | 1 => shed (s.spreadGlint l)
      | _ =>
        if s.dupGood (l / 32) (l % 32) then
          shed (s.modPrism (l / 32) fun x => { x with outOf := addOnce (l % 32) x.outOf })
        else s.testEnd 2

/-- A unit whose work was shed returns to service. -/
def State.backInService (s : State) (u : Nat) : State :=
  let l := s.rd R.LHS_UNIT_STAT_LOGICAL u
  let s1 := s.wr R.LHS_UNIT_STAT_ROLE u 0
  match unitTy u with
  | 0 => s1.migrateBack l
  | 1 => s1.wr R.GLT_CL_STAT_OUT l 0
  | _ => s1.modPrism (l / 32) fun x => { x with outOf := x.outOf.filter fun b => b != l % 32 }

/-- A unit becomes the spare in umbra. -/
def State.enrol (s : State) (u : Nat) : State :=
  (s.wrs u [(R.LHS_UNIT_STAT_ROLE, 1), (R.LHS_UNIT_STAT_LOGICAL, 0)]).modLhs fun x => { x with retries := KMap.del x.retries u }

/-- The outcome of a test for its unit (R610, R611, R619, R620, R623). -/
def State.testOutcome (s : State) (r : TestRun) (pass : Bool) : State :=
  let u := r.unit
  let fail := fun (s : State) (v : Verdict) =>
    ((s.record u FKind.selftest.code v 0 0).declareDead u FKind.selftest.code 0 false false).wr R.LHS_UNIT_STAT_ROLE u 2
  if r.shed then (if pass then s.backInService u else (fail s .degraded).degrade u)
  else
    match r.why, KMap.find s.lhs.dead u with
    | .dead, some d =>
      let s1 := s.modLhs fun x => { x with dead := KMap.del x.dead u }
      if pass && !d.twice then
        let s2 := s1.enrol u
        if d.stop then s2.record u d.kind .transient 0 d.loc else s2
      else
        let s2 := s1.wr R.LHS_UNIT_STAT_ROLE u 2
        if pass then s2 else s2.record u FKind.selftest.code .permanent 0 0
    | _, _ => if pass then s.enrol u else fail s .permanent

/-- TEST_DONE (R606, R619, R623): the offline test that runs ends. -/
def doTestDone (pass : Bool) (s : State) : State :=
  match s.lhs.test with
  | none => s
  | some r =>
    if r.running = false ∨ 5 ≤ unitTy r.unit ∨ s.rd R.LHS_TEST_STAT_STATE 0 = 2 then s
    else
      let s1 := (s.modLhs fun x => { x with test := none, lastTest := KMap.put x.lastTest r.unit s.time }).testOutcome r pass
      let s2 := if r.why = .request then s1.testEnd (if pass then 0 else 1) else s1
      let s3 := if unitTy r.unit = 0 ∧ r.why ≠ .dead then s2.tellCore (s.rd R.LHS_UNIT_STAT_LOGICAL r.unit) else s2
      s3.testDead

/-- LANE_RECALIBRATE (R624): hourly, after a change of temperature (`warm`), or on request. -/
def doLaneRecalibrate (unit : Nat) (warm ok : Bool) (s : State) : State :=
  let asked := match s.lhs.test with
    | some r => r.unit == unit
    | none => false
  let due := decide (KMap.getD s.lhs.lastTest unit 0 + hourNs ≤ s.time)
  if unitListed unit && decide (5 ≤ unitTy unit ∧ unitTy unit ≤ 7) && (asked || warm || due) then
    let s1 := s.modLhs fun x => { x with lastTest := KMap.put x.lastTest unit s.time }
    let per := if unitTy unit = 7 then 16 else 4
    let s2 := if ok then s1 else s1.report unit .calibration (unitIx unit % per)
    if asked then ((s2.modLhs fun x => { x with test := none }).testEnd (if ok then 5 else 1)).testDead else s2
  else s

/-! ### Fade monitors and margin re-planning (R625 to R627, R719, R720) -/

/-- Unit ID of an island. -/
def islandUnit (i : Nat) : Nat := unitId 16 i

/-- The island's clock may be lowered, and its lowest clock in 25 MHz units (R625). -/
def canLower (i : Nat) : Bool := decide (i < 12 ∨ (17 ≤ i ∧ i ≤ 20))
def lowestClock (i : Nat) : Nat := if i < 12 then 64 else 48

/-- A record of KIND MARGIN, charged to the island. -/
def State.marginNote (s : State) (i : Nat) (v : Verdict) : State := s.record (islandUnit i) FKind.margin.code v 0 0

/-- The code that the highest island setting asks for, with island `i` at `v` mV (R719). Before a setting is known the code stays at 60. -/
def State.codeFor (s : State) (i v : Nat) : Nat :=
  let top := (List.range 40).foldl (fun m k => Nat.max m (if k = i then v else s.rd R.LHS_PLAN_VSET_MV k)) 0
  if top = 0 then 60 else Nat.max 24 (Nat.min 76 ((Nat.min (top + 20) 880 - 500 + 4) / 5))

/-- Drive a code on VID. -/
def State.driveVid (s : State) (code : Nat) : State :=
  if s.rd R.PWR_VID_CODE 0 = code then s else (s.wr R.PWR_VID_CODE 0 code).emit (.vid code)

/-- The code follows the island settings as they stand. -/
def State.settleVid (s : State) : State := s.driveVid (s.codeFor 0 (s.rd R.LHS_PLAN_VSET_MV 0))

/-- The next reading of the sensor: with no more given, the last one stands. -/
def nextSlack (cur : Int) : List Int → Int × List Int
  | [] => (cur, [])
  | a :: r => (a, r)

/-- Keep a reading in SLACK_PS. -/
def State.putSlack (s : State) (i : Nat) (x : Int) : State := s.wr R.LHS_FADE_SLACK_PS i (toSigned 12 x)

/-- The first loop of R626: the supply rises by steps. A step for which the code must rise waits for VR_READY (R720); without it the
re-plan ends there, and the island waits for VR_TIMEOUT. -/
def State.raiseLoop (i : Nat) (low : Int) (vrOk : Bool) : Nat → Int → List Int → State → Option (Int × List Int) × State
  | 0, x, l, s => (some (x, l), s)
  | n + 1, x, l, s =>
    let v := s.rd R.LHS_PLAN_VSET_MV i + 10
    if x < low ∧ v ≤ 880 then
      let code := s.codeFor i v
      let up := decide (s.rd R.PWR_VID_CODE 0 < code)
      let s1 := if up then (s.driveVid code).wr R.PWR_VID_VR_READY 0 (b2n vrOk) else s
      if up && !vrOk then (none, s1.modLhs fun y => { y with vrWait := some (i, s.time) })
      else
        let s2 := (s1.wrs i [(R.LHS_PLAN_VSET_MV, v), (R.LHS_PLAN_STATE, 1)]).marginNote i .masked
        let nx := nextSlack x l
        State.raiseLoop i low vrOk n nx.1 nx.2 (s2.putSlack i nx.1)
    else (some (x, l), s)

/-- The second loop of R626: the clock falls by steps. -/
def State.clockLoop (i : Nat) (low : Int) : Nat → Int → List Int → State → Int × State
  | 0, x, _, s => (x, s)
  | n + 1, x, l, s =>
    let f := s.rd R.LHS_PLAN_FMAX i
    if x < low ∧ canLower i = true ∧ lowestClock i < f then
      let s1 := (s.wrs i [(R.LHS_PLAN_FMAX, f - 1), (R.LHS_PLAN_STATE, 2)]).marginNote i .masked
      let nx := nextSlack x l
      State.clockLoop i low n nx.1 nx.2 (s1.putSlack i nx.1)
    else (x, s)

/-- Retire the units of an island for good, spares included, with no spare to take their place (R627). -/
def State.retireAll (s : State) (us : List Nat) : State :=
  us.foldl (fun s u =>
    match s.rd R.LHS_UNIT_STAT_ROLE u with
    | 0 => s.retireAlone u 0
    | 1 => (s.degrade u).wr R.LHS_UNIT_STAT_ROLE u 2
    | _ => s) s

/-- Retire Glint clusters whose spares lie outside the island (R627): spares take the places of the first ones. -/
def State.retireSome (s : State) (us : List Nat) : State :=
  us.foldl (fun s u =>
    if s.rd R.LHS_UNIT_STAT_ROLE u = 0 then
      if s.spareFree u then (s.declareDead u FKind.margin.code 0 false true).queueSwitch u
      else s.retireAlone u 0
    else s) s

/-- Physical Glint clusters of islands 17 to 20 (R625). -/
def glintIsland (i : Nat) : List Nat :=
  (match i with
    | 17 => List.range 9
    | 18 => (List.range 8).map fun k => 9 + k
    | 19 => (List.range 9).map fun k => 17 + k
    | _ => (List.range 8).map fun k => 26 + k).map fun k => unitId 1 k

/-- MARGIN_LOST (R627). -/
def State.marginLost (s : State) (i : Nat) : State :=
  let s1 := (s.wrs i [(R.LHS_PLAN_STATE, 3), (R.LHS_PLAN_VSET_MV, 880)]).settleVid
  let s2 := if canLower i then s1.wr R.LHS_PLAN_FMAX i (lowestClock i) else s1
  let s3 := (s2.marginNote i .permanent).settleCond
  if i < 12 then
    (((List.range 8).map fun k => 8 * i + k).foldl (fun s c => s.gateCore c true) s3).retireAll ((List.range 9).map fun k => unitId 0 (9 * i + k))
  else if i = 20 then s3.retireAll (glintIsland i)
  else if 17 ≤ i ∧ i ≤ 19 then s3.retireSome (glintIsland i)
  else s3.degrade (islandUnit i)

/-- EV3 of t0 of every core of a cluster whose clock limit has changed (R606). -/
def State.tellClock (s : State) (i old : Nat) : State :=
  if i < 12 ∧ s.rd R.LHS_PLAN_FMAX i ≠ old then ((List.range 8).map fun k => 8 * i + k).foldl State.tellCore s else s

/-- One reading and the re-plan of R626. -/
def State.fade (s : State) (i : Nat) (slacks : List Int) (ro : Nat) (vrOk : Bool) : State :=
  match slacks with
  | [] => s
  | x :: l =>
    let low : Int := s.rd R.LHS_FADE_CFG_GUARD_PS 0
    let high : Int := low + s.rd R.LHS_FADE_CFG_HYST_PS 0
    let f0 := s.rd R.LHS_PLAN_FMAX i
    let s1 := ((s.putSlack i x).wrs i [(R.LHS_FADE_RO_MHZ, ro), (R.LHS_FADE_HOURS, s.time / hourNs)]).modLhs fun y =>
      { y with fadeAt := KMap.put y.fadeAt i s.time }
    if x < low then
      match State.raiseLoop i low vrOk 89 x l s1 with
      | (none, s2) => s2
      | (some (y, r), s2) =>
        let z := State.clockLoop i low 256 y r s2
        let s3 := if z.1 < low then z.2.marginLost i else z.2
        s3.tellClock i f0
    else
      let v := s1.rd R.LHS_PLAN_VSET_MV i
      if high ≤ x ∧ s1.rd R.LHS_PLAN_VFLOOR_MV i + 10 ≤ v then
        ((s1.wr R.LHS_PLAN_VSET_MV i (v - 10)).settleVid).marginNote i .masked
      else s1

/-- The islands are powered, and none waits for the regulator. -/
def State.fadeReady (s : State) : Bool := s.pwr.mainPg && s.lhs.vrWait.isNone

/-- FADE_READING (R626, R627): once per hour of operation. -/
def doFadeReading (island : Nat) (slacks : List Int) (ro : Nat) (vrOk : Bool) (s : State) : State :=
  if island < 40 ∧ KMap.getD s.lhs.fadeAt island 0 + hourNs ≤ s.time ∧ s.fadeReady = true then s.fade island slacks ro vrOk else s

/-- FADE_RUN (R626, R627): a write of LHS_FADE_CFG with RUN. -/
def doFadeRun (w : Writer) (val : Nat) (readings : List (List Int)) (ros : List Nat) (vrOk : Bool) (s : State) : State :=
  if s.mayWrite w (Reg.LHS_FADE_CFG.off 0) then
    let s1 := s.wrLocked w Reg.LHS_FADE_CFG 0 val
    (List.range 40).foldl (fun s i => if s.fadeReady then s.fade i (readings.getD i []) (ros.getD i 0) vrOk else s) s1
  else s

/-- The plan of an island in OTP field FADE_PLAN: VSET_MV, VFLOOR_MV and FMAX in 28 bits an island (log entry 12). -/
def State.otpPlan (s : State) (i : Nat) : Nat × Nat × Nat :=
  let v := bitsAt ((s.otpField 8).getD 0) (28 * i) 28
  (bitsAt v 0 10, bitsAt v 10 10, bitsAt v 20 8)

/-- PLAN_RESET (R626): RESET_PLAN of LHS_PLAN_i. -/
def doPlanReset (w : Writer) (island : Nat) (s : State) : State :=
  let off := Reg.LHS_PLAN.off island
  if island < 40 ∧ s.mayWrite w off = true then
    if s.holds w .maker then
      s.setting w off (2 ^ 30) fun s =>
        let p := s.otpPlan island
        let s1 := (s.wrs island [(R.LHS_PLAN_VSET_MV, p.1), (R.LHS_PLAN_FMAX, p.2.2), (R.LHS_PLAN_STATE, 0)]).settleVid
        (s1.tellClock island (s.rd R.LHS_PLAN_FMAX island)).settleCond
    else s.refuse w off
  else s

/-! ### The meanings of the rows -/

/-- FENCED_REQUEST_DROP (R614). -/
def execFencedRequestDrop (unit : Nat) (s : State) : Host.Outcome State Fault Refusal :=
  .next (s.after (doFencedRequestDrop unit s))

/-- FAULT_REPORT (R600). -/
def execFaultReport (unit : Nat) (kind : Nat) (loc : Nat) (tries : Nat) (ok : Bool) (s : State) :
    Host.Outcome State Fault Refusal :=
  .next (s.after (doFaultReport unit kind loc tries ok s))

/-- FAULT_LOG_POP (R603). -/
def execFaultLogPop (w : Writer) (val : Nat) (s : State) : Host.Outcome State Fault Refusal :=
  .next (s.after (doFaultLogPop w val s))

/-- FENCED_UNIT_GATE (R617). -/
def execFencedUnitGate (unit : Nat) (s : State) : Host.Outcome State Fault Refusal :=
  .next (s.after (doFencedUnitGate unit s))

/-- LHS_MISMATCH (R598). -/
def execLhsMismatch (s : State) : Host.Outcome State Fault Refusal :=
  .next (s.after (doLhsMismatch s))

/-- TEST_REQUEST (R618). -/
def execTestRequest (w : Writer) (val : Nat) (s : State) : Host.Outcome State Fault Refusal :=
  .next (s.after (doTestRequest w val s))

/-- SCHEDULED_TEST (R619). -/
def execScheduledTest (unit : Nat) (s : State) : Host.Outcome State Fault Refusal :=
  .next (s.after (doScheduledTest unit s))

/-- TEST_SPARE_FREE (R620). -/
def execTestSpareFree (s : State) : Host.Outcome State Fault Refusal :=
  .next (s.after (doTestSpareFree s))

/-- TEST_DEADLINE (R620). -/
def execTestDeadline (s : State) : Host.Outcome State Fault Refusal :=
  .next (s.after (doTestDeadline s))

/-- TEST_DONE (R619). -/
def execTestDone (pass : Bool) (s : State) : Host.Outcome State Fault Refusal :=
  .next (s.after (doTestDone pass s))

/-- LANE_RECALIBRATE (R624). -/
def execLaneRecalibrate (unit : Nat) (warm : Bool) (ok : Bool) (s : State) : Host.Outcome State Fault Refusal :=
  .next (s.after (doLaneRecalibrate unit warm ok s))

/-- FADE_READING (R626). -/
def execFadeReading (island : Nat) (slacks : List Int) (ro : Nat) (vrOk : Bool) (s : State) :
    Host.Outcome State Fault Refusal :=
  .next (s.after (doFadeReading island slacks ro vrOk s))

/-- FADE_RUN (R626). -/
def execFadeRun (w : Writer) (val : Nat) (readings : List (List Int)) (ros : List Nat) (vrOk : Bool) (s : State) :
    Host.Outcome State Fault Refusal :=
  .next (s.after (doFadeRun w val readings ros vrOk s))

/-- PLAN_RESET (R626). -/
def execPlanReset (w : Writer) (island : Nat) (s : State) : Host.Outcome State Fault Refusal :=
  .next (s.after (doPlanReset w island s))

end Sys2Proof.Machine
end

