-- ==== Sys2Proof/Machine/Security.lean ====
section
/-!
DEFINITION. The commands of 16_security_lifecycle.md that do not belong to the boot chain: signed objects, role commands, the change log,
root keys, firmware activation, the identity record and measurements, and SPDM.
-/

namespace Sys2Proof.Machine

/-! ### Signed objects (R661 to R663, R668) -/

/-- The number in `n` bytes of an object from `off`. -/
def obNat (o : Bytes) (off n : Nat) : Nat := leVal (sliceB o off n)

/-- Fields of the header (R661). -/
def obKind (o : Bytes) : Nat := obNat o 5 1
def obSigner (o : Bytes) : Nat := obNat o 6 1
def obSvn (o : Bytes) : Nat := obNat o 8 4
def obFloor (o : Bytes) : Nat := obNat o 12 4
def obLoad (o : Bytes) : Nat := obNat o 24 8
def obEntry (o : Bytes) : Nat := obNat o 32 8
def obLen (o : Bytes) : Nat := obNat o 40 4
def obHash (o : Bytes) : Bytes := sliceB o 112 64
def obBody (o : Bytes) : Bytes := (o.drop 256).take (obLen o)

/-- Where the signature begins, and the bytes of the whole object. -/
def obSigAt (o : Bytes) : Nat := 256 + (obLen o + 15) / 16 * 16
def obSize (o : Bytes) : Nat := obSigAt o + 29792

/-- The outcomes of verifying and performing (R662, R670). -/
inductive VRes where
  | ok | badFormat | badSignature | unknownKey | stale | wrongDevice | notPermitted | otpExhausted | logFull | burnFailed | transport
  | rollback
  deriving DecidableEq, Repr

/-- RESULT of LHS_MBOX_CTL. -/
def VRes.mbox : VRes → Nat
  | .ok => 0 | .badFormat => 1 | .badSignature => 2 | .unknownKey => 3 | .stale => 4 | .wrongDevice => 5 | .notPermitted => 6
  | .otpExhausted => 7 | .logFull => 8 | .burnFailed => 9 | .transport => 10 | .rollback => 11

/-- RESULT of LHS_FW_STAT; an outcome that the field has no code for shows as a free value. -/
def VRes.fw (r : VRes) (free : Nat) : Nat :=
  match r with
  | .ok => 0 | .badFormat => 1 | .badSignature => 2 | .unknownKey => 3 | .wrongDevice => 4 | .notPermitted => 5 | .rollback => 6
  | _ => free % 16

/-- Check 1 of R662: MAGIC, FORMAT, zero bytes, a KIND that is not reserved, and an object that is whole. -/
def obForm (o : Bytes) : Bool :=
  let k := obKind o
  let zero := fun (off n : Nat) => obNat o off n == 0
  obNat o 0 4 == 0x4D494C47 && obNat o 4 1 == 1 && decide (1 ≤ k ∧ k ≤ 5) && zero 7 1 && zero 44 4 && zero 208 48
    && decide (obSize o ≤ o.length) && zero (256 + obLen o) (obSigAt o - 256 - obLen o)
    && (decide (k ≤ 2) || zero 12 4) && (k == 2 || (zero 24 8 && zero 32 8)) && (k == 5 || zero 176 32)

/-- OWN_FW (R659). -/
def State.ownFw (s : State) : Bool := (s.otpField 0xB).getD 0 == 1

/-- A role may sign a kind (R663). -/
def State.maySign (s : State) (role kind : Nat) : Bool :=
  match kind with
  | 1 => role == 0
  | 2 => role == 0 || (decide (role ≤ 2) && s.ownFw)
  | 3 => role == 1
  | 4 => role == 2
  | _ => decide (role ≤ 2)

/-- The floor counter of a kind (R659). -/
def floorOf (kind : Nat) : Nat := 0x20 + kind

/-- LHS_NONCE as bytes. -/
def State.nonce (s : State) : Bytes := (List.range 4).flatMap fun k => leBytes 8 (s.rd R.LHS_NONCE_NONCE k)

/-- LHS_NONCE takes 32 fresh bytes from the service DRBG (R670). -/
def State.freshNonce (s : State) : State :=
  let d := s.drbg 32
  (List.range 4).foldl (fun s k => s.wr R.LHS_NONCE_NONCE k (leVal (sliceB d.1 (8 * k) 8))) d.2

/-- Verify an object (R662). -/
def State.verify (s : State) (o : Bytes) : VRes :=
  let k := obKind o
  let ser := obNat o 16 8
  let pub := sliceB o 48 64
  if !obForm o then .badFormat
  else if !s.maySign (obSigner o) k then .notPermitted
  else if s.otpField (2 + obSigner o) ≠ some (leVal (shake256 pub 32)) then .unknownKey
  else if ser ≠ s.serial ∧ (ser ≠ 0 ∨ k = 5) then .wrongDevice
  else if k = 5 ∧ sliceB o 176 32 ≠ s.nonce then .stale
  else if k ≠ 5 ∧ obSvn o < s.counter (floorOf k) then .rollback
  else if shake256 (obBody o) 64 ≠ obHash o then .badFormat
  else if !Config.slhValid pub (o.take 256) (ascii "ELVUM" ++ leBytes 1 k) (sliceB o (obSigAt o) 29792) then .badSignature
  else .ok

/-- Where device firmware is loaded and entered is in order (R661, R668). -/
def State.fwPlace (s : State) (o : Bytes) : Bool :=
  obLoad o % 4096 == 0 && inHbm s.part (obLoad o) (obLen o) && decide (obLoad o ≤ obEntry o ∧ obEntry o < obLoad o + obLen o)

/-- Verify an object that is to be of a kind, or any of KIND 1 to 5 when `kind` is 0; device firmware also under R668. -/
def State.verifyAs (s : State) (kind : Nat) (o : Bytes) : VRes :=
  match s.verify o with
  | .ok =>
    if kind ≠ 0 ∧ obKind o ≠ kind then .badFormat
    else if obKind o = 2 ∧ s.fwPlace o = false then .badFormat
    else .ok
  | r => r

/-! ### Root keys and the key store (R369, R679 to R681) -/

/-- The key store in force: the copy with the higher version. -/
def State.keyStore (s : State) : Option (Nat × KeyStore) :=
  s.sec.store.foldl (fun (m : Option (Nat × KeyStore)) e => match m with
    | some x => if x.2.version < e.2.version then some e else some x
    | none => some e) none

/-- The slot is held in the key store. -/
def State.persistent (s : State) (slot : Nat) : Bool :=
  match s.keyStore with
  | some (_, k) => (KMap.find k.keys slot).isSome
  | none => false

/-- Write the older copy of the key store with a new set of keys. -/
def State.putStore (s : State) (f : KMap Bytes → KMap Bytes) : State :=
  let a := s.counter ctrAnchor
  match s.keyStore with
  | some (c, k) => s.modSec fun x => { x with store := KMap.put x.store (1 - c) ⟨k.version + 1, a, f k.keys⟩ }
  | none => s.modSec fun x => { x with store := KMap.put x.store 0 ⟨1, a, f []⟩ }

/-- Erase a slot: recorded, emptied, and overwritten in both copies of the key store (R674, R679). -/
def State.eraseKey (s : State) (slot actor : Nat) : State :=
  let p := s.persistent slot
  let s1 := (s.logAppend 0x09 actor [slot, (s.rd R.GLT_ROOT_GEN slot + 1) % 65536] p).eraseSlot slot
  if p then
    let s2 := s1.putStore fun m => KMap.del m slot
    s2.modSec fun x => { x with store := x.store.map fun (e : Nat × KeyStore) => (e.1, { e.2 with keys := KMap.del e.2.keys slot }) }
  else s1

/-- The slots that hold a key. -/
def State.fullSlots (s : State) : List Nat :=
  (List.range 16).filter fun k => s.rd R.GLT_ROOT_STATE k != 0 || s.persistent k

/-- Every root-key slot and the key store are erased (R647, R653). -/
def State.eraseAll (s : State) (actor : Nat) : State := s.fullSlots.foldl (fun s k => s.eraseKey k actor) s

/-- Load a slot, with its record, and the key store as well when it is to persist (R679, R681). -/
def State.loadKey (s : State) (slot actor : Nat) (persist : Bool) (key : Bytes) : State :=
  let s1 := (s.logAppend 0x08 actor [slot, (s.rd R.GLT_ROOT_GEN slot + 1) % 65536] false).loadSlot slot key
  if persist then s1.putStore fun m => KMap.put m slot key else s1

/-! ### OTP burns (R656 to R659) -/

/-- The slot that the next burn of a field takes (R657). UDS has one slot. -/
def State.otpFree (s : State) (f : Nat) : Option Nat :=
  let used := (List.range 4).foldl (fun m k => if (s.otpSlot f k).written then k + 1 else m) 0
  if used < 4 then some used else none

/-- Burn a field (R658): recorded, burned, and read back; `bad`: the slot fails its check. -/
def State.burn (s : State) (f v actor : Nat) (bad : Bool) : State :=
  match s.otpFree f with
  | none => s
  | some k =>
    let x := v % 2 ^ otpBits f
    let c := otpCheck f k x
    let slot : OtpSlot := ⟨x, true, if bad then (c + 1) % 65536 else c⟩
    (s.logAppend 0x02 actor [f, k] true).modSec fun y => { y with otp := KMap.put y.otp (4 * f + k) slot }

/-- Raise a floor counter, with its FLOOR record (R659, R674). -/
def State.raiseFloor (s : State) (f v actor : Nat) : State :=
  if s.counter f < v then (s.logAppend 0x05 actor [f, v] true).raise f v else s

/-! ### Rights (R651, R653) -/

/-- Extend measurement 6 by accessor and granting role (R653, R689). -/
def State.extend6 (s : State) (acc role : Nat) : State :=
  s.modSec fun x => { x with meas := KMap.put x.meas 6 (shake256 (KMap.getD x.meas 6 (zeros 64) ++ leBytes 1 acc ++ leBytes 1 role) 64) }

/-- A grant takes effect: recorded first; one of debug is measured, and by the maker erases every key before (R651, R653). -/
def State.grantRights (s : State) (acc mask role actor : Nat) : State :=
  let debug := bitAt mask 3
  let s1 := if debug && role == 0 then s.eraseAll actor else s
  let s2 := s1.logAppend 0x06 actor [acc, mask] false
  let s3 := s2.wr R.LHS_RIGHTS_RIGHTS acc (s2.rd R.LHS_RIGHTS_RIGHTS acc ||| mask)
  if debug then s3.extend6 acc role else s3

/-- A revoke takes effect. -/
def State.revokeRights (s : State) (acc mask actor : Nat) : State :=
  let s1 := s.logAppend 0x06 actor [acc, mask] false
  s1.wr R.LHS_RIGHTS_RIGHTS acc (clearMask (s1.rd R.LHS_RIGHTS_RIGHTS acc) mask)

/-! ### Role commands (R670 to R672) -/

/-- What the checks of a command keep from one operation to the next: fields burned, LIFE, records and anchored records still possible,
BROKEN, and slots filled. -/
structure CmdSim where
  burns  : List Nat
  life   : Nat
  room   : Nat
  anchor : Nat
  broken : Bool
  slots  : List Nat
  deriving DecidableEq, Repr

/-- Fields of an operation (R671). -/
def opArg (o : Bytes) (k : Nat) : Nat := obNat o k 1
def opArg32 (o : Bytes) : Nat := obNat o 4 4

/-- A command needs `n` records, of which `a` are anchored. -/
def CmdSim.take (x : CmdSim) (n a : Nat) : VRes ⊕ CmdSim :=
  if x.broken = true ∨ x.room < n ∨ x.anchor < a then .inl .logFull
  else .inr { x with room := x.room - n, anchor := x.anchor - a }

/-- A field has a slot left after the burns before it. -/
def State.otpRoom (s : State) (x : CmdSim) (f : Nat) : Bool :=
  match s.otpFree f with
  | some k => decide (k + (x.burns.filter fun g => g == f).length < 4)
  | none => false

/-- A role may burn a field by BURN (R659); `none`: no such field. -/
def mayBurn (role f : Nat) : Option Bool :=
  match f with
  | 2 | 6 | 7 | 8 => some (role == 0)
  | 3 => some (decide (role ≤ 1))
  | 4 => some (role == 1 || role == 2)
  | 9 | 10 | 11 => some (role == 1)
  | 1 | 5 | 0x20 | 0x21 | 0x22 | 0x23 | 0x24 => some false
  | _ => none

/-- The rights of a mask that a role may grant. -/
def grantable (role mask : Nat) : Nat :=
  [Right.manager, .safety, .keys, .debug, .installer, .maker].foldl
    (fun v r => if bitAt mask r.bit && mayGrant role r then orBit v r.bit else v) 0

/-- Records that erasing every key takes, and the anchored ones among them. -/
def State.eraseCost (s : State) : Nat × Nat := (s.fullSlots.length, (s.fullSlots.filter s.persistent).length)

/-- The checks of one operation (R671, R672). `free`: the code for a load into a slot that is not EMPTY, which RESULT has no code for. -/
def State.opCheck (s : State) (role : Nat) (smbus : Bool) (free : VRes) (x : CmdSim) (o : Bytes) : VRes ⊕ CmdSim :=
  let a := opArg o 1
  let v := opArg32 o
  let mine := s.eraseCost
  if obNat o 8 24 ≠ 0 then .inl .badFormat
  else
    match opArg o 0 with
    | 0x01 =>
      if 10 < a ∨ 64 ≤ v then .inl .badFormat
      else if grantable role v ≠ v then .inl .notPermitted
      else if bitAt v 3 && role == 0 then x.take (1 + mine.1) mine.2
      else x.take 1 0
    | 0x02 => if 10 < a ∨ 64 ≤ v then .inl .badFormat else x.take 1 0
    | 0x03 =>
      if 2 < a then .inl .badFormat
      else if !(role == 0 || (role == 1 && decide (1 ≤ a)) || (role == 2 && a == 2)) then .inl .notPermitted
      else if !s.otpRoom x (2 + a) then .inl .otpExhausted
      else { x with burns := x.burns ++ [2 + a] }.take 2 2
    | 0x04 =>
      match mayBurn role v with
      | none => .inl .badFormat
      | some false => .inl .notPermitted
      | some true => if !s.otpRoom x v then .inl .otpExhausted else { x with burns := x.burns ++ [v] }.take 1 1
    | 0x05 =>
      if role ≠ 0 then .inl .notPermitted
      else if 3 < a ∨ a ≤ x.life then .inl .badFormat
      else if !s.otpRoom x 1 then .inl .otpExhausted
      else
        let k := if 2 ≤ a then mine else (0, 0)
        { x with burns := x.burns ++ [1], life := a }.take (2 + k.1) (2 + k.2)
    | 0x06 =>
      if a < 0x20 ∨ 0x24 < a then .inl .badFormat
      else if !((role == 0 && (a == 0x21 || a == 0x22)) || (role == 1 && a == 0x23) || (role == 2 && a == 0x24)) then .inl .notPermitted
      else if (if a ≤ 0x22 then 128 else 64) < v then .inl .otpExhausted
      else x.take 1 1
    | 0x07 =>
      if role ≠ 2 then .inl .notPermitted
      else if !smbus then .inl .transport
      else if 16 ≤ a then .inl .badFormat
      else if s.rd R.GLT_ROOT_STATE a ≠ 0 ∨ x.slots.contains a = true then .inl free
      else { x with slots := x.slots ++ [a] }.take 1 0
    | 0x08 =>
      if role = 0 then .inl .notPermitted
      else if x.anchor = 0 then .inl .logFull
      else .inr { x with room := logMax - 1, anchor := x.anchor - 1, broken := false }
    | _ => .inl .badFormat
/-- Check the operations from number `k` on: the first that fails, with its outcome. -/
def State.opsCheck (s : State) (role : Nat) (smbus : Bool) (free : VRes) : List Bytes → Nat → CmdSim → Option (VRes × Nat)
  | [], _, _ => none
  | o :: r, k, x =>
    match s.opCheck role smbus free x o with
    | .inl e => some (e, k)
    | .inr y => State.opsCheck s role smbus free r (k + 1) y

/-- COMPACT (R678): one GENESIS record takes the place of the log. -/
def State.compact (s : State) (actor : Nat) : State :=
  let n := s.sec.log.length
  ((s.modSec fun x => { x with log := [] }).wr R.LHS_LOG_STAT_BROKEN 0 0).logAppend 0x0F actor [n] true

/-- Perform one operation (R671, R672); the answer says whether a burn failed. -/
def State.opRun (s : State) (role actor : Nat) (bad : Bool) (o : Bytes) : Bool × State :=
  let a := opArg o 1
  let v := opArg32 o
  match opArg o 0 with
  | 0x01 => (false, s.grantRights a v role actor)
  | 0x02 => (false, s.revokeRights a v actor)
  | 0x03 => (bad, (s.logAppend 0x03 actor [2 + a] true).burn (2 + a) (leVal (sliceB o 32 32)) actor bad)
  | 0x04 => (bad, s.burn v (leVal (o.drop 32)) actor bad)
  | 0x05 =>
    let s1 := if 2 ≤ a then s.eraseAll actor else s
    (bad, (s1.logAppend 0x04 actor [a] true).burn 1 a actor bad)
  | 0x06 => (false, s.raiseFloor a v actor)
  | 0x07 => (false, s.loadKey a actor (bitAt (opArg o 2) 0) (sliceB o 32 32))
  | 0x08 => (false, s.compact actor)
  | _ => (false, s)

/-- Perform the operations from number `k` on; a burn that fails ends the command. -/
def State.opsRun (role actor : Nat) (burnFails : List Nat) : List Bytes → Nat → State → (VRes × Nat) × State
  | [], _, s => ((.ok, 0), s)
  | o :: r, k, s =>
    match s.opRun role actor (burnFails.contains k) o with
    | (true, s1) => ((.burnFailed, k), s1)
    | (false, s1) => State.opsRun role actor burnFails r (k + 1) s1

/-- The operations of a command body. -/
def opList (body : Bytes) : List Bytes := (List.range (body.length / 128)).map fun k => sliceB body (128 * k) 128

/-- A role command runs (R670 to R672): the outcome with the operation at which it arose. -/
def State.runCommand (s : State) (o : Bytes) (via : Option Bool) (burnFails : List Nat) : (VRes × Nat) × State :=
  let role := obSigner o
  let actor := if via.isSome then 10 else 0xF1 + role
  let body := obBody o
  match s.verifyAs 5 o with
  | .ok =>
    if body.length % 128 ≠ 0 ∨ body.length = 0 ∨ 4096 < body.length then ((.badFormat, 0), s)
    else
      let codes : List VRes := [.badFormat, .badSignature, .unknownKey, .stale, .wrongDevice, .notPermitted, .otpExhausted, .logFull,
        .burnFailed, .transport, .rollback]
      let free := codes.getD (s.draw.1 % 11) .badFormat
      let x : CmdSim := ⟨[], s.life, logMax - s.sec.log.length, 2048 - s.counter ctrAnchor, s.flag R.LHS_LOG_STAT_BROKEN 0, []⟩
      match s.opsCheck role (via == some true) free (opList body) 0 x with
      | some e => (e, s.draw.2)
      | none => State.opsRun role actor burnFails (opList body) 0 s.draw.2.freshNonce
  | r => ((r, 0), s)

/-- Bytes of LHS_MBOX_BUF. -/
def State.mbox (s : State) (off n : Nat) : Bytes :=
  (List.range n).map fun k => BitVec.ofNat 8 (bitsAt (s.rd R.LHS_MBOX_BUF_DATA ((off + k) / 8)) (8 * ((off + k) % 8)) 8)

/-- Put bytes into LHS_MBOX_BUF, whole words from a word boundary. -/
def State.putMbox (s : State) (off : Nat) (b : Bytes) : State :=
  (List.range ((b.length + 7) / 8)).foldl (fun s k => s.wr R.LHS_MBOX_BUF_DATA (off / 8 + k) (leVal (sliceB b (8 * k) 8))) s

/-- Lighthouse's firmware runs. -/
def State.lhsRuns (s : State) : Bool := s.sec.lhs.isSome && s.pwr.boot != .held

/-- ROLE_COMMAND (R670 to R672): through the mailbox (`smbus` none), where the object lies in LHS_MBOX_BUF and line 52 latches, or over
MCTP on SMBus or PCIe VDM. `burnFails`: the operations whose burn fails its check. -/
def doRoleCommand (smbus : Option Bool) (w : Writer) (val : Nat) (object : Bytes) (burnFails : List Nat) (s : State) : State :=
  if !s.lhsRuns then s
  else
    match smbus with
    | none =>
      if s.mayWrite w (Reg.LHS_MBOX_CTL.off 0) then
        let s1 := (s.wrReg w Reg.LHS_MBOX_CTL 0 val).wr R.LHS_MBOX_CTL_REFUSED 0 0
        let r := s1.runCommand (s1.mbox 0 (s1.rd R.LHS_MBOX_CTL_LEN 0)) none burnFails
        (r.2.wrs 0 [(R.LHS_MBOX_CTL_RESULT, r.1.1.mbox), (R.LHS_MBOX_CTL_OP_INDEX, r.1.2)]).latchLine 52
      else s
    | some b =>
      let tr := if b then 4 else match w with
        | .fn f => 8 + s.linkOf f
        | _ => 8
      let r := s.runCommand object (some b) burnFails
      r.2.emit (.response tr 0x7E (leBytes 1 r.1.1.mbox ++ leBytes 1 r.1.2))

/-! ### LHS_KEY_CMD (R679 to R681) -/

/-- The answer of an operation of LHS_KEY_CMD: STATUS. It is shown when the operation ends (KEY_CMD_DONE). -/
def State.keyEnd (s : State) (status : Nat) : State :=
  (s.wr R.LHS_KEY_CMD_BUSY 0 1).modSec fun x => { x with keyJob := some status }

/-- A write of LHS_KEY_CMD with GO for an operation: refused without the keys right, ignored while BUSY, and recorded (R650). -/
def State.keyCmd (s : State) (w : Writer) (val op : Nat) (k : State → State) : State :=
  let off := Reg.LHS_KEY_CMD.off 0
  if !s.mayWrite w off then s
  else if s.flag R.LHS_KEY_CMD_BUSY 0 then s
  else
    let s1 := s.wrReg w Reg.LHS_KEY_CMD 0 (putBits val 4 3 op)
    if !s1.holds w .keys then s1.refuse w off
    else if !s1.lhsRuns then s1
    else if s1.canLog false then s1.setting w off (putBits val 4 3 op) k
    else s1.keyEnd 5

/-- A load: STATE when the slot is not EMPTY, LOG_FULL when it cannot be recorded (R675, R680). -/
def State.keyLoad (s : State) (w : Writer) (key : State → Nat ⊕ (Bytes × State)) : State :=
  let slot := s.rd R.LHS_KEY_CMD_SLOT 0
  if s.rd R.GLT_ROOT_STATE slot ≠ 0 then s.keyEnd 1
  else
    match key s with
    | .inl e => s.keyEnd e
    | .inr (b, s1) =>
      if s1.canLog false then (s1.loadKey slot (actorOf w) (s1.flag R.LHS_KEY_CMD_PERSIST 0) b).keyEnd 0 else s1.keyEnd 5

/-- KEY_NOP (R679). -/
def doKeyNop (w : Writer) (val : Nat) (s : State) : State := s.keyCmd w val 0 fun s => s.keyEnd 0

/-- KEY_GENERATE (R679). -/
def doKeyGenerate (w : Writer) (val : Nat) (s : State) : State :=
  s.keyCmd w val 1 fun s => s.keyLoad w fun s => if s.flag R.GLT_RNG_STAT_SVC_FAIL 0 then .inl 2 else .inr (s.drbg 32)

/-- The UDS (R659). -/
def udsBytes : Bytes := (List.range 64).map Config.uds

/-- The device root of the slot of LHS_KEY_CMD (R679). -/
def State.deriveRoot (s : State) (w : Writer) : State := s.keyLoad w fun s =>
  let key := fun (v : Nat) => kmac256 udsBytes (s.mbox 0 32 ++ leBytes 32 v ++ leBytes 1 s.life) 256 (ascii "GLINT-ROOT-1")
  match s.otpField 4 with
  | some v => .inr (key v, s)
  | none => .inr (key s.draw.1, s.draw.2)

/-- KEY_DERIVE_DEVICE (R679). With no operator enrolled, what stands for its key is a free value. -/
def doKeyDeriveDevice (w : Writer) (val : Nat) (s : State) : State :=
  s.keyCmd w val 2 fun s => s.deriveRoot w

/-- The import of a wrapped key into the slot of LHS_KEY_CMD (R679, R680). -/
def State.importKey (s : State) (w : Writer) : State :=
  let label := s.mbox 0 32
  let ws := s.rd R.LHS_KEY_CMD_WRAP_SLOT 0
  let z := deriveZ (KMap.getD s.glint.roots ws (zeros 32)) label 0xFFFF
  let key := keyOf 1 z
  let iv := s.mbox 32 12
  let ct := s.mbox 48 32
  if s.rd R.GLT_ROOT_STATE (s.rd R.LHS_KEY_CMD_SLOT 0) = 0 ∧ s.rd R.GLT_ROOT_STATE ws = 1 ∧ labelAlg label ≠ 1 then
    s.draw.2.keyEnd (1 + s.draw.1 % 6)
  else
    s.keyLoad w fun s =>
      if s.rd R.GLT_ROOT_STATE ws ≠ 1 then .inl 3
      else if gcmTag key iv [] ct ≠ s.mbox 80 16 then .inl 4
      else .inr (gcmText key iv ct, s)

/-- KEY_IMPORT (R679, R680). The status of a label whose ALG is not 1 is a free value other than OK. -/
def doKeyImport (w : Writer) (val : Nat) (s : State) : State :=
  s.keyCmd w val 3 fun s => s.importKey w

/-- The erasure of the slot of LHS_KEY_CMD (R679). -/
def State.eraseCmd (s : State) (w : Writer) : State :=
  let slot := s.rd R.LHS_KEY_CMD_SLOT 0
  if s.canLog (s.persistent slot) then (s.eraseKey slot (actorOf w)).keyEnd 0 else s.keyEnd 5

/-- KEY_ERASE (R674, R679, R681). -/
def doKeyErase (w : Writer) (val : Nat) (s : State) : State :=
  s.keyCmd w val 4 fun s => s.eraseCmd w

/-- KEY_CMD_DONE (R679): BUSY clears with STATUS; line 53 latches. -/
def doKeyCmdDone (s : State) : State :=
  match s.sec.keyJob with
  | some st =>
    (((s.wr R.LHS_KEY_CMD_BUSY 0 0).wr R.LHS_KEY_CMD_STATUS 0 st).modSec fun x => { x with keyJob := none }).latchLine 53
  | none => s

/-! ### The seal (R677) -/

/-- SEQ of the newest record of the log. -/
def State.headSeq (s : State) : Nat := s.sec.logSeq - 1

/-- LOG_SEAL (R677). -/
def doLogSeal (w : Writer) (s : State) : State :=
  if s.mayWrite w (Reg.LHS_LOG_STAT.off 0) && s.lhsRuns then
    let tail := leBytes 8 s.headSeq ++ s.sec.logLink
    let sig := sliceB (Config.slhSign (ascii "ELVUM-SEAL" ++ leBytes 8 s.serial ++ tail)) 0 49856
    (s.putMbox 0 (sig ++ tail)).logAppend 0x0E (actorOf w) [s.headSeq] false
  else s

/-! ### Firmware update and activation (R682 to R686) -/

/-- A write of LHS_FW_CTL: its fields; the triggers act by themselves. -/
def State.wrFwCtl (s : State) (w : Writer) (val : Nat) : State := s.wrReg w Reg.LHS_FW_CTL 0 val

/-- GO of LHS_FW_CTL with an operation: refused without the manager right; ignored, with REFUSED, in a STATE that does not take it
(R686). -/
def State.fwGo (s : State) (w : Writer) (val op : Nat) (states : List Nat) (k : State → State) : State :=
  let off := Reg.LHS_FW_CTL.off 0
  if !s.mayWrite w off then s
  else
    let s1 := s.wrFwCtl w (putBits val 0 2 op)
    if !s1.holds w .manager then s1.refuse w off
    else if !s1.lhsRuns then s1
    else if states.contains (s1.rd R.LHS_FW_STAT_STATE 0) then k (s1.wr R.LHS_FW_CTL_REFUSED 0 0)
    else s1.wr R.LHS_FW_CTL_REFUSED 0 1

/-- FW_NOP. -/
def doFwNop (w : Writer) (val : Nat) (s : State) : State := s.fwGo w val 0 [0, 2] id

/-- The bank of a kind of firmware that does not run: of LHS_FW (`k` = 0) or DEV_FW (`k` = 1). -/
def State.idleBank (s : State) (k : Nat) : Nat :=
  match (if k = 0 then s.sec.lhs else s.sec.dev) with
  | some (b, _) => 1 - b
  | none => 1 - s.preferred k

/-- The older copy of a blob, 4 or 6 being its first copy: one that is not there, or the one with the lower SVN; which of two equal ones
is a free value. -/
def State.olderCopy (s : State) (i : Nat) : Nat × State :=
  match KMap.find s.sec.flash i, KMap.find s.sec.flash (i + 1) with
  | none, _ => (i, s)
  | _, none => (i + 1, s)
  | some a, some b =>
    if obSvn a < obSvn b then (i, s) else if obSvn b < obSvn a then (i + 1, s) else (i + s.draw.1 % 2, s.draw.2)

/-- Where an object of a kind is written in flash, and the bytes there (R664, R682). -/
def State.stagePlace (s : State) (kind : Nat) : (Nat × Nat) × State :=
  match kind with
  | 1 => ((s.idleBank 0, 0x100000), s)
  | 2 => ((2 + s.idleBank 1, 0x2000000), s)
  | 3 => let c := s.olderCopy 4; ((c.1, 0x8000), c.2)
  | _ => let c := s.olderCopy 6; ((c.1, 0x8000), c.2)

/-- An operation of LHS_FW_CTL ends with a RESULT; STATE shows whether device firmware is staged. -/
def State.fwEnd (s : State) (result : Nat) : State :=
  s.wrs 0 [(R.LHS_FW_STAT_RESULT, result), (R.LHS_FW_STAT_STATE, if s.sec.staged.isSome then 2 else 0)]

/-- A verified object is written to flash (R682). `flashOk`: the write is not cut short. -/
def State.stageObject (s0 : State) (o : Bytes) (actor : Nat) (flashOk : Bool) : State :=
  let k := obKind o
  let p := s0.stagePlace k
  let s := p.2
  let i := p.1.1
  if 5 ≤ k then s.draw.2.fwEnd (s.draw.1 % 16)
  else if !s.canLog false then s.draw.2.fwEnd (s.draw.1 % 16)
  else
    let s1 := s.logAppend 0x0A actor [obSvn o] false
    let forget := fun (x : Sec) => { x with
      flash := KMap.del x.flash i
      staged := if k = 2 then none else x.staged
      lhsNew := if k = 1 then none else x.lhsNew }
    if flashOk = false ∨ p.1.2 < o.length then (s1.modSec forget).fwEnd 7
    else
      (s1.modSec fun x => { x with
        flash := KMap.put x.flash i o
        staged := if k = 2 then some (i - 2, o) else x.staged
        lhsNew := if k = 1 then some i else x.lhsNew }).fwEnd 0

/-- The staging of the object that LHS_FW_CTL names (R682). -/
def State.stageFw (s : State) (w : Writer) (flashOk : Bool) : State :=
  let a := s.rd R.LHS_FW_CTL_ADDR 0 * 4096
  let n := obSize (s.bytes a 256)
  if !inHbm s.part a n then s.fwEnd 1
  else
    let o := s.bytes a n
    match s.verifyAs 0 o with
    | .ok => s.stageObject o (actorOf w) flashOk
    | r => s.draw.2.fwEnd (r.fw s.draw.1)

/-- FW_STAGE (R682). -/
def doFwStage (w : Writer) (val : Nat) (flashOk : Bool) (s : State) : State :=
  s.fwGo w val 1 [0, 2] fun s => s.stageFw w flashOk

/-- t0 of every core. -/
def allT0 : List Nat := (List.range 96).map fun c => 8 * c

/-- The activation of the staged object (R683). -/
def State.activateFw (s : State) : State :=
  match s.sec.staged with
  | none => s
  | some (b, o) =>
    if s.flag R.LHS_FW_CTL_LIVE 0 then
      let s1 := (s.wrs 0 [(R.LHS_FW_STAT_STATE, 3), (R.LHS_FW_STAT_RESULT, 0)]).modSec fun x => { x with
        act := some (b, o), prev := x.dev, yielded := false, deadline := s.time + s.rd R.LHS_FW_CTL_YIELD_10MS 0 * 10000000 }
      allT0.foldl (fun s t => s.latch t 3) s1
    else ((s.prefer 1 b).modSec fun x => { x with staged := none }).fwEnd 0

/-- FW_ACTIVATE (R683): with LIVE = 0 the staged bank becomes preferred; with LIVE = 1 every t0 is told. -/
def doFwActivate (w : Writer) (val : Nat) (s : State) : State :=
  s.fwGo w val 2 [0, 2] fun s => s.activateFw

/-- Every channel is closed, and holds of transfers end as FAIL (R230, R683, R684). -/
def State.closeLantern (s : State) : State :=
  let chans := s.listed R.LTN_CH_CFG_ENABLE
  let s1 := chans.foldl (fun s c => (s.setSlots c []).wr R.LTN_CH_CFG_ENABLE c 0) s
  (s1.ltn.holds.map fun e => e.1).foldl (fun s h => s.failHold (h / 64) (h % 64)) s1

/-- SWITCHING begins, or a rollback (R683, R685): FW_ACTIVATE is appended first; without that record the activation ends. -/
def State.beginSwitch (s : State) (st result : Nat) : State :=
  let svn := (s.sec.act.map fun d => obSvn d.2).getD 0
  if s.canLog true then
    ((s.logAppend 0x0B 0xF0 [svn] true).wrs 0 [(R.LHS_FW_STAT_STATE, st), (R.LHS_FW_STAT_RESULT, result)]).modSec (fun x =>
      { x with fwHeld := true, yielded := false }) |>.closeLantern
  else ((s.modSec fun x => { x with act := none, prev := none, yielded := false }).draw.2).fwEnd (s.draw.1 % 16)

/-- FW_YIELD (R683, R686): only accessor 0 writes it; a switch-over in progress completes first. -/
def doFwYield (w : Writer) (s : State) : State :=
  if s.mayWrite w (Reg.LHS_FW_CTL.off 0) && accessorOf w == some 0 && s.rd R.LHS_FW_STAT_STATE 0 == 3 then
    if s.lhs.swq.isEmpty then s.beginSwitch 4 0 else s.modSec fun x => { x with yielded := true }
  else s

/-- After a switch-over, a YIELD that waited for it takes effect (R686). -/
def State.afterSwitch (s : State) : State :=
  if s.sec.yielded && s.lhs.swq.isEmpty && s.rd R.LHS_FW_STAT_STATE 0 == 3 then s.beginSwitch 4 0 else s

/-- SWITCH_OVER (R613 to R616, R686). A verdict during SWITCHING is acted on once the cores are started. -/
def doSwitchOver (unit : Nat) (lost lostCtx : List Nat) (s : State) : State :=
  if s.rd R.LHS_FW_STAT_STATE 0 = 4 ∨ s.rd R.LHS_FW_STAT_STATE 0 = 6 then s else (s.switchOver unit lost lostCtx).afterSwitch

/-- FW_YIELD_TIMEOUT (R683): Lighthouse writes PAUSE itself; RESULT shows FORCED. -/
def doFwYieldTimeout (s : State) : State :=
  if s.rd R.LHS_FW_STAT_STATE 0 = 3 ∧ s.sec.deadline ≤ s.time ∧ s.lhs.swq = [] then (s.wrFwact 1).beginSwitch 4 8 else s

/-- Fields of the LTN_ registers, but for the maps, which are Lighthouse's. -/
def lanternFlds : List Nat := (fldsOf regsLtn).filter fun i => i != R.LTN_CL_MAP_MAP.id

/-- Every Lantern core is reset; LTN_ registers, channel rings and DMA completion rings return to reset values (R683, R684). -/
def State.resetLantern (s : State) : State :=
  let gated := s.ltn.cores.filter fun e => e.2.gated
  { s with
    regs := s.regs.filter fun e => !lanternFlds.contains (e.1 / 2 ^ 24)
    ltn := { Ltn.fresh with
      cores := gated.map fun (e : Nat × Core) => (e.1, { Core.fresh with gated := true })
      migr := s.ltn.migr } }

/-- An image of device firmware runs (R666, R683): its body lies at LOAD_ADDR, it is measured, and t0 of every core starts at ENTRY. -/
def State.runDev (s : State) (d : Nat × Bytes) : State :=
  let o := d.2
  let s1 := (s.setBytes (obLoad o) (obBody o)).modSec fun x => { x with dev := some d, meas := KMap.put x.meas 2 (obHash o) }
  let s2 := (s1.wrs 0 [(R.LHS_FW_STAT_BANK, d.1), (R.LHS_FW_STAT_SVN, obSvn o)]).modLhs fun x => { x with fwBad := obSigner o != 0 }
  (List.range 96).foldl State.startT0 s2.settleCond

/-- INFLIGHT of every DMA completion ring is 0. -/
def State.ringsEmpty (s : State) : Bool := (s.listed R.LTN_DMA_RING_STAT_INFLIGHT).isEmpty

/-- FW_TRIAL_START (R683, R685): with the rings empty and no pause in progress, the cores are reset and the image starts. A rollback
ends here. -/
def doFwTrialStart (s : State) : State :=
  let st := s.rd R.LHS_FW_STAT_STATE 0
  if (st = 4 ∨ st = 6) ∧ s.ringsEmpty = true ∧ s.rd R.NVM_FWACT_STATE 0 ≠ 1 then
    let s1 := match s.sec.act with
      | some d => s.resetLantern.runDev d
      | none => s.resetLantern
    if st = 4 then
      (s1.wr R.LHS_FW_STAT_STATE 0 5).modSec fun x => { x with
        act := none, deadline := s.time + s.rd R.LHS_FW_CTL_CONFIRM_S 0 * 1000000000 }
    else (s1.wrs 0 [(R.LHS_FW_STAT_STATE, 0), (R.LHS_FW_STAT_RESULT, 9)]).modSec fun x => { x with act := none, prev := none, staged := none }
  else s

/-- FW_OPEN (R683, R684): only accessor 0 writes it; FW queues are ready again. -/
def doFwOpen (w : Writer) (s : State) : State :=
  if s.mayWrite w (Reg.LHS_FW_CTL.off 0) && accessorOf w == some 0 && s.sec.fwHeld && decide (s.rd R.LHS_FW_STAT_STATE 0 ≠ 4)
      && decide (s.rd R.LHS_FW_STAT_STATE 0 ≠ 6) then
    s.modSec fun x => { x with fwHeld := false }
  else s

/-- Two records fit, of which `a` are anchored. -/
def State.canLogTwo (s : State) (a : Nat) : Bool :=
  s.canLog false && decide (s.sec.log.length + 2 ≤ logMax ∧ s.counter ctrAnchor + a ≤ 2048)

/-- The confirmation of the firmware on trial (R683). -/
def State.confirmFw (s : State) (w : Writer) : State :=
  if s.rd R.LHS_FW_STAT_STATE 0 ≠ 5 then s
  else
    match s.sec.dev with
    | none => s
    | some (b, o) =>
      if s.canLogTwo 1 then
        let s1 := ((s.prefer 1 b).raiseFloor (floorOf 2) (obFloor o) 0xF0).logAppend 0x0C (actorOf w) [obSvn o] false
        (s1.modSec fun x => { x with staged := none, prev := none }).fwEnd 0
      else s.draw.2.wr R.LHS_FW_STAT_RESULT 0 (s.draw.1 % 16)

/-- FW_CONFIRM (R683): the bank becomes preferred and the floor is burned. In IDLE and STAGED there is nothing to confirm. -/
def doFwConfirm (w : Writer) (val : Nat) (s : State) : State :=
  s.fwGo w val 3 [0, 2, 5] fun s => s.confirmFw w

/-- FW_CONFIRM_TIMEOUT (R685): the previous image is activated again, with YIELD taken as expired. -/
def doFwConfirmTimeout (s : State) : State :=
  if s.rd R.LHS_FW_STAT_STATE 0 = 5 ∧ s.sec.deadline ≤ s.time then
    let s1 := (s.wrFwact 1).modSec fun x => { x with act := x.prev }
    let s2 := if s1.canLog true then s1.logAppend 0x0B 0xF0 [(s1.sec.act.map fun d => obSvn d.2).getD 0] true else s1
    ((s2.wr R.LHS_FW_STAT_STATE 0 6).modSec fun x => { x with fwHeld := true }).closeLantern
  else s

/-! ### The identity record and measurements (R687, R689) -/

/-- STEPPING, beside SERIAL and ORDER in OTP field 0x06 (R659; the places of the three are log entry 12). -/
def State.stepping (s : State) : Nat := bitsAt ((s.otpField 6).getD 0) 72 16

/-- ORDER of the identity record. -/
def orderCode : Part → Nat
  | .a28 => 0 | .a24 => 1 | .b24 => 2

/-- LHS_IDENT (R687). -/
def State.ident (s : State) : Bytes :=
  let debug := (List.range 11).any fun a => bitAt (s.rd R.LHS_RIGHTS_RIGHTS a) 3
  leBytes 8 s.serial ++ leBytes 1 (orderCode s.part) ++ leBytes 1 (24 * stacksOf s.part) ++ leBytes 1 (2 ^ stacksOf s.part - 1)
    ++ leBytes 1 s.life ++ (List.range 12).flatMap (fun i => leBytes 1 (s.rd R.LHS_PLAN_FMAX i))
    ++ (List.range 4).flatMap (fun i => leBytes 1 (s.rd R.LHS_PLAN_FMAX (17 + i))) ++ leBytes 2 s.stepping
    ++ leBytes 1 (b2n s.ownFw + 2 * b2n debug + 4 * s.rd R.LHS_FLT_STAT_C_FW 0) ++ zeros 33

/-- The winning OTP values in field order, except UDS (R689). -/
def State.otpAll (s : State) : Bytes :=
  [1, 2, 3, 4, 6, 7, 8, 9, 10, 11].flatMap fun f => match s.otpField f with
    | some v => leBytes ((otpBits f + 7) / 8) v
    | none => []

/-- Measurement `i` (R689), 64 bytes. -/
def State.measure (s : State) (i : Nat) : Bytes :=
  match i with
  | 0 => sliceB Config.romHash 0 64
  | 5 => shake256 s.otpAll 64
  | 7 => s.sec.logLink
  | 8 => shake256 s.ident 64
  | _ => KMap.getD s.sec.meas i (zeros 64)

/-! ### The meanings of the rows -/

/-- SWITCH_OVER (R615). -/
def execSwitchOver (unit : Nat) (lost : List Nat) (lostCtx : List Nat) (s : State) : Host.Outcome State Fault Refusal :=
  .next (s.after (doSwitchOver unit lost lostCtx s))

/-- ROLE_COMMAND (R670). -/
def execRoleCommand (smbus : Option Bool) (w : Writer) (val : Nat) (object : Bytes) (burnFails : List Nat) (s : State) :
    Host.Outcome State Fault Refusal :=
  .next (s.after (doRoleCommand smbus w val object burnFails s))

/-- KEY_NOP (R679). -/
def execKeyNop (w : Writer) (val : Nat) (s : State) : Host.Outcome State Fault Refusal :=
  .next (s.after (doKeyNop w val s))

/-- KEY_GENERATE (R679). -/
def execKeyGenerate (w : Writer) (val : Nat) (s : State) : Host.Outcome State Fault Refusal :=
  .next (s.after (doKeyGenerate w val s))

/-- KEY_DERIVE_DEVICE (R679). -/
def execKeyDeriveDevice (w : Writer) (val : Nat) (s : State) : Host.Outcome State Fault Refusal :=
  .next (s.after (doKeyDeriveDevice w val s))

/-- KEY_IMPORT (R679). -/
def execKeyImport (w : Writer) (val : Nat) (s : State) : Host.Outcome State Fault Refusal :=
  .next (s.after (doKeyImport w val s))

/-- KEY_ERASE (R679). -/
def execKeyErase (w : Writer) (val : Nat) (s : State) : Host.Outcome State Fault Refusal :=
  .next (s.after (doKeyErase w val s))

/-- KEY_CMD_DONE (R679). -/
def execKeyCmdDone (s : State) : Host.Outcome State Fault Refusal :=
  .next (s.after (doKeyCmdDone s))

/-- LOG_SEAL (R677). -/
def execLogSeal (w : Writer) (s : State) : Host.Outcome State Fault Refusal :=
  .next (s.after (doLogSeal w s))

/-- FW_NOP (R683). -/
def execFwNop (w : Writer) (val : Nat) (s : State) : Host.Outcome State Fault Refusal :=
  .next (s.after (doFwNop w val s))

/-- FW_STAGE (R682). -/
def execFwStage (w : Writer) (val : Nat) (flashOk : Bool) (s : State) : Host.Outcome State Fault Refusal :=
  .next (s.after (doFwStage w val flashOk s))

/-- FW_ACTIVATE (R683). -/
def execFwActivate (w : Writer) (val : Nat) (s : State) : Host.Outcome State Fault Refusal :=
  .next (s.after (doFwActivate w val s))

/-- FW_YIELD (R683). -/
def execFwYield (w : Writer) (s : State) : Host.Outcome State Fault Refusal :=
  .next (s.after (doFwYield w s))

/-- FW_YIELD_TIMEOUT (R683). -/
def execFwYieldTimeout (s : State) : Host.Outcome State Fault Refusal :=
  .next (s.after (doFwYieldTimeout s))

/-- FW_TRIAL_START (R683). -/
def execFwTrialStart (s : State) : Host.Outcome State Fault Refusal :=
  .next (s.after (doFwTrialStart s))

/-- FW_OPEN (R684). -/
def execFwOpen (w : Writer) (s : State) : Host.Outcome State Fault Refusal :=
  .next (s.after (doFwOpen w s))

/-- FW_CONFIRM (R683). -/
def execFwConfirm (w : Writer) (val : Nat) (s : State) : Host.Outcome State Fault Refusal :=
  .next (s.after (doFwConfirm w val s))

/-- FW_CONFIRM_TIMEOUT (R685). -/
def execFwConfirmTimeout (s : State) : Host.Outcome State Fault Refusal :=
  .next (s.after (doFwConfirmTimeout s))

end Sys2Proof.Machine
end

