-- ==== Sys2Proof/Machine/Power.lean ====
section
/-!
DEFINITION. The commands of 17_power_clocks_reset.md and 18_electrical_package.md: power blocks, PLLs, resets, the main supplies,
temperature and the supply interface.
-/

namespace Sys2Proof.Machine

/-! ### Power blocks (R695 to R698) -/

/-- Every thread of a core is OFF, WAIT or FAULTED, and its census is false (R90). -/
def State.coreIdle (s : State) (c : Nat) : Bool :=
  ((List.range 8).all fun k =>
    let st := (s.thr (8 * c + k)).st
    st == .off || st == .wait || st == .faulted) && !s.flag R.LTN_CORE_ECL_CENSUS c

/-- No transfer of a cluster's DMA engine is in flight. -/
def State.dmaIdle (s : State) (cl : Nat) : Bool :=
  (List.range 16).all fun r => s.rd R.LTN_DMA_RING_STAT_INFLIGHT (ringIx cl r) == 0

/-- A port has nothing to send and nothing received that waits. -/
def State.portEmpty (s : State) (p : Nat) : Bool :=
  ((s.fport p).outq.all fun e => e.2.isEmpty) && (s.fport p).inq.all fun e => e.2.isEmpty

/-- The links of a host port are down, or in L1. -/
def State.hostDim (s : State) (n : Nat) : Bool :=
  [2 * n, 2 * n + 1].all fun l => !s.flag R.HIF_LINK_STAT_UP l || s.linkPm l == .l1

/-- The condition in which a block goes dim (R696). -/
def State.blockIdle (s : State) (b : Nat) : Bool :=
  if b < 96 then s.coreIdle b
  else if b < 108 then
    ((List.range 8).all fun k => s.rd R.PWR_BLK_STAT_POWER (8 * (b - 96) + k) != 0) && s.dmaIdle (b - 96)
  else if b < 112 then (s.prism (b - 108)).inq.isEmpty
  else if b = 112 then
    ((List.range 16).all fun e => !s.flag R.ETH_PORT_STAT_LINK_UP e) && s.rd R.TM_BUF_STAT_FREE 0 == cellCount
  else if b < 117 then (List.range 4).all fun k => !s.flag R.ETH_PORT_STAT_LINK_UP (4 * (b - 113) + k)
  else if b < 149 then s.rd R.GLT_CL_STAT_JOBS (b - 117) == 0 && decide (s.rd R.GLT_CFG_MIN_LIT 0 ≤ b - 117)
  else if b < 309 then true
  else if b = 309 then s.jobs.isEmpty
  else if b = 310 then s.nvm.slots.isEmpty
  else if b < 313 then s.hostDim (b - 311)
  else if b < 321 then !s.portUp (b - 313)
  else if b = 321 then (List.range 8).all s.portEmpty
  else (List.range 568).all fun i => !s.flag R.LUM_CTL_EN i

/-- BLOCK_DIM (R695, R696): an idle block that is lit goes dim, as far as FLOOR lets it. -/
def doBlockDim (b : Nat) (s : State) : State :=
  if b < blockCount ∧ s.rd R.PWR_BLK_STAT_POWER b = 0 ∧ s.rd R.PWR_BLK_CFG_FLOOR b ≤ 1 ∧ s.blockIdle b = true then
    (s.setPower b 1).modPwr fun x => { x with dimAt := KMap.put x.dimAt b s.time }
  else s

/-- How long a dim block waits before it goes dark, in ns: DARK_MS, or for a Glint cluster IDLE_DARK_MS; `none`: it never goes dark. -/
def State.darkAfter (s : State) (b : Nat) : Option Nat :=
  let ms := if 117 ≤ b ∧ b < 149 then s.rd R.GLT_CFG_IDLE_DARK_MS 0 else s.rd R.PWR_BLK_CFG_DARK_MS b
  if ms = 0 then none else some (1000000 * ms)

/-- A block may go dark (R696): a host interface only with its links down, and the Lumen reader only with no counter enabled. -/
def State.mayDark (s : State) (b : Nat) : Bool :=
  if 311 ≤ b ∧ b ≤ 312 then [2 * (b - 311), 2 * (b - 311) + 1].all fun l => !s.flag R.HIF_LINK_STAT_UP l
  else s.blockIdle b

/-- What a block loses when it goes dark: TLBs of a core, translations of a cluster's DMA engine, the derived-key cache of a Glint
cluster. -/
def State.loseDark (s : State) (b : Nat) : State :=
  if b < 96 then s.modCore b fun k => { k with tlb := [] }
  else if b < 108 then { s with ltn := { s.ltn with dmaTlb := KMap.del s.ltn.dmaTlb (b - 96) } }
  else if 117 ≤ b ∧ b < 149 then s.dropCache (b - 117)
  else s

/-- BLOCK_DARK (R695, R696). -/
def doBlockDark (b : Nat) (s : State) : State :=
  match s.darkAfter b with
  | none => s
  | some n =>
    if b < blockCount ∧ s.rd R.PWR_BLK_STAT_POWER b = 1 ∧ s.rd R.PWR_BLK_CFG_FLOOR b = 0
        ∧ KMap.getD s.pwr.dimAt b 0 + n ≤ s.time ∧ s.mayDark b = true then
      (s.setPower b 2).loseDark b
    else s

/-- The islands are powered (R712). -/
def State.islandsOn (s : State) : Bool :=
  decide (s.pwr.boot ≠ .held ∧ s.pwr.boot ≠ .rom ∧ s.pwr.boot ≠ .isolated ∧ s.pwr.boot ≠ .recovery)

/-- BLOCK_WAKE (R33, R697, R698): a block that a request reaches is lit. The links of a host port that wakes leave L1. -/
def doBlockWake (b : Nat) (s : State) : State :=
  if b < blockCount ∧ s.islandsOn = true then
    let s1 := s.wakeBlock b
    if 311 ≤ b ∧ b ≤ 312 then
      [2 * (b - 311), 2 * (b - 311) + 1].foldl (fun s l => if s.linkPm l = .l1 then s.setPm l .l0 else s) s1
    else s1
  else s

/-- PWR_FLOOR_WRITE (R697): a write of PWR_BLK_CFG; a block below its FLOOR is woken. -/
def doPwrFloorWrite (w : Writer) (b val : Nat) (s : State) : State :=
  if b < blockCount ∧ s.mayWrite w (Reg.PWR_BLK_CFG.off b) = true then
    let s1 := s.wrReg w Reg.PWR_BLK_CFG b val
    if 2 < s1.rd R.PWR_BLK_CFG_FLOOR b + s1.rd R.PWR_BLK_STAT_POWER b ∧ s1.islandsOn = true then s1.wakeBlock b else s1
  else s

/-! ### PLLs (R703, R704) -/

/-- PLL_LOCK_LOSS (R704): LOSS, C_ENV, and a device soft reset by Lighthouse. -/
def doPllLockLoss (pll : Nat) (s : State) : State :=
  if pll < 6 ∧ bitAt (s.rd R.PWR_PLL_STAT_RUNNING 0) pll = true then
    let s1 := s.wrs 0 [(R.PWR_PLL_STAT_LOSS, orBit (s.rd R.PWR_PLL_STAT_LOSS 0) pll),
      (R.PWR_PLL_STAT_LOCKED, clearMask (s.rd R.PWR_PLL_STAT_LOCKED 0) (1 <<< pll))]
    s1.envLost.softReset 3
  else s

/-! ### Power-on reset (R651, R676, R707, R709, R712, R733) -/

/-- POWER_ON_RESET (R707, R709): everything returns to its reset state but OTP, flash and the change log, which no reset changes, and the
pins. -/
def doPowerOnReset (s : State) : State :=
  { State.reset with
    part := s.part
    sec := { Sec.fresh with
      otp := s.sec.otp, ctr := s.sec.ctr, log := s.sec.log, logSeq := s.sec.logSeq, logLink := s.sec.logLink
      flash := s.sec.flash, dir := s.sec.dir, lhsNew := s.sec.lhsNew, store := s.sec.store, certs := s.sec.certs }
    pwr := { Pwr.fresh with mainPg := s.pwr.mainPg, perst := s.pwr.perst }
    free := s.free
    drawn := s.drawn
    out := s.out
    pending := s.pending }

/-- LINK of a record that follows a record with a LINK. -/
def chainLink (prev : Bytes) (r : LogRec) : Bytes := shake256 (prev ++ logHead r.seq r.ty r.actor r.anchor r.time r.detail) 64

/-- Every record but the first continues the one before it. -/
def chainGood : List LogRec → Bool
  | a :: b :: r => b.link == chainLink a.link b && chainGood (b :: r)
  | _ => true

/-- The walk of the change log at power-on reset (R676). -/
def State.walkLog (s : State) : State :=
  let l := s.sec.log
  let torn := match l.reverse with
    | b :: a :: _ => b.link != chainLink a.link b
    | _ => false
  let s1 := if torn then s.modSec fun x => { x with
      log := x.log.dropLast, logSeq := x.logSeq - 1, logLink := ((x.log.dropLast.getLast?).map fun (r : LogRec) => r.link).getD (zeros 64) } else s
  let top : Nat := s1.sec.log.foldl (fun m (r : LogRec) => Nat.max m r.anchor) 0
  let a : Nat := s1.counter ctrAnchor
  if chainGood s1.sec.log = false ∨ (s1.sec.log ≠ [] ∧ top ≠ a ∧ top ≠ a + 1) then s1.wr R.LHS_LOG_STAT_BROKEN 0 1
  else if top = a + 1 then s1.raise ctrAnchor top
  else s1

/-- LHS_FADE and LHS_PLAN take their OTP values (R625, R660). -/
def State.loadPlans (s : State) : State :=
  let base := (s.otpField 7).getD 0
  (List.range 40).foldl (fun s i =>
    let p := s.otpPlan i
    (s.wrs i [(R.LHS_FADE_BASE_SLACK, bitsAt base (24 * i) 12), (R.LHS_FADE_BASE_RO, bitsAt base (24 * i + 12) 12)]).wrs i
      [(R.LHS_PLAN_VSET_MV, p.1), (R.LHS_PLAN_VFLOOR_MV, p.2.1), (R.LHS_PLAN_FMAX, p.2.2)]) s

/-- Step 2 of R712: the islands are powered and five PLLs locked. -/
def State.powerUp (s : State) : State :=
  s.wrs 0 [(R.PWR_PLL_STAT_RUNNING, s.rd R.PWR_PLL_STAT_RUNNING 0 ||| 0x1F), (R.PWR_PLL_STAT_LOCKED, s.rd R.PWR_PLL_STAT_LOCKED 0 ||| 0x1F)]

/-- POR_RELEASE (R651, R670, R676, R705, R712, R733): the timebase starts at 0, the boot ROM runs, and GPIO[1:0] give the SMBus address. -/
def doPorRelease (gpio : Nat) (s : State) : State :=
  if s.pwr.boot ≠ .held then s
  else
    let s0 := doPowerOnReset s
    let s1 := (((s0.walkLog).setRights).freshNonce).loadPlans.settleVid
    let s2 := s1.wrs 0 [(R.PWR_PLL_STAT_RUNNING, 0x20), (R.PWR_PLL_STAT_LOCKED, 0x20)]
    let s3 := s2.modPwr fun x => { x with
      boot := if x.mainPg then .powered else .rom, smbus := 0x48 + 2 * bitsAt gpio 1 1 + bitsAt gpio 0 1, tapReset := false }
    if s3.pwr.mainPg then s3.powerUp else s3

/-! ### The main supplies (R712, R714, R721, R722, R728) -/

/-- MAIN_PG_RISE (R712, R714): start-up goes on; after D3cold this acts as a device soft reset with LAST 4. -/
def doMainPgRise (s : State) : State :=
  if s.pwr.mainPg then s
  else
    let s1 := s.modPwr fun x => { x with mainPg := true }
    match s.pwr.boot with
    | .rom => (s1.powerUp).modPwr fun x => { x with boot := .powered }
    | .isolated =>
      let s2 := ((s1.powerUp).wr R.PWR_RST_CAUSE_LAST 0 4).sat R.PWR_RST_CAUSE_SOFT_CNT 0 1
      (s2.setRights).modPwr fun x => { x with boot := .loaded }
    | _ => s1

/-- Every block is dark, and only PLL_LHS runs. -/
def State.blocksOff (s : State) : State :=
  let s1 := (s.listed R.PWR_BLK_STAT_POWER).foldl (fun s b => s.wr R.PWR_BLK_STAT_POWER b 2) s
  let s2 := (s1.listed R.GLT_CL_STAT_POWER).foldl (fun s c => s.wr R.GLT_CL_STAT_POWER c 2) s1
  s2.wrs 0 [(R.PWR_PLL_STAT_RUNNING, s2.rd R.PWR_PLL_STAT_RUNNING 0 &&& 0x20), (R.PWR_PLL_STAT_LOCKED, s2.rd R.PWR_PLL_STAT_LOCKED 0 &&& 0x20)]

/-- MAIN_PG_FALL (R714): D3cold. -/
def doMainPgFall (s : State) : State := if s.pwr.mainPg then s.isolate.blocksOff else s

/-- RAIL_FAULT (R722, R728): rail 0 to 7; a main rail while MAIN_PG is high is a removal of the main supplies. -/
def doRailFault (rail : Nat) (s : State) : State :=
  if 8 ≤ rail then s
  else
    let s1 := (s.wr R.PWR_ENV_STAT_RAIL 0 (orBit (s.rd R.PWR_ENV_STAT_RAIL 0) rail)).envLost
    if rail < 6 ∧ s.pwr.mainPg = true then s1.isolate.blocksOff else s1

/-! ### Device soft reset (R710, R711) -/

/-- DEVICE_SOFT_RESET: GO of PWR_DEV_RST, or Lighthouse. A GO during a reset is ignored. -/
def doDeviceSoftReset (w : Writer) (s : State) : State :=
  let off := Reg.PWR_DEV_RST.off 0
  if !s.mayWrite w off then s
  else if !s.holds w .manager then s.refuse w off
  else if s.pwr.boot = .ready ∨ s.pwr.boot = .running then s.softReset (if w = .lighthouse then 3 else 2)
  else s

/-! ### Temperature (R726, R727) -/

/-- The hottest of a list of readings and the first place where it stands. -/
def hottest : List Int → Int × Nat
  | [] => (0, 0)
  | [a] => (a, 0)
  | a :: r => let m := hottest r; if m.1 ≤ a then (a, 0) else (m.1, m.2 + 1)

/-- TEMP_SAMPLE (R726, R727): the 40 sensors are read. -/
def doTempSample (temps : List Int) (s : State) : State :=
  if temps.length = 40 then
    let h := hottest temps
    let s1 := s.wrs 0 [(R.PWR_ENV_STAT_TJ_C, toSigned 8 h.1), (R.PWR_ENV_STAT_HOT_ISLAND, h.2)]
    if 105 < h.1 then s1.envLost else s1
  else s

/-- The last reading of the hottest sensor. -/
def State.tj (s : State) : Int := signedOf 8 (s.rd R.PWR_ENV_STAT_TJ_C 0)

/-- Set the throttle steps in force. -/
def State.setSteps (s : State) (n : Nat) : State :=
  (s.wrs 0 [(R.PWR_ENV_STAT_STEPS, n), (R.PWR_ENV_STAT_THROTTLE, b2n (decide (0 < n)))]).modPwr fun x => { x with stepAt := s.time }

/-- THROTTLE_STEP (R726): one step every 20 ms. -/
def doThrottleStep (s : State) : State :=
  let n := s.rd R.PWR_ENV_STAT_STEPS 0
  if (s.rd R.PWR_THERM_CFG_THROTTLE_C 0 : Int) ≤ s.tj ∧ n < 12 ∧ (n = 0 ∨ s.pwr.stepAt + 20000000 ≤ s.time) then s.setSteps (n + 1) else s

/-- THROTTLE_RELEASE (R726): one step back every 200 ms. -/
def doThrottleRelease (s : State) : State :=
  let n := s.rd R.PWR_ENV_STAT_STEPS 0
  if s.tj < (s.rd R.PWR_THERM_CFG_THROTTLE_C 0 : Int) - 5 ∧ 0 < n ∧ s.pwr.stepAt + 200000000 ≤ s.time then s.setSteps (n - 1) else s

/-- THERMTRIP (R727). -/
def doThermtrip (s : State) : State :=
  if s.flag R.PWR_ENV_STAT_TRIP 0 then s else (s.wr R.PWR_ENV_STAT_TRIP 0 1).emit .thermTrip

/-! ### The regulator and the TAP (R720, R732) -/

/-- VR_TIMEOUT (R720): VR_READY has not come 100 µs after a raise; the island stays at its previous setting. -/
def doVrTimeout (s : State) : State :=
  match s.lhs.vrWait with
  | some (_, t) =>
    if t + 100000 ≤ s.time then
      (((s.modLhs fun x => { x with vrWait := none }).wr R.PWR_VID_VR_TMO 0 1).settleVid).envLost
    else s
  | none => s

/-- TRST_ASSERT (R732): the TAP is reset. -/
def doTrstAssert (s : State) : State := s.modPwr fun x => { x with tapReset := true }

/-! ### The meanings of the rows -/

/-- BLOCK_DIM (R696). -/
def execBlockDim (b : Nat) (s : State) : Host.Outcome State Fault Refusal :=
  .next (s.after (doBlockDim b s))

/-- BLOCK_DARK (R696). -/
def execBlockDark (b : Nat) (s : State) : Host.Outcome State Fault Refusal :=
  .next (s.after (doBlockDark b s))

/-- BLOCK_WAKE (R698). -/
def execBlockWake (b : Nat) (s : State) : Host.Outcome State Fault Refusal :=
  .next (s.after (doBlockWake b s))

/-- PWR_FLOOR_WRITE (R697). -/
def execPwrFloorWrite (w : Writer) (b : Nat) (val : Nat) (s : State) : Host.Outcome State Fault Refusal :=
  .next (s.after (doPwrFloorWrite w b val s))

/-- PLL_LOCK_LOSS (R704). -/
def execPllLockLoss (pll : Nat) (s : State) : Host.Outcome State Fault Refusal :=
  .next (s.after (doPllLockLoss pll s))

/-- POWER_ON_RESET (R707). -/
def execPowerOnReset (s : State) : Host.Outcome State Fault Refusal :=
  .next (s.after (doPowerOnReset s))

/-- POR_RELEASE (R712). -/
def execPorRelease (gpio : Nat) (s : State) : Host.Outcome State Fault Refusal :=
  .next (s.after (doPorRelease gpio s))

/-- MAIN_PG_RISE (R712). -/
def execMainPgRise (s : State) : Host.Outcome State Fault Refusal :=
  .next (s.after (doMainPgRise s))

/-- MAIN_PG_FALL (R714). -/
def execMainPgFall (s : State) : Host.Outcome State Fault Refusal :=
  .next (s.after (doMainPgFall s))

/-- DEVICE_SOFT_RESET (R710). -/
def execDeviceSoftReset (w : Writer) (s : State) : Host.Outcome State Fault Refusal :=
  .next (s.after (doDeviceSoftReset w s))

/-- TEMP_SAMPLE (R726). -/
def execTempSample (temps : List Int) (s : State) : Host.Outcome State Fault Refusal :=
  .next (s.after (doTempSample temps s))

/-- THROTTLE_STEP (R726). -/
def execThrottleStep (s : State) : Host.Outcome State Fault Refusal :=
  .next (s.after (doThrottleStep s))

/-- THROTTLE_RELEASE (R726). -/
def execThrottleRelease (s : State) : Host.Outcome State Fault Refusal :=
  .next (s.after (doThrottleRelease s))

/-- THERMTRIP (R727). -/
def execThermtrip (s : State) : Host.Outcome State Fault Refusal :=
  .next (s.after (doThermtrip s))

/-- RAIL_FAULT (R728). -/
def execRailFault (rail : Nat) (s : State) : Host.Outcome State Fault Refusal :=
  .next (s.after (doRailFault rail s))

/-- VR_TIMEOUT (R720). -/
def execVrTimeout (s : State) : Host.Outcome State Fault Refusal :=
  .next (s.after (doVrTimeout s))

/-- TRST_ASSERT (R734). -/
def execTrstAssert (s : State) : Host.Outcome State Fault Refusal :=
  .next (s.after (doTrstAssert s))

end Sys2Proof.Machine
end

