-- ==== Sys2Proof/Machine/Spdm.lean ====
section
/-!
DEFINITION. The SPDM responder (R690 to R692). The layouts of its messages are those of DSP0274, which the spec names and does not give
(log entry 8).
-/

namespace Sys2Proof.Machine

/-! ### Connections -/

/-- A transport's connection before GET_VERSION. -/
def SpdmConn.fresh : SpdmConn := ⟨0, [], 0, 0, 0, [], 0, 0, 0⟩

/-- The connection of a transport. -/
def State.conn (s : State) (tr : Nat) : SpdmConn := KMap.getD s.sec.conns tr SpdmConn.fresh

/-- Set it. -/
def State.setConn (s : State) (tr : Nat) (c : SpdmConn) : State :=
  s.modSec fun x => { x with conns := KMap.setD x.conns tr SpdmConn.fresh c }

/-- A request reaches Lighthouse over a transport (R692): DOE of a link that is up, SMBus, or PCIe VDM of a link that is up. -/
def State.spdmUp (s : State) (tr : Nat) : Bool :=
  let live := fun (l : Nat) => s.flag R.HIF_LINK_STAT_UP l && !(s.pfsOf l).isEmpty
  s.lhsRuns && (if tr < 4 then live tr else tr == 4 || (decide (8 ≤ tr ∧ tr < 12) && live (tr - 8)))

/-- DataTransferSize and MaxSPDMmsgSize (R690). -/
def spdmPart : Nat := 4096
def spdmMax : Nat := 65536

/-- A message of version 1.3. -/
def spdmMsg (code p1 p2 : Nat) (data : Bytes) : Bytes := leBytes 1 0x13 ++ leBytes 1 code ++ leBytes 1 p1 ++ leBytes 1 p2 ++ data

/-- ERROR. -/
def spdmError (code data : Nat) : Bytes := spdmMsg 0x7F code data []

/-- Codes of ERROR: InvalidRequest, Busy, UnexpectedRequest, LargeResponse, VersionMismatch. -/
def errInvalid : Nat := 0x01
def errBusy : Nat := 0x03
def errUnexpected : Nat := 0x04
def errLarge : Nat := 0x0F
def errVersion : Nat := 0x41

/-- Put a response on the transport; one that exceeds DataTransferSize is held for CHUNK_GET. -/
def State.deliver (s : State) (tr : Nat) (m : Bytes) : State :=
  if m.length ≤ spdmPart then s.emit (.response tr (obNat m 1 1) (m.drop 2))
  else
    let c := s.conn tr
    let h := (c.outHnd + 1) % 256
    (s.setConn tr { c with out := m, outAt := 0, outNext := 0, outHnd := h }).emit
      (.response tr 0x7F (leBytes 1 errLarge ++ leBytes 1 0 ++ leBytes 1 h))

/-! ### Answers -/

/-- The length of a DER element with its header. -/
def derSize (b : Bytes) : Nat :=
  let n := obNat b 1 1
  if n < 0x80 then 2 + n else if n = 0x81 then 3 + obNat b 2 1 else if n = 0x82 then 4 + beVal (sliceB b 2 2) else 5 + beVal (sliceB b 2 3)

/-- Certificate slot 0 as a chain (R688): length, hash of the root certificate, certificates. -/
def State.certChain (s : State) : Bytes :=
  let b := s.sec.certs
  leBytes 2 (68 + b.length) ++ zeros 2 ++ sha3of512 (b.take (derSize b)) ++ b

/-- The block of the measurement of an SPDM index (R689). -/
def State.measBlock (s : State) (ix : Nat) : Bytes :=
  let ty := if ix = 1 then 0 else if ix ≤ 3 then 1 else 3
  leBytes 1 ix ++ leBytes 1 1 ++ leBytes 2 67 ++ leBytes 1 (0x80 + ty) ++ leBytes 2 64 ++ sliceB (s.measure (ix - 1)) 0 64

/-- Every measurement block. -/
def State.measAll (s : State) : Bytes := (List.range 9).flatMap fun k => s.measBlock (k + 1)

/-- A response with its signature over the request and itself. -/
def spdmSigned (req resp : Bytes) : Bytes := resp ++ sliceB (Config.slhSign (req ++ resp)) 0 49856

/-- VERSION: 1.3. -/
def answerVersion : Bytes := leBytes 1 0x10 ++ leBytes 1 0x04 ++ zeros 3 ++ leBytes 1 1 ++ leBytes 2 0x1300

/-- CAPABILITIES: CERT_CAP, CHAL_CAP, MEAS_CAP signed, CHUNK_CAP; CTExponent 18 (R690). -/
def answerCapabilities : Bytes :=
  spdmMsg 0x61 0 0 (zeros 1 ++ leBytes 1 18 ++ zeros 2 ++ leBytes 4 0x20016 ++ leBytes 4 spdmPart ++ leBytes 4 spdmMax)

/-- ALGORITHMS (R690): SHA3-512, raw measurements, one ExtAsym of registry PCI-SIG with algorithm ID 0x0001. -/
def answerAlgorithms : Bytes :=
  spdmMsg 0x63 0 0 (leBytes 2 40 ++ leBytes 1 1 ++ leBytes 1 0 ++ leBytes 4 1 ++ leBytes 4 0 ++ leBytes 4 0x20 ++ zeros 11 ++ zeros 1
    ++ leBytes 1 1 ++ leBytes 1 0 ++ zeros 2 ++ leBytes 1 3 ++ leBytes 1 0 ++ leBytes 2 1)

/-- DIGESTS of slot 0. -/
def State.answerDigests (s : State) : Bytes := spdmMsg 0x01 1 1 (sha3of512 s.certChain)

/-- CERTIFICATE: a portion of slot 0; no other slot is provisioned. -/
def State.answerCertificate (s : State) (m : Bytes) : Bytes :=
  let chain := s.certChain
  let off := obNat m 4 2
  if obNat m 2 1 % 16 ≠ 0 ∨ chain.length ≤ off then spdmError errInvalid 0
  else
    let n := Nat.min (obNat m 6 2) (chain.length - off)
    spdmMsg 0x02 0 0 (leBytes 2 n ++ leBytes 2 (chain.length - off - n) ++ (chain.drop off).take n)

/-- CHALLENGE_AUTH. The nonce comes from the service DRBG. -/
def State.answerChallenge (s : State) (m : Bytes) : Bytes × State :=
  if obNat m 2 1 ≠ 0 then (spdmError errInvalid 0, s)
  else
    let d := s.drbg 32
    let sum := if obNat m 3 1 = 0 then [] else sha3of512 s.measAll
    (spdmSigned m (spdmMsg 0x03 0 1 (sha3of512 s.certChain ++ d.1 ++ sum ++ leBytes 2 0 ++ sliceB m 36 8)), d.2)

/-- MEASUREMENTS: the number of blocks, one block, or all of them; signed on request. -/
def State.answerMeasurements (s : State) (m : Bytes) : Bytes × State :=
  let op := obNat m 3 1
  let signed := bitAt (obNat m 2 1) 0
  let rec_ := if op = 0 then [] else if op = 0xFF then s.measAll else s.measBlock op
  if 9 < op ∧ op ≠ 0xFF then (spdmError errInvalid 0, s)
  else
    let d := s.drbg 32
    let count := if op = 0 then 0 else if op = 0xFF then 9 else 1
    let ctx := if signed then sliceB m 37 8 else sliceB m 4 8
    let body := spdmMsg 0x60 (if op = 0 then 9 else 0) 0
      (leBytes 1 count ++ leBytes 3 rec_.length ++ rec_ ++ d.1 ++ leBytes 2 0 ++ ctx)
    (if signed then spdmSigned m body else body, d.2)

/-- VENDOR_DEFINED_RESPONSE to a role command (R690): RESULT and OP_INDEX. -/
def State.answerVendor (s : State) (tr : Nat) (m : Bytes) : Bytes × State :=
  if obNat m 4 2 ≠ 3 ∨ obNat m 6 1 ≠ 2 ∨ obNat m 7 2 ≠ 0x2BE7 then (spdmError errInvalid 0, s)
  else
    let o := (m.drop 11).take (obNat m 9 2)
    let way := if tr < 4 then none else some (tr == 4)
    let r := s.runCommand (if obNat m 9 2 = 0 then m.drop 11 else o) way []
    (spdmMsg 0x7E 0 0 (leBytes 2 3 ++ leBytes 1 2 ++ leBytes 2 0x2BE7 ++ leBytes 2 2 ++ leBytes 1 r.1.1.mbox ++ leBytes 1 r.1.2), r.2)

/-- The stage that a request needs, and the one that it leads to. -/
def spdmStage (code : Nat) : Nat × Nat :=
  match code with
  | 0x84 => (0, 1)
  | 0xE1 => (1, 2)
  | 0xE3 => (2, 3)
  | _ => (3, 3)

/-- The answer to a whole request. -/
def State.spdmAnswer (s : State) (tr : Nat) (m : Bytes) (busy : Bool) : Bytes × State :=
  let code := obNat m 1 1
  let c := s.conn tr
  let st := spdmStage code
  if code = 0x84 then (answerVersion, s.setConn tr { SpdmConn.fresh with stage := 1 })
  else if obNat m 0 1 ≠ 0x13 then (spdmError errVersion 0, s)
  else if c.stage < st.1 then (spdmError errUnexpected 0, s)
  else
    match code with
    | 0xE1 => (answerCapabilities, s.setConn tr { c with stage := Nat.max c.stage 2 })
    | 0xE3 => (answerAlgorithms, s.setConn tr { c with stage := 3 })
    | 0x81 => (s.answerDigests, s)
    | 0x82 => (s.answerCertificate m, s)
    | 0x83 => if busy then (spdmError errBusy 0, s) else s.answerChallenge m
    | 0xE0 => if busy && bitAt (obNat m 2 1) 0 then (spdmError errBusy 0, s) else s.answerMeasurements m
    | 0xFE => s.answerVendor tr m
    | _ => (spdmError 0x07 code, s)

/-- A request of a code arrives over a transport that is up. -/
def State.spdmTake (s : State) (tr code : Nat) (m : Bytes) (busy : Bool) : State :=
  if s.spdmUp tr && obNat m 1 1 == code then
    let r := s.spdmAnswer tr m busy
    r.2.deliver tr r.1
  else s

/-! ### The requests -/

/-- SPDM_GET_VERSION. -/
def doSpdmGetVersion (tr : Nat) (msg : Bytes) (s : State) : State := s.spdmTake tr 0x84 msg false

/-- SPDM_GET_CAPABILITIES. -/
def doSpdmGetCapabilities (tr : Nat) (msg : Bytes) (s : State) : State := s.spdmTake tr 0xE1 msg false

/-- SPDM_NEGOTIATE_ALGORITHMS. -/
def doSpdmNegotiateAlgorithms (tr : Nat) (msg : Bytes) (s : State) : State := s.spdmTake tr 0xE3 msg false

/-- SPDM_GET_DIGESTS. -/
def doSpdmGetDigests (tr : Nat) (msg : Bytes) (s : State) : State := s.spdmTake tr 0x81 msg false

/-- SPDM_GET_CERTIFICATE. -/
def doSpdmGetCertificate (tr : Nat) (msg : Bytes) (s : State) : State := s.spdmTake tr 0x82 msg false

/-- SPDM_CHALLENGE (R691). `busy`: the signer is occupied. -/
def doSpdmChallenge (tr : Nat) (msg : Bytes) (busy : Bool) (s : State) : State := s.spdmTake tr 0x83 msg busy

/-- SPDM_GET_MEASUREMENTS (R689, R691). -/
def doSpdmGetMeasurements (tr : Nat) (msg : Bytes) (busy : Bool) (s : State) : State := s.spdmTake tr 0xE0 msg busy

/-- SPDM_VENDOR_DEFINED_REQUEST (R690). -/
def doSpdmVendorDefinedRequest (tr : Nat) (msg : Bytes) (s : State) : State := s.spdmTake tr 0xFE msg false

/-- SPDM_CHUNK_SEND (R690): a request in chunks; the answer to the whole request rides in the acknowledgement of the last chunk. -/
def doSpdmChunkSend (tr : Nat) (msg : Bytes) (busy : Bool) (s : State) : State :=
  if s.spdmUp tr && obNat msg 1 1 == 0x85 then
    let c := s.conn tr
    let h := obNat msg 3 1
    let seq := obNat msg 4 2
    let n := obNat msg 8 4
    let first := seq == 0
    let size := if first then obNat msg 12 4 else c.inSize
    let data := (msg.drop (if first then 16 else 12)).take n
    let buf := (if first then [] else c.inBuf) ++ data
    let last := bitAt (obNat msg 2 1) 0
    let drop := { c with inBuf := [], inSize := 0, inNext := 0, inHnd := 0 }
    let ack := fun (b : Bytes) => spdmMsg 0x05 0 h (leBytes 2 seq ++ b)
    if c.stage < 2 then s.deliver tr (spdmError errUnexpected 0)
    else if (!first && (seq != c.inNext || h != c.inHnd)) || decide (spdmMax < size ∨ size < buf.length) || (last && buf.length != size) then
      (s.setConn tr drop).deliver tr (spdmError errInvalid 0)
    else if last then
      let r := (s.setConn tr drop).spdmAnswer tr buf busy
      let m := ack r.1
      if m.length ≤ spdmPart then r.2.deliver tr m
      else
        let c2 := r.2.conn tr
        let o := (c2.outHnd + 1) % 256
        (r.2.setConn tr { c2 with out := r.1, outAt := 0, outNext := 0, outHnd := o }).deliver tr
          (ack (spdmError errLarge 0 ++ leBytes 1 o))
    else (s.setConn tr { c with inBuf := buf, inSize := size, inNext := seq + 1, inHnd := h }).deliver tr (ack [])
  else s

/-- SPDM_CHUNK_GET (R690): the next part of a response held for chunks. -/
def doSpdmChunkGet (tr : Nat) (msg : Bytes) (s : State) : State :=
  if s.spdmUp tr && obNat msg 1 1 == 0x86 then
    let c := s.conn tr
    let seq := obNat msg 4 2
    if c.out = [] ∨ obNat msg 3 1 ≠ c.outHnd ∨ seq ≠ c.outNext then s.deliver tr (spdmError errInvalid 0)
    else
      let head := if seq = 0 then 16 else 12
      let n := Nat.min (spdmPart - head) (c.out.length - c.outAt)
      let last := decide (c.out.length ≤ c.outAt + n)
      let size := if seq = 0 then leBytes 4 c.out.length else []
      let m := spdmMsg 0x06 (b2n last) c.outHnd (leBytes 2 seq ++ zeros 2 ++ leBytes 4 n ++ size ++ (c.out.drop c.outAt).take n)
      let c2 := if last then { c with out := [], outAt := 0, outNext := 0 } else { c with outAt := c.outAt + n, outNext := seq + 1 }
      (s.setConn tr c2).deliver tr m
  else s

/-! ### The meanings of the rows -/

/-- SPDM_GET_VERSION (R690). -/
def execSpdmGetVersion (tr : Nat) (msg : Bytes) (s : State) : Host.Outcome State Fault Refusal :=
  .next (s.after (doSpdmGetVersion tr msg s))

/-- SPDM_GET_CAPABILITIES (R690). -/
def execSpdmGetCapabilities (tr : Nat) (msg : Bytes) (s : State) : Host.Outcome State Fault Refusal :=
  .next (s.after (doSpdmGetCapabilities tr msg s))

/-- SPDM_NEGOTIATE_ALGORITHMS (R690). -/
def execSpdmNegotiateAlgorithms (tr : Nat) (msg : Bytes) (s : State) : Host.Outcome State Fault Refusal :=
  .next (s.after (doSpdmNegotiateAlgorithms tr msg s))

/-- SPDM_GET_DIGESTS (R690). -/
def execSpdmGetDigests (tr : Nat) (msg : Bytes) (s : State) : Host.Outcome State Fault Refusal :=
  .next (s.after (doSpdmGetDigests tr msg s))

/-- SPDM_GET_CERTIFICATE (R690). -/
def execSpdmGetCertificate (tr : Nat) (msg : Bytes) (s : State) : Host.Outcome State Fault Refusal :=
  .next (s.after (doSpdmGetCertificate tr msg s))

/-- SPDM_CHALLENGE (R691). -/
def execSpdmChallenge (tr : Nat) (msg : Bytes) (busy : Bool) (s : State) : Host.Outcome State Fault Refusal :=
  .next (s.after (doSpdmChallenge tr msg busy s))

/-- SPDM_GET_MEASUREMENTS (R689). -/
def execSpdmGetMeasurements (tr : Nat) (msg : Bytes) (busy : Bool) (s : State) : Host.Outcome State Fault Refusal :=
  .next (s.after (doSpdmGetMeasurements tr msg busy s))

/-- SPDM_CHUNK_SEND (R690). -/
def execSpdmChunkSend (tr : Nat) (msg : Bytes) (busy : Bool) (s : State) : Host.Outcome State Fault Refusal :=
  .next (s.after (doSpdmChunkSend tr msg busy s))

/-- SPDM_CHUNK_GET (R690). -/
def execSpdmChunkGet (tr : Nat) (msg : Bytes) (s : State) : Host.Outcome State Fault Refusal :=
  .next (s.after (doSpdmChunkGet tr msg s))

/-- SPDM_VENDOR_DEFINED_REQUEST (R690). -/
def execSpdmVendorDefinedRequest (tr : Nat) (msg : Bytes) (s : State) : Host.Outcome State Fault Refusal :=
  .next (s.after (doSpdmVendorDefinedRequest tr msg s))

end Sys2Proof.Machine
end

