-- ==== Sys2Proof/Machine/RegRead.lean ====
section
/-!
DEFINITION. Reading the device register space (R9, R14 to R17, R40, R44, R539, R655): the register at an offset, the fields that the
spec derives from other state, and the value a read returns.
-/

namespace Sys2Proof.Machine

/-! ### The register at an offset (R14, R17, R44) -/

/-- The registers of the block slot that an offset lies in. -/
def slotRegs (off : Nat) : List RegD :=
  match off / 0x1000000 with
  | 0 => regsLhs | 1 => regsPwr | 2 => regsHif | 3 => regsQm | 4 => regsNvm | 5 => regsPrs | 6 => regsPsm | 7 => regsFwd
  | 8 => regsTm | 9 => regsGlt | 10 => regsBcn | 11 => regsLns | 12 => regsMem | 13 => regsLum | 14 => regsEth
  | k => if 16 ≤ k ∧ k < 28 then regsLtn else []

/-- The instance, and the byte within it, of a distance from instance 0. -/
def locate (width : Nat) : List (Nat × Nat) → Nat → Nat → Option (Nat × Nat)
  | [], r, i => if r < width then some (i, r) else none
  | (st, n) :: l, r, i => if r / st < n then locate width l (r % st) (i * n + r / st) else none

/-- The register that holds the byte at an offset: its instance and the byte within it. -/
def regFind (off : Nat) : Option (RegD × Nat × Nat) :=
  (slotRegs off).findSome? fun d =>
    if d.base ≤ off then (locate (d.w / 8) d.dims (off - d.base) 0).map fun e => (d, e.1, e.2) else none

/-- An access of `n` bytes at byte `b` of a register keeps R14: a register wider than 64 bits is accessed as 64-bit words. -/
def widthOk (d : RegD) (b n : Nat) : Bool :=
  if d.w = 32 then n == 4 && b == 0 else (n == 8 && b % 8 == 0) || (n == 4 && b % 4 == 0)

/-- R17 refuses an access: it has another width or alignment than R14 asks. At an offset with no register, any aligned access of 32 or
64 bits keeps R14. -/
def widthBad (off n : Nat) : Bool :=
  match regFind off with
  | some (d, _, b) => !widthOk d b n
  | none => !((n == 4 && off % 4 == 0) || (n == 8 && off % 8 == 0))

/-! ### Fields that other state gives -/

/-- The fields of the Lantern registers that show thread, core and channel state (R68, R80, R93, R97, R110, R113, R121). -/
def State.viewLtn (s : State) (d : RegD) (f : Fld) (i : Nat) : Option Nat :=
  if d.num = Reg.LTN_THR_CTL.num then
    let th := s.thr i
    if f = R.LTN_THR_CTL_STATE then some th.st.code
    else if f = R.LTN_THR_CTL_LEASE_LOST then some (b2n th.leaseLost)
    else if f = R.LTN_THR_CTL_RESV_HELD then some (b2n th.resv.isSome)
    else if f = R.LTN_THR_CTL_STAGE_CNT then some th.stage.length
    else none
  else if d.num = Reg.LTN_THR_IRQ.num then
    some (if f = R.LTN_THR_IRQ_PENDING then b2n !(s.pendingLines i).isEmpty else b2n (s.thr i).ie)
  else if d.num = Reg.LTN_EVBIND.num then
    if f = R.LTN_EVBIND_SRC_TYPE then some (s.bindTy (i / 32) (i % 32)) else none
  else if d.num = Reg.LTN_CORE_ECL.num then
    if f = R.LTN_CORE_ECL_WAITING then some (s.waitingMask i) else none
  else if d.num = Reg.LTN_CORE_FLTQ_STAT.num then
    if f = R.LTN_CORE_FLTQ_STAT_COUNT then some (s.core i).fltq.length else none
  else if d.num = Reg.LTN_CORE_FLTQ_HEAD.num then
    match (s.core i).fltq with
    | r :: _ => some (if f = R.LTN_CORE_FLTQ_HEAD_CLASS then r.cls else if f = R.LTN_CORE_FLTQ_HEAD_THREAD then r.thread else r.info)
    | [] => some 0
  else if d.num = Reg.LTN_CH_STAT.num then
    if f = R.LTN_CH_STAT_VISIBLE then some ((s.slots i).filter fun sl => sl.st == .visible).length
    else if f = R.LTN_CH_STAT_RESERVED then
      some ((s.slots i).filter fun sl => match sl.st with
        | .held _ => true
        | _ => false).length
    else none
  else if d.num = Reg.LTN_THR_DBGDATA.num then
    let th := s.thr i
    let k := s.rd R.LTN_THR_DBGSEL_SEL i
    if th.st ≠ .halt then some 0
    else if h : k < 32 then some (th.greg ⟨k, h⟩).toNat
    else if k = 32 then some th.pc.toNat
    else if k = 33 then some th.prg.toNat
    else if k = 34 then some th.tstat.toNat
    else if 40 ≤ k ∧ k < 48 then some ((th.stage.getD (k - 40) 0).toNat)
    else if 48 ≤ k ∧ k < 56 then some ((th.rx.getD (k - 48) 0).toNat)
    else some 0
  else none

/-- The lowest power code of some blocks: that of the most awake one (R694). -/
def State.powerOf (s : State) (l : List Nat) : Nat := l.foldl (fun m b => Nat.min m (s.rd R.PWR_BLK_STAT_POWER b)) 2

/-- POWER of a unit (R599): that of the power blocks it lies in (R696); a spare in umbra and a retired unit are dark. Units without a
power block of their own are lit while the islands are powered. -/
def State.unitPower (s : State) (u : Nat) : Nat :=
  let i := unitIx u
  let role := s.rd R.LHS_UNIT_STAT_ROLE u
  let lg := s.rd R.LHS_UNIT_STAT_LOGICAL u
  let sram := fun (m : Nat) =>
    if m < 96 then [108, 109, 110, 111] else if m < 160 then [112] else if m < 208 then [96 + (m - 160) / 4]
    else if m < 240 then [277 + (m - 208)] else [108 + (m - 240) / 4]
  if unitTy u ≤ 2 ∧ (role = 1 ∨ role = 2) then 2
  else
    match unitTy u with
    | 0 => if role = 3 then 0 else s.powerOf [lg]
    | 1 => if role = 3 then 0 else s.powerOf [117 + lg]
    | 2 => s.powerOf [108 + i / 33]
    | 3 => s.powerOf [149 + i / 16]
    | 4 => s.powerOf (sram i)
    | 5 => s.powerOf [313 + i / 4]
    | 6 => s.powerOf [113 + i / 4]
    | 7 => s.powerOf [311 + i / 16]
    | 8 => s.powerOf [108 + i]
    | 9 => s.powerOf [112]
    | 10 => s.powerOf [309]
    | 11 => s.powerOf [310]
    | 12 => s.powerOf [311 + i]
    | 13 => s.powerOf [313 + i]
    | 14 => s.powerOf [277 + i]
    | 15 => s.powerOf [322]
    | 17 => s.powerOf [113 + i]
    | _ => if s.islandsOn then 0 else 2

/-- A word of the change-log region (R673). -/
def State.logWord (s : State) (i : Nat) : Nat :=
  match s.sec.log[i / 16]? with
  | some r => leVal (sliceB (logHead r.seq r.ty r.actor r.anchor r.time r.detail ++ r.link) (8 * (i % 16)) 8)
  | none => Config.blankFlash i % 2 ^ 64

/-- The fields of the Lighthouse registers that show other state (R602, R603, R655, R656, R673, R677, R687, R689). -/
def State.viewLhs (s : State) (d : RegD) (f : Fld) (i : Nat) : Option Nat :=
  if d.num = Reg.LHS_UNIT_STAT.num then
    if unitListed i = false ∨ i = unitDevice then some 0
    else if f = R.LHS_UNIT_STAT_POWER then some (s.unitPower i)
    else none
  else if d.num = Reg.LHS_FLT_STAT.num then
    if f = R.LHS_FLT_STAT_COUNT then some s.lhs.flog.length else none
  else if d.num = Reg.LHS_FLT_HEAD.num then
    match s.lhs.flog with
    | r :: _ => some (if f = R.LHS_FLT_HEAD_WORD0 then r.word0 else r.time % 2 ^ 64)
    | [] => some 0
  else if d.num = Reg.LHS_LOG_STAT.num then
    let n := s.sec.log.length
    if f = R.LHS_LOG_STAT_NEAR_FULL then some (b2n (decide (1792 ≤ n)))
    else if f = R.LHS_LOG_STAT_FULL then some (b2n (decide (logMax ≤ n)))
    else if f = R.LHS_LOG_STAT_COUNT then some n
    else if f = R.LHS_LOG_STAT_SEQ then some (s.headSeq % 2 ^ 36)
    else none
  else if d.num = Reg.LHS_OTP_STAT.num then
    let mask := fun (p : Nat → Bool) => (List.range 4).foldl (fun m k => if p k then orBit m k else m) 0
    if 0x20 ≤ i then some (if f = R.LHS_OTP_STAT_COUNT then s.counter i else 0)
    else if f = R.LHS_OTP_STAT_WRITTEN then some (mask fun k => (s.otpSlot i k).written)
    else if f = R.LHS_OTP_STAT_VALID then some (mask fun k => s.otpValid i k)
    else if f = R.LHS_OTP_STAT_WINNER then some ((s.otpWin i).getD 0)
    else if f = R.LHS_OTP_STAT_NONE then some (b2n (s.otpWin i).isNone)
    else some 0
  else if d.num = Reg.LHS_MEAS.num then some (leVal (sliceB (s.measure (i / 8)) (8 * (i % 8)) 8))
  else if d.num = Reg.LHS_IDENT.num then some (leVal (sliceB s.ident (8 * i) 8))
  else if d.num = Reg.LHS_LOG_WIN.num then some (s.logWord i)
  else none

/-- The fields of the Lumen registers that are not stored: SAT of a block, and the absent blocks (R628, R631). -/
def State.viewLum (s : State) (d : RegD) (f : Fld) (i : Nat) : Option Nat :=
  if d.num = Reg.LUM_BLK_SAT.num then
    if s.blockAbsent i then some 0
    else if f = R.LUM_BLK_SAT_SAT then
      some ((List.range 8).foldl (fun m c => if s.flag R.LUM_VAL_SAT (ctrIx i c) then orBit m c else m) 0)
    else none
  else if (d.num = Reg.LUM_VAL.num ∨ d.num = Reg.LUM_SNAP.num ∨ d.num = Reg.LUM_CTL.num) ∧ s.blockAbsent (i / 8) = true then some 0
  else if d.num = Reg.LUM_BLK_CTL.num ∧ s.blockAbsent i = true then some 0
  else none

/-- A field that the register file does not hold, or holds elsewhere. -/
def State.view (s : State) (d : RegD) (f : Fld) (i : Nat) : Option Nat :=
  if d.base / 0x1000000 = 0 then s.viewLhs d f i
  else if d.base / 0x1000000 = 0xD then s.viewLum d f i
  else if 0x10 ≤ d.base / 0x1000000 then s.viewLtn d f i
  else if (d.num = Reg.ETH_PORT_CFG.num ∨ d.num = Reg.ETH_PORT_STAT.num ∨ d.num = Reg.ETH_PORT_CNT.num) ∧ s.firstLane i = false then some 0
  else if d.num = Reg.TM_OMAP.num ∧ 18 ≤ i ∧ i < 24 then some 0
  else if f = R.HIF_FN_QCTL_JOBS then some (Nat.min (s.fnJobs i) 65535)
  else if f = R.LNS_OUT_NAK_CNT then some (s.rd R.LNS_ACT_OUT_NAK_CNT i)
  else if f = R.LNS_OUT_LAST_REASON then some (s.rd R.LNS_ACT_OUT_LAST_REASON i)
  else none

/-- A field reads 0 (R9): write-only fields, and those whose Meaning says so. -/
def Fld.readsZero (f : Fld) : Bool :=
  match f.acc with
  | .wo | .wol _ => true
  | _ => false

/-- The value of a register instance as a read returns it (R9). -/
def State.regRead (s : State) (d : RegD) (i : Nat) : Nat :=
  d.flds.foldl (fun v f => if f.readsZero then v else v ||| (((s.view d f i).getD (s.rd f i)) % 2 ^ f.w) <<< f.lo) 0

/-! ### Reads (R14, R17, R45, R458, R459, R539) -/

/-- A read of `n` bytes at an offset of the device register space: 0 where R17 refuses it, and at a reserved offset. -/
def State.regAt (s : State) (off n : Nat) : Nat :=
  match regFind off with
  | some (d, i, b) => if widthOk d b n then bitsAt (s.regRead d i) (8 * b) (8 * n) else 0
  | none => 0

/-- The record that a read through a slice returns belongs to the family of the PF, or is none of those of R539. -/
def State.readOpen (s : State) (p off : Nat) : Bool :=
  match regFind off with
  | some (d, i, _) =>
    if d.num = Reg.QM_SQ.num then s.sqInRange p i
    else if d.num = Reg.QM_CQ.num then s.cqInRange p i
    else if d.num = Reg.HIF_FN_CFG.num ∨ d.num = Reg.HIF_FN_ACT.num ∨ d.num = Reg.HIF_FN_QCTL.num ∨ d.num = Reg.NVM_CTRL_CFG.num then
      s.inFamily p i
    else true
  | none => true

/-- A writer reaches an offset for a read: PL1 threads, PF0 with the manager right, a PF through a slice, and what is not on the host
side. -/
def State.mayRead (s : State) (w : Writer) (off : Nat) : Bool :=
  match w with
  | .thread t => (s.thr t).pl1
  | .fn p => (p == 0 && s.holds w .manager) || (decide (p < 8) && s.sliceMaps p off false && s.readOpen p off)
  | _ => true

/-- What a read by a writer returns. -/
def State.regAs (s : State) (w : Writer) (off n : Nat) : Nat := if s.mayRead w off then s.regAt off n else 0

end Sys2Proof.Machine
end

