-- ==== Sys2Proof/Machine/Traffic.lean ====
section
/-!
DEFINITION. The commands of 07_traffic_management.md: metering and admission, the scheduling hierarchy, shapers and timing wheels,
record access, and frames held for firmware.
-/

namespace Sys2Proof.Machine

/-! ### Meters (R337 to R341) -/

/-- A meter record. -/
def State.meter (s : State) (i : Nat) : Meter := KMap.getD s.tm.meters i Meter.fresh

/-- Set a meter record. -/
def State.setMeter (s : State) (i : Nat) (m : Meter) : State :=
  { s with tm := { s.tm with meters := KMap.setD s.tm.meters i Meter.fresh m } }

/-- Tokens earned at rate M × 2^E kb/s over `dt` ns, in 1/65,536 byte, and the remainder in 1/15,625 of that (R337, R338). -/
def earned (m e dt rem : Nat) : Nat × Nat :=
  let n := m * 2 ^ e * 128 * dt + rem
  (n / 15625, n % 15625)

/-- A meter brought up to time `now` (R338). -/
def Meter.accrue (m : Meter) (now : Nat) : Meter :=
  let dt := now - m.last
  let c := earned (bitsAt m.w0 16 17) (bitsAt m.w0 33 4) dt m.remC
  let e := earned (bitsAt m.w0 37 17) (bitsAt m.w0 54 4) dt m.remE
  let cbs := bitsAt m.w1 0 24 * 65536
  let ebs := bitsAt m.w1 24 24 * 65536
  let spill := if bitAt m.w0 2 then m.tc + c.1 - cbs else 0
  { m with tc := Nat.min (m.tc + c.1) cbs, te := Nat.min (m.te + e.1 + spill) ebs, remC := c.2, remE := e.2, last := now }

/-- `n` plus a signed byte, at least 1 (R337, R346). -/
def adjLen (n adj : Nat) : Nat := Nat.max 1 ((n : Int) + signedOf 8 adj).toNat

/-- A saturating count of 26 bits (R337). -/
def cnt26 (n : Nat) : Nat := satInc 26 n

/-- A frame of length `len` and incoming colour `cin` meets a meter (R338): the colour and the meter after it. -/
def Meter.run (m0 : Meter) (len cin now : Nat) : Nat × Meter :=
  let m := m0.accrue now
  let l := adjLen len (bitsAt m.w0 8 8) * 65536
  let c := if bitAt m.w0 1 then cin else 0
  if c = 0 ∧ l ≤ m.tc then (0, { m with tc := m.tc - l, green := cnt26 m.green })
  else if c ≠ 2 ∧ l ≤ m.te then (1, { m with te := m.te - l, yellow := cnt26 m.yellow })
  else (2, { m with red := cnt26 m.red })

/-- The incoming colour of a frame (R339). -/
def State.cmapColour (s : State) (f : Pkt) : Nat :=
  let i := 64 * f.pipe + f.prof % 64
  let b := s.rd R.TM_CMAP_CTL_BIT i
  if s.flag R.TM_CMAP_CTL_EN i = true ∧ bitAt f.key (16 + s.rd R.TM_CMAP_CTL_PI i) = true ∧ 48 ≤ b ∧ b ≤ 634 then
    let v := bitsAt f.key b (s.rd R.TM_CMAP_CTL_WIDTH i)
    let c := bitsAt (s.rd R.TM_CMAP_MAP_MAP i) (2 * v) 2
    if c = 3 then 0 else c
  else 0

/-- An uncorrectable or poisoned record of the traffic manager is read (R206, R336): reported once, then counted. -/
def State.tmPoison (s : State) (first : Bool) (ix : Nat) : State :=
  if first then (s.sat R.MEM_ECC_CNT_UNCORRECTABLE 0 1).report (unitId 9 0) .eccUe ix
  else s.sat R.MEM_ECC_CNT_POISON_READS 0 1

/-- Metering of a frame (R330 step 1, R340): the colour, or `none` when the frame is dropped. -/
def State.metered (s0 : State) (f : Pkt) (ue : Bool) : Option Nat × State :=
  let cin := s0.cmapColour f
  let i := bitsAt f.act 32 18
  if !bitAt f.act 50 then (some cin, s0)
  else
    let s := if ue && !(s0.meter i).bad then (s0.setMeter i { s0.meter i with bad := true }).tmPoison true i
      else if (s0.meter i).bad then s0.tmPoison false i else s0
    let m := s.meter i
    if m.bad || !bitAt m.w0 0 then (some cin, s)
    else
      let r := m.run f.data.length cin s.time
      let s1 := ((s.setMeter i r.2).count 24 0x01 1).count 24 (0x02 + r.1) 1
      if r.1 = 2 ∧ bitAt m.w0 3 = false then (none, s1.sat R.TM_DROP_CNT_RED 0 1) else (some r.1, s1)

/-! ### Entities (R345) -/

/-- The key of an entity: level 0 root to level 4 leaf. -/
def entKey (lvl i : Nat) : Nat := lvl * 2 ^ 20 + i

/-- An entity of the hierarchy. -/
def State.ent (s : State) (k : Nat) : Ent := KMap.getD s.tm.ents k Ent.fresh

/-- Set an entity. -/
def State.setEnt (s : State) (k : Nat) (e : Ent) : State :=
  { s with tm := { s.tm with ents := KMap.setD s.tm.ents k Ent.fresh e } }

/-- The entity named as parent by a record of level `lvl`. -/
def parentKey (lvl w0 : Nat) : Nat := entKey (lvl - 1) (bitsAt w0 13 14)

/-- EN of an entity; a poisoned entity is treated as having EN = 0 (R336). -/
def Ent.on (e : Ent) : Bool := bitAt e.w0 0 && !e.bad

/-- SH_EN. -/
def Ent.shaped (e : Ent) : Bool := bitAt e.w0 1

/-- PRIO. -/
def Ent.prio (e : Ent) : Nat := bitsAt e.w0 2 3

/-- The key of a ring: parent and PRIO (R346). -/
def ringKey (parent prio : Nat) : Nat := 8 * parent + prio

/-- A ring of children. -/
def State.ring (s : State) (k : Nat) : Ring := KMap.getD s.tm.rings k ⟨[], 0⟩

/-- Set a ring. -/
def State.setRing (s : State) (k : Nat) (r : Ring) : State :=
  { s with tm := { s.tm with rings := KMap.setD s.tm.rings k ⟨[], 0⟩ r } }

/-- The output code of an entity's tree (R331), following PARENT upward. -/
def State.rootOf (s : State) : Nat → Nat → Nat
  | 0, k => k % 2 ^ 20
  | lvl + 1, k => s.rootOf lvl (parentKey (lvl + 1) (s.ent k).w0)

/-- The sub-unit of Lumen block 25 of an output (R628). -/
def outSub (o : Nat) : Nat := if o < 16 then 0 else if o < 24 then 1 else 2

/-! ### Timing wheels (R351 to R355) -/

/-- The rate of an entity in 1/65,536 byte per 15,625 ns (R337). -/
def Ent.rate (e : Ent) : Nat := bitsAt e.w0 32 17 * 2 ^ bitsAt e.w0 49 4 * 128

/-- An entity's credit brought up to `now`, capped at BURST (R351). -/
def Ent.accrue (e : Ent) (now : Nat) : Ent :=
  let n := e.rate * (now - e.last) + e.rem
  let cap : Int := (bitsAt e.w1 0 24 * 65536 : Nat)
  { e with credit := min cap (e.credit + (n / 15625 : Nat)), rem := n % 15625, last := now }

/-- The eligibility time of an entity with negative credit and a rate above 0 (R351). -/
def Ent.eligAt (e : Ent) (now : Nat) : Nat := now + ((-e.credit).toNat * 15625 + e.rate - 1) / e.rate

/-- Place an entity on a wheel with eligibility time `E` (R353). -/
def State.place (s : State) (lvl k E : Nat) : State :=
  let now := s.time
  let fs := (E + 7) / 8
  let clamp := decide (4096 ≤ E / 65536 - now / 65536)
  let w : Wheel := if fs < now / 8 + 8192 then .fine fs
    else if clamp then .coarse (now / 65536 + 4095) else .coarse (E / 65536)
  let s1 := { s with tm := { s.tm with wheel := s.tm.wheel ++ [OnWheel.mk k w] } }
  let s2 := if clamp && !decide (fs < now / 8 + 8192) then s1.sat R.TM_WHEEL_STAT_CLAMPS 0 1 else s1
  s2.countSub 25 0x03 (outSub (s.rootOf lvl k)) 1

/-- Take an entity off the wheels. -/
def State.unplace (s : State) (k : Nat) : State :=
  { s with tm := { s.tm with wheel := s.tm.wheel.filter fun o => o.ent != k } }

/-- An ineligible entity is placed by its credit; with rate 0 it is on no wheel (R351, R353). -/
def State.shelve (s : State) (lvl k : Nat) : State :=
  let e := s.ent k
  if e.rate = 0 then s.setEnt k { e with wait := some 0 }
  else
    let E := e.eligAt s.time
    (s.setEnt k { e with wait := some E }).place lvl k E

/-- The fine slot of an entity on the wheel. -/
def OnWheel.fineSlot (o : OnWheel) : Option Nat :=
  match o.place with
  | .fine n => some n
  | _ => none

/-- The coarse slot of an entity on the wheel. -/
def OnWheel.coarseSlot (o : OnWheel) : Option Nat :=
  match o.place with
  | .coarse n => some n
  | _ => none

/-- The least number of a list of optional numbers. -/
def leastOf (l : List (Option Nat)) : Option Nat :=
  l.foldl (fun m o => match m, o with
    | none, o => o
    | some a, some b => some (Nat.min a b)
    | some a, none => some a) none

/-- Release one entity: it becomes eligible; late when its slot has passed (R354). -/
def State.releaseOne (s : State) (slot : Nat) (o : OnWheel) : State :=
  let s1 := (s.unplace o.ent).setEnt o.ent { s.ent o.ent with wait := none }
  if o.fineSlot = some slot then s1
  else (s1.sat R.TM_WHEEL_STAT_LATE 0 1).countSub 25 0x04 (outSub (s.rootOf (o.ent / 2 ^ 20) o.ent)) 1

/-- Order entities on the fine wheel: earlier slots first, each in order of placement (R354). -/
def fineOrder (upTo : Nat) (l : List OnWheel) (slots : List Nat) : List OnWheel :=
  (slots.filter fun n => decide (n ≤ upTo)).flatMap fun n => l.filter fun o => o.fineSlot == some n

/-- Insert a number into a rising list without repeats. -/
def insertNat (n : Nat) : List Nat → List Nat
  | [] => [n]
  | a :: r => if n < a then n :: a :: r else if n = a then a :: r else a :: insertNat n r

/-- The fine slots in which some entity of the wheel stands, rising. -/
def State.releaseSlots (s : State) : List Nat :=
  s.tm.wheel.foldl (fun l o => match o.fineSlot with
    | some n => insertNat n l
    | none => l) []

/-- Release at fine slot `n` (R354): at most 16 entities of it and of earlier slots. -/
def State.releaseAt (s : State) (n : Nat) : State :=
  let here := (s.tm.wheel.filter fun o => o.fineSlot == some n).length
  let s1 := s.wr R.TM_WHEEL_STAT_MAX_FILL 0 (Nat.max (s.rd R.TM_WHEEL_STAT_MAX_FILL 0) (Nat.min here 0xFFFF))
  let s2 := { s1 with tm := { s1.tm with fineAt := n + 1 } }
  ((fineOrder n s.tm.wheel s.releaseSlots).take 16).foldl (fun s o => s.releaseOne n o) s2

/-- SHAPER_RELEASE (R354): the timebase reaches a fine slot; at most 16 entities of it and of earlier slots become eligible. The slot
reached is the next one that has something to release. -/
def doShaperRelease (s : State) : State :=
  match s.releaseSlots.head? with
  | none => s
  | some n0 =>
    let n := Nat.max n0 s.tm.fineAt
    if s.time < 8 * n then s else s.releaseAt n

/-- COARSE_SLOT_ENTER (R353): the timebase has entered a coarse slot, and its entities are placed again. -/
def doCoarseSlotEnter (s : State) : State :=
  match leastOf (s.tm.wheel.map OnWheel.coarseSlot) with
  | none => s
  | some n =>
    if s.time < 65536 * n then s
    else
      let l := s.tm.wheel.filter fun o => o.coarseSlot == some n
      l.foldl (fun s o => (s.unplace o.ent).place (o.ent / 2 ^ 20) o.ent ((s.ent o.ent).wait.getD s.time)) s

/-! ### Admission (R330 to R332, R340, R343) -/

/-- The leaf of a frame for an output (R332). -/
def State.leafOf (s : State) (o tc h : Nat) : Nat :=
  let fb := s.rd R.TM_OMAP_FLOW_BITS o
  (s.rd R.TM_OMAP_LEAF_BASE o + tc * 2 ^ s.rd R.TM_OMAP_TC_SH o + (if fb = 0 then 0 else h % 2 ^ 32 / 2 ^ (32 - fb))) % 65536

/-- Output codes that R331 assigns. -/
def outputCode (o : Nat) : Bool := decide (o < 18 ∨ (24 ≤ o ∧ o < 32))

/-- A frame with its colour goes to an output: it enters its leaf or is dropped (R332, R336, R343). Answers whether it entered. -/
def State.admitFrame (s : State) (f : Pkt) (o : Option Nat) (tc : Nat) (ue : Bool) : Bool × State :=
  let noOut := (false, (s.sat R.TM_DROP_CNT_NO_OUTPUT 0 1).freeFrame f)
  match o with
  | none => noOut
  | some o =>
    if !outputCode o || !s.flag R.TM_OMAP_EN o then noOut
    else
      let i := s.leafOf o tc f.h
      let k := entKey 4 i
      let e := s.ent k
      if ue || e.bad then
        (false, (((s.setEnt k { e with bad := true }).tmPoison (!e.bad) (2 ^ 24 + i)).count 24 0x05 1).freeFrame f)
      else
        let n := cellsOf f.data.length
        let lim := if f.colour = 0 then bitsAt e.w1 24 16 else bitsAt e.w1 40 16
        if e.fill + n ≤ lim then (true, s.setEnt k { e with frames := e.frames ++ [f], fill := e.fill + n })
        else (false, ((s.setEnt k { e with drops := satInc 32 e.drops }).count 24 0x05 1).freeFrame f)

/-- TM_ENQUEUE (R330, R331, R340, R343, R571): the oldest frame of a pipeline is metered, mapped to the leaf of its output and
admitted or dropped. -/
def doTmEnqueue (p : Nat) (meterUe leafUe : Bool) (s : State) : State :=
  match KMap.getD s.tm.inq p [] with
  | [] => s
  | f :: r =>
    let s0 := { s with tm := { s.tm with inq := KMap.setD s.tm.inq p [] r } }
    let m := s0.metered f meterUe
    match m.1 with
    | none => m.2.freeFrame f
    | some c =>
      let enter := fun (s : State) (o : Nat) => (s.admitFrame { f with colour := c } (some o) (bitsAt f.act 51 3) leafUe).2
      match f.dest with
      | some (.eth e) => enter m.2 e
      | some (.hostq q) => enter m.2 (16 + m.2.hostPort (m.2.rd R.QM_SQ_FUNC q))
      | some (.fabric n) =>
        match m.2.frameRoute n f.h with
        | .port k => enter m.2 (24 + k)
        | .here => (m.2.sat R.FWD_CNT_NH_BAD 0 1).freeFrame f
        | r => (m.2.countUnrouted r).freeFrame f
      | none => (m.2.admitFrame f none 0 leafUe).2

/-! ### Decisions (R346 to R349) -/

/-- Buffers posted on a receive queue and not taken by a frame handed over before (R349, R517). -/
def State.freeBuffers (s : State) (q : Nat) : Nat :=
  (KMap.getD s.qm.sq q SqRun.fresh).posted.length - (KMap.getD s.tm.rxq q []).length

/-- QUIESCE and RX_RETURN are set for the function of a receive queue (R542). -/
def State.rxReturning (s : State) (q : Nat) : Bool :=
  let f := s.rd R.QM_SQ_FUNC q
  s.flag R.HIF_FN_QCTL_QUIESCE f && s.flag R.HIF_FN_QCTL_RX_RETURN f

/-- A leaf is BLOCKED (R349): its oldest frame is bound for a receive queue with no posted buffer. -/
def State.blocked (s : State) (e : Ent) : Bool :=
  match e.frames with
  | f :: _ => match f.dest with
    | some (.hostq q) => s.freeBuffers q == 0 && !s.rxReturning q
    | _ => false
  | [] => false

/-- BACKLOG (R345): a frame is held in the entity or below it. `n` levels lie below. -/
def State.backlog (s : State) : Nat → Nat → Bool
  | 0, k => !(s.ent k).frames.isEmpty
  | n + 1, k => (List.range 8).any fun pr => (s.ring (ringKey k pr)).kids.any fun c => s.backlog n c

/-- ELIGIBLE (R345, R351). -/
def Ent.eligible (e : Ent) : Bool := !e.shaped || e.wait.isNone

/-- A child is ready (R346). -/
def State.ready (s : State) : Nat → Nat → Bool
  | 0, k =>
    let e := s.ent k
    e.on && e.eligible && !e.frames.isEmpty && !s.blocked e
  | n + 1, k =>
    let e := s.ent k
    e.on && e.eligible && (List.range 8).any fun pr => (s.ring (ringKey k pr)).kids.any fun c => s.ready n c

/-- What a descent finds: the leaf, its frame's length, and the rings with their pointer and deficits after the pick. -/
structure Pick where
  leaf  : Nat
  path  : List Nat
  len   : Nat
  moves : List (Nat × Nat × List (Nat × Nat))
  deriving DecidableEq, Repr

/-- The next child of a ring after `c`. -/
def nextKid (l : List Nat) (c : Nat) : Nat :=
  match l.dropWhile (fun x => x != c) with
  | _ :: d :: _ => d
  | _ => l.headD c

/-- A deficit as changed so far. -/
def deficitOf (s : State) (dd : KMap Nat) (c : Nat) : Nat := KMap.getD dd c (s.ent c).deficit

/-- The loop of R346 over a ring with pointer `cur`: the child picked and the deficits changed. `pick c` is the descent below `c` when
it is ready. -/
def drr (s : State) (n : Nat) (kids : List Nat) (pick : Nat → Option Pick) : Nat → Nat → KMap Nat → Option (Pick × Nat × KMap Nat)
  | 0, _, _ => none
  | fuel + 1, cur, dd =>
    let here := match pick cur with
      | some p => if p.len ≤ deficitOf s dd cur then some p else none
      | none => none
    match here with
    | some p => some (p, cur, dd)
    | none =>
      let dd1 := if s.backlog n cur then dd else KMap.put dd cur 0
      let nx := nextKid kids cur
      let dd2 := if s.ready n nx then
          KMap.put dd1 nx (deficitOf s dd1 nx + 512 * bitsAt (s.ent nx).w0 5 8) else dd1
      drr s n kids pick fuel nx dd2

/-- The descent of R346 from entity `k` with `n` levels below it: the leaf whose oldest frame is to be sent. -/
def State.descend (s : State) (adj : Nat) : Nat → Nat → Option Pick
  | 0, k =>
    match (s.ent k).frames with
    | f :: _ => some ⟨k, [k], adjLen f.data.length adj, []⟩
    | [] => none
  | n + 1, k =>
    match (List.range 8).find? fun pr => (s.ring (ringKey k pr)).kids.any fun c => s.ready n c with
    | none => none
    | some pr =>
      let r := s.ring (ringKey k pr)
      let pick := fun c => if s.ready n c then s.descend adj n c else none
      match drr s n r.kids pick (40 * (r.kids.length + 1)) r.cur [] with
      | some (p, cur, dd) => some ⟨p.leaf, k :: p.path, p.len, (ringKey k pr, cur, dd) :: p.moves⟩
      | none => none

/-- Charge a frame's length to an entity (R347, R351). -/
def State.charge (s : State) (len : Nat) (k : Nat) : State :=
  let lvl := k / 2 ^ 20
  let e0 := s.ent k
  let e := if lvl = 0 then e0 else { e0 with deficit := e0.deficit - len }
  if e.shaped then
    let e1 := e.accrue s.time
    let e2 := { e1 with credit := e1.credit - (len * 65536 : Nat) }
    let s1 := s.setEnt k e2
    if e2.credit < 0 then s1.shelve lvl k else s1
  else s.setEnt k e

/-- An Ethernet port can take a frame (R347, R739): LINK_UP and LOOPBACK not 2. That its MAC has room is the sender's to say: it issues
the decision. -/
def State.ethTakes (s : State) (e : Nat) : Bool :=
  s.flag R.ETH_PORT_STAT_LINK_UP e && s.rd R.ETH_PORT_CFG_LOOPBACK e != 2

/-- Write the destination MAC of a frame whose next hop says so (R290). -/
def Pkt.rewritten (f : Pkt) : Pkt :=
  match f.rewrite with
  | some m => { f with data := beBytes 6 m ++ f.data.drop 6, rewrite := none }
  | none => f

/-- The frame goes to its output: to a receive queue that returns its buffers it is dropped and counted (R542). -/
def State.toOutput (s : State) (o : Nat) (f : Pkt) : State :=
  if o < 16 then { s with ethTx := KMap.setD s.ethTx o [] (KMap.getD s.ethTx o [] ++ [f]) }
  else if o < 18 then
    match f.dest with
    | some (.hostq q) =>
      if s.rxReturning q then (s.sat R.HIF_FN_QCTL_RX_DROP (s.rd R.QM_SQ_FUNC q) 1).freeFrame f
      else { s with tm := { s.tm with rxq := KMap.setD s.tm.rxq q [] (KMap.getD s.tm.rxq q [] ++ [f]) } }
    | _ => s.freeFrame f
  else
    match f.dest with
    | some (.fabric n) =>
      let k := o - 24
      (s.putOut k (s.hop k (s.framePkt n f.h f.data)) false).freeFrame f
    | _ => s.freeFrame f

/-- The transfer of a frame to its output (R347): it is rewritten while its carry checks are verified (R53, R290); a mismatch drops
it, counted and reported (R56, R57). -/
def State.handOver (s : State) (o : Nat) (f : Pkt) (badSegment : Option Nat) : State :=
  let bad := match badSegment with
    | some g => decide (g < segmentsOf f.data.length)
    | none => false
  if bad then ((s.carryFault (unitId 9 0)).count 65 0x03 1).freeFrame f else s.toOutput o f.rewritten

/-- The output of root `o` can take a frame of length `len` (R347). Whether a MAC or the host interface has room is the sender's to
say: it issues the decision. -/
def State.outputTakes (s : State) (o len : Nat) : Bool :=
  if o < 16 then s.ethTakes o else if o < 24 then true else s.fabTakes (o - 24) len

/-- TM_DECISION (R346, R347, R348): root `o` picks a path down to a leaf and hands its oldest frame to the output. -/
def doTmDecision (o : Nat) (badSegment : Option Nat) (s : State) : State :=
  if outputCode o = true ∧ s.ready 4 (entKey 0 o) = true then
    match s.descend (s.rd R.TM_OMAP_LEN_ADJ o) 4 (entKey 0 o) with
    | none => s
    | some pk =>
      let s1 := pk.moves.foldl (fun s m =>
        m.2.2.foldl (fun s d => s.setEnt d.1 { s.ent d.1 with deficit := d.2 })
          (s.setRing m.1 { s.ring m.1 with cur := m.2.1 })) s
      let e := s1.ent pk.leaf
      match e.frames with
      | [] => s
      | f :: r =>
        if s.outputTakes o f.data.length then
          let s2 := s1.setEnt pk.leaf { e with frames := r, fill := e.fill - cellsOf f.data.length }
          let s3 := pk.path.foldl (fun s k => s.charge pk.len k) s2
          let s4 := (s3.countSub 25 0x01 (outSub o) 1).countSub 25 0x02 (outSub o) f.data.length
          s4.handOver o f badSegment
        else s
  else s

/-! ### Record access (R334 to R336, R350, R352, R355) -/

/-- The level of a TARGET (R334), and whether INDEX names an entity of it (R345). -/
def targetLevel (t : Nat) : Nat := 5 - t

/-- Entities of each level, root to leaf (R345). -/
def levelCount (lvl : Nat) : Nat :=
  match lvl with
  | 0 => 32
  | 1 => 256
  | 2 => 2048
  | 3 => 16384
  | _ => 65536

/-- INDEX names a record of the TARGET. -/
def recordExists (t i : Nat) : Bool :=
  if t = 0 then decide (i < 262144)
  else decide (i < levelCount (targetLevel t)) && (t != 5 || outputCode i)

/-- The record of a meter, 256 bits, as R334 reads it at `now`. -/
def Meter.record (m0 : Meter) (now : Nat) : Nat :=
  let m := m0.accrue now
  m.w0 + m.w1 * 2 ^ 64 + m.tc / 65536 * 2 ^ 128 + m.te / 65536 * 2 ^ 152 + m.green * 2 ^ 176 + m.yellow * 2 ^ 202
    + m.red * 2 ^ 228

/-- The record of an entity, 256 bits (R345). -/
def State.entRecord (s : State) (lvl k : Nat) : Nat :=
  let e0 := s.ent k
  let e := if e0.shaped then e0.accrue s.time else e0
  let credit := if e.shaped then toSigned 32 (e.credit / 65536) else 0
  e.w0 + e.w1 * 2 ^ 64 + e.fill * 2 ^ 128 + b2n (s.backlog (4 - lvl) k) * 2 ^ 144 + b2n e.eligible * 2 ^ 145
    + b2n (lvl == 4 && s.blocked e) * 2 ^ 146 + credit * 2 ^ 160 + e.deficit % 2 ^ 32 * 2 ^ 192 + e.drops * 2 ^ 224

/-- Fill TM_IND_DATA with a record. -/
def State.indData (s : State) (v : Nat) : State :=
  (List.range 4).foldl (fun s k => s.wr R.TM_IND_DATA_DATA k (bitsAt v (64 * k) 64)) s

/-- A read that meets a poisoned record (R336). -/
def State.indUe (s : State) : State := (s.indData 0).wr R.TM_IND_CTL_ERR 0 4

/-- A record read (R334, R336); `ue`: the record is found uncorrectable now. -/
def State.indRead (s : State) (t i : Nat) (ue : Bool) : State :=
  if t = 0 then
    let m := s.meter i
    if m.bad then (s.tmPoison false i).indUe
    else if ue then ((s.setMeter i { m with bad := true }).tmPoison true i).indUe
    else s.indData (m.record s.time)
  else
    let lvl := targetLevel t
    let k := entKey lvl i
    let ix := t * 2 ^ 20 + i
    if (s.ent k).bad then (s.tmPoison false ix).indUe
    else if ue then ((s.setEnt k { s.ent k with bad := true }).tmPoison true ix).indUe
    else s.indData (s.entRecord lvl k)

/-- A meter record write carries a reserved encoding (R335, R337). -/
def meterBad (w0 w1 : Nat) : Bool := bitsAt w0 6 2 != 0 || bitsAt w0 58 6 != 0 || bitsAt w1 48 16 != 0

/-- Write a meter record (R337, R338). -/
def State.writeMeter (s : State) (i w0 w1 : Nat) : State :=
  let m := (s.meter i).accrue s.time
  let en := bitAt w0 0
  let fill := bitAt w0 4 || (en && !m.filled)
  let cbs := bitsAt w1 0 24 * 65536
  let ebs := bitsAt w1 24 24 * 65536
  let clr := bitAt w0 5
  s.setMeter i
    { w0 := putBits w0 4 2 0, w1 := w1, tc := if fill then cbs else Nat.min m.tc cbs
      te := if fill then ebs else Nat.min m.te ebs, remC := m.remC, remE := m.remE, last := s.time
      green := if clr then 0 else m.green, yellow := if clr then 0 else m.yellow, red := if clr then 0 else m.red
      filled := m.filled || en, bad := false }

/-- A hierarchy record write carries a reserved encoding (R335, R345). -/
def entBad (lvl w0 w1 : Nat) : Bool :=
  let parent := bitsAt w0 13 14
  bitsAt w0 5 8 == 0 || bitsAt w0 28 4 != 0 || bitsAt w0 53 11 != 0 || bitsAt w1 0 24 == 0 || bitsAt w1 56 8 != 0
    || (lvl == 1 && !outputCode parent) || (decide (2 ≤ lvl) && decide (levelCount (lvl - 1) ≤ parent))

/-- Take a child out of a ring; the pointer goes to the child after it. -/
def State.leaveRing (s : State) (rk c : Nat) : State :=
  let r := s.ring rk
  let l := r.kids.filter fun x => x != c
  s.setRing rk ⟨l, if l = [] then 0 else if r.cur = c then (let n := nextKid r.kids c; if n = c then l.headD 0 else n) else r.cur⟩

/-- Put a child at the end of a ring (R350). -/
def State.joinRing (s : State) (rk c : Nat) : State :=
  let r := s.ring rk
  s.setRing rk ⟨r.kids ++ [c], if r.kids = [] then c else r.cur⟩

/-- Write a hierarchy record that carries no reserved encoding (R350, R352, R355). -/
def State.writeEnt (s : State) (lvl i w0 w1 : Nat) : State :=
  let k := entKey lvl i
  let e0 := s.ent k
  let e := if e0.shaped then e0.accrue s.time else e0
  let en := bitAt w0 0
  let sh := bitAt w0 1
  let rise := (en && !bitAt e.w0 0) || (sh && !bitAt e.w0 1)
  let free := !en || !sh || rise
  let n : Ent := { e with
    w0 := putBits w0 27 1 0, w1 := w1, credit := if rise then (bitsAt w1 0 24 * 65536 : Nat) else e.credit
    rem := if rise then 0 else e.rem, last := s.time, wait := if free then none else e.wait
    deficit := if en && !bitAt e.w0 0 then 0 else e.deficit, drops := if bitAt w0 27 then 0 else e.drops, bad := false }
  let s1 := s.setEnt k n
  let s2 := if free then s1.unplace k else s1
  let s3 := if e.wait = some 0 ∧ n.wait = some 0 ∧ n.rate ≠ 0 then s2.shelve lvl k else s2
  if lvl = 0 then s3
  else
    let was := bitAt e.w0 0
    let ok := ringKey (parentKey lvl e.w0) e.prio
    let nk := ringKey (parentKey lvl n.w0) n.prio
    if was && en && ok == nk then s3
    else
      let s4 := if was then s3.leaveRing ok k else s3
      if en then s4.joinRing nk k else s4

/-- A record write (R335, R350). -/
def State.indWrite (s : State) (t i : Nat) : State :=
  let w0 := s.rd R.TM_IND_DATA_DATA 0
  let w1 := s.rd R.TM_IND_DATA_DATA 1
  if t = 0 then if meterBad w0 w1 then s.wr R.TM_IND_CTL_ERR 0 2 else s.writeMeter i w0 w1
  else
    let lvl := targetLevel t
    let e := s.ent (entKey lvl i)
    if entBad lvl w0 w1 then s.wr R.TM_IND_CTL_ERR 0 2
    else if lvl ≠ 0 ∧ bitAt e.w0 0 = true ∧ bitsAt e.w0 13 14 ≠ bitsAt w0 13 14 then s.wr R.TM_IND_CTL_ERR 0 3
    else s.writeEnt lvl i w0 w1

/-- A write of TM_IND_CTL (R334): the fields are taken at all times; GO performs the access unless BUSY. -/
def State.wrIndCtl (s : State) (w : Writer) (val : Nat) (ue : Bool) : State :=
  let s1 := s.wrReg w Reg.TM_IND_CTL 0 val
  if !bitAt val 22 then s1
  else if s1.flag R.TM_IND_CTL_BUSY 0 then s1.wr R.TM_IND_CTL_REFUSED 0 1
  else
    let s2 := s1.wrs 0 [(R.TM_IND_CTL_BUSY, 1), (R.TM_IND_CTL_ERR, 0), (R.TM_IND_CTL_REFUSED, 0)]
    let t := s2.rd R.TM_IND_CTL_TARGET 0
    let i := s2.rd R.TM_IND_CTL_INDEX 0
    if !recordExists t i then s2.wr R.TM_IND_CTL_ERR 0 1
    else if s2.flag R.TM_IND_CTL_WRITE 0 then s2.indWrite t i
    else s2.indRead t i ue

/-- TM_RECORD_READ (R334, R336): GO with WRITE 0; `ue`: the record is found uncorrectable. -/
def doTmRecordRead (w : Writer) (val : Nat) (ue : Bool) (s : State) : State :=
  if s.mayWrite w (Reg.TM_IND_CTL.off 0) then s.wrIndCtl w (putBits (orBit val 22) 21 1 0) ue else s

/-- TM_RECORD_WRITE (R335): GO with WRITE 1. -/
def doTmRecordWrite (w : Writer) (val : Nat) (s : State) : State :=
  if s.mayWrite w (Reg.TM_IND_CTL.off 0) then s.wrIndCtl w (orBit (orBit val 22) 21) false else s

/-- TM_IND_DONE (R334, R92): the access completes and BUSY clears. -/
def doTmIndDone (s : State) : State :=
  if s.flag R.TM_IND_CTL_BUSY 0 then (s.wr R.TM_IND_CTL_BUSY 0 0).latchLine 30 else s

/-! ### Frames held for firmware (R356 to R359) -/

/-- Take a held frame out of the frames held for firmware. -/
def State.unhold (s : State) (h : Nat) : State :=
  let s1 := { s with pb := { s.pb with held := KMap.del s.pb.held h } }
  s1.wr R.TM_PKT_STAT_HELD 0 s1.pb.held.length

/-- The command in progress ends with a status; PKT_CMD_DONE shows it. -/
def State.pktEnd (s : State) (st : Nat) : State := { s with tm := { s.tm with cmd := some (.done st) } }

/-- COPY (R358): the frame's bytes go to HBM; a carry mismatch in segment `g` stops the copy before it. -/
def State.pktCopy (s : State) (h : Nat) (f : Pkt) (g : Option Nat) : State :=
  let a := s.rd R.TM_PKT_ADDR_ADDR 0 * 64
  let n := f.data.length
  let bad := match g with
    | some k => decide (k < segmentsOf n)
    | none => false
  if !inHbm s.part a n then s.pktEnd 3
  else if bad then
    let s1 := s.setBytes a (f.data.take (256 * g.getD 0))
    ((((s1.carryFault (unitId 9 0)).count 65 0x03 1).unhold h).freeFrame f).pktEnd 5
  else
    let s1 := s.setBytes a f.data
    (if s.flag R.TM_PKT_CMD_KEEP 0 then s1 else (s1.unhold h).freeFrame f).pktEnd 0

/-- A held-frame command runs (R358); `g`: the segment whose carry check fails in a COPY. -/
def State.pktRun (s : State) (g : Option Nat) : State :=
  let op := s.rd R.TM_PKT_CMD_OP 0
  let h := s.rd R.TM_PKT_CMD_HANDLE 0
  if op = 0 then s.pktEnd 0
  else if 5 ≤ op then s.pktEnd 2
  else
    match KMap.find s.pb.held h with
    | none => s.pktEnd 1
    | some x =>
      let f := x.pkt
      match op with
      | 1 => ((s.unhold h).freeFrame f).pktEnd 0
      | 2 => s.pktCopy h f g
      | 3 =>
        let r := (s.unhold h).admitFrame { f with h := 0, colour := 0, rewrite := none } (some (s.rd R.TM_PKT_CMD_INJ_OUT 0))
          (s.rd R.TM_PKT_CMD_INJ_TC 0) false
        r.2.pktEnd (if r.1 then 0 else 4)
      | _ =>
        let s1 := (s.unhold h).enterPrism { f with forced := some (s.rd R.TM_PKT_CMD_INJ_PROF 0), reparse := true }
        { s1 with tm := { s1.tm with cmd := some .placing } }

/-- A write of TM_PKT_CMD (R358, R359). -/
def State.wrPktCmd (s : State) (w : Writer) (val : Nat) (g : Option Nat) : State :=
  if s.flag R.TM_PKT_CMD_BUSY 0 then s
  else
    let s1 := s.wrReg w Reg.TM_PKT_CMD 0 val
    if bitAt val 35 then (s1.wrs 0 [(R.TM_PKT_CMD_BUSY, 1), (R.TM_PKT_CMD_STATUS, 0)]).pktRun g else s1

/-- A write of TM_PKT_CMD with GO and the OP of a row. -/
def State.pktGo (s : State) (w : Writer) (val op : Nat) (g : Option Nat) : State :=
  if s.mayWrite w (Reg.TM_PKT_CMD.off 0) then s.wrPktCmd w (orBit (putBits val 32 3 op) 35) g else s

/-- PKT_NOP (R358): no effect beside the command's completion; a reserved OP ends with BAD_OP. -/
def doPktNop (w : Writer) (val : Nat) (s : State) : State :=
  s.pktGo w val (if 5 ≤ bitsAt val 32 3 then bitsAt val 32 3 else 0) none

/-- PKT_FREE (R358). -/
def doPktFree (w : Writer) (val : Nat) (s : State) : State := s.pktGo w val 1 none

/-- PKT_COPY (R358). -/
def doPktCopy (w : Writer) (val : Nat) (badSegment : Option Nat) (s : State) : State := s.pktGo w val 2 badSegment

/-- PKT_INJECT (R358). -/
def doPktInject (w : Writer) (val : Nat) (s : State) : State := s.pktGo w val 3 none

/-- PKT_REPARSE (R358). -/
def doPktReparse (w : Writer) (val : Nat) (s : State) : State := s.pktGo w val 4 none

/-- PKT_CMD_DONE (R358, R92): the command has run, and for REPARSE its frame is in Prism's input queue; BUSY clears. -/
def doPktCmdDone (s : State) : State :=
  match s.tm.cmd with
  | some (.done st) =>
    let s1 := { s with tm := { s.tm with cmd := none } }
    (s1.wrs 0 [(R.TM_PKT_CMD_STATUS, st), (R.TM_PKT_CMD_BUSY, 0)]).latchLine 31
  | _ => s

/-- HELD_FRAME_EXPIRE (R357): HOLD_MS after its message a held frame is freed and counted. -/
def doHeldFrameExpire (handle : Nat) (s : State) : State :=
  match KMap.find s.pb.held handle with
  | some x =>
    if s.time < x.since + 1000000 * s.rd R.TM_PKT_CFG_HOLD_MS 0 then s
    else ((s.unhold handle).sat R.TM_PKT_STAT_EXPIRED 0 1).freeFrame x.pkt
  | none => s

/-! ### The meanings of the rows -/

/-- TM_ENQUEUE (R330). -/
def execTmEnqueue (p : Nat) (meterUe : Bool) (leafUe : Bool) (s : State) : Host.Outcome State Fault Refusal :=
  .next (s.after (doTmEnqueue p meterUe leafUe s))

/-- TM_DECISION (R347). -/
def execTmDecision (o : Nat) (badSegment : Option Nat) (s : State) : Host.Outcome State Fault Refusal :=
  .next (s.after (doTmDecision o badSegment s))

/-- SHAPER_RELEASE (R354). -/
def execShaperRelease (s : State) : Host.Outcome State Fault Refusal :=
  .next (s.after (doShaperRelease s))

/-- COARSE_SLOT_ENTER (R353). -/
def execCoarseSlotEnter (s : State) : Host.Outcome State Fault Refusal :=
  .next (s.after (doCoarseSlotEnter s))

/-- TM_RECORD_READ (R334). -/
def execTmRecordRead (w : Writer) (val : Nat) (ue : Bool) (s : State) : Host.Outcome State Fault Refusal :=
  .next (s.after (doTmRecordRead w val ue s))

/-- TM_RECORD_WRITE (R335). -/
def execTmRecordWrite (w : Writer) (val : Nat) (s : State) : Host.Outcome State Fault Refusal :=
  .next (s.after (doTmRecordWrite w val s))

/-- TM_IND_DONE (R334). -/
def execTmIndDone (s : State) : Host.Outcome State Fault Refusal :=
  .next (s.after (doTmIndDone s))

/-- PKT_NOP (R358). -/
def execPktNop (w : Writer) (val : Nat) (s : State) : Host.Outcome State Fault Refusal :=
  .next (s.after (doPktNop w val s))

/-- PKT_FREE (R358). -/
def execPktFree (w : Writer) (val : Nat) (s : State) : Host.Outcome State Fault Refusal :=
  .next (s.after (doPktFree w val s))

/-- PKT_COPY (R358). -/
def execPktCopy (w : Writer) (val : Nat) (badSegment : Option Nat) (s : State) : Host.Outcome State Fault Refusal :=
  .next (s.after (doPktCopy w val badSegment s))

/-- PKT_INJECT (R358). -/
def execPktInject (w : Writer) (val : Nat) (s : State) : Host.Outcome State Fault Refusal :=
  .next (s.after (doPktInject w val s))

/-- PKT_REPARSE (R358). -/
def execPktReparse (w : Writer) (val : Nat) (s : State) : Host.Outcome State Fault Refusal :=
  .next (s.after (doPktReparse w val s))

/-- PKT_CMD_DONE (R358). -/
def execPktCmdDone (s : State) : Host.Outcome State Fault Refusal :=
  .next (s.after (doPktCmdDone s))

/-- HELD_FRAME_EXPIRE (R357). -/
def execHeldFrameExpire (handle : Nat) (s : State) : Host.Outcome State Fault Refusal :=
  .next (s.after (doHeldFrameExpire handle s))

end Sys2Proof.Machine
end

