-- ==== Sys2Proof/Machine/RegBus.lean ====
section
/-!
DEFINITION. Writing the device register space (R9 to R17): whole and half writes, the registers whose writes do more than set fields,
and memory requests to the BARs of a function (R45, R453 to R459).
-/

namespace Sys2Proof.Machine

/-! ### The value written (R13, R15) -/

/-- A write leaves a field as it stands when it does not touch it; bits of an event or a trigger are then 0 (R15). -/
def Fld.rests (f : Fld) : Bool :=
  match f.acc with
  | .ro | .rw | .rwl _ => true
  | _ => false

/-- The value of a register instance at rest. -/
def State.atRest (s : State) (d : RegD) (i : Nat) : Nat :=
  d.flds.foldl (fun v f => if f.rests then v ||| (s.rd f i % 2 ^ f.w) <<< f.lo else v) 0

/-- The register value that a write of `val` under `mask` in word `k` leaves (R15). -/
def State.compose (s : State) (d : RegD) (i k val mask : Nat) : Nat :=
  clearMask (s.atRest d i) (mask <<< (64 * k)) ||| ((val &&& mask) <<< (64 * k))

/-- The fields that a write under `mask` in word `k` touches. -/
def RegD.touched (d : RegD) (k mask : Nat) : RegD :=
  { d with flds := d.flds.filter fun f => bitsAt (mask <<< (64 * k)) f.lo f.w != 0 }

/-- What a field will hold after a write of the value `v` of its register (R13). -/
def State.newVal (s : State) (f : Fld) (i v : Nat) : Nat := if f.admits (f.of v) then f.of v else s.rd f i

/-- A reserved combination: its fields keep their previous values (R13). -/
def State.keepFlds (s : State) (i v : Nat) (bad : Bool) (fs : List Fld) : Nat :=
  if bad then fs.foldl (fun v f => putBits v f.lo f.w (s.rd f i)) v else v

/-! ### Registers whose writes do more (by block) -/

/-- A binding of an event input (R79 to R81). -/
def State.wrEvbind (s : State) (i v : Nat) : State :=
  let t := i / 32
  let ty := if 7 ≤ bitsAt v 0 4 then s.rd R.LTN_EVBIND_SRC_TYPE i else bitsAt v 0 4
  let chan := bitsAt v 16 12
  if slotOf t = 0 ∧ i % 32 < 4 then s
  else if ty = 4 ∧ (chan / 256 ≠ clusterOf t ∨ s.reader chan ≠ t) then s
  else
    (s.wrs i [(R.LTN_EVBIND_SRC_TYPE, ty), (R.LTN_EVBIND_SCOPE, bitsAt v 4 2), (R.LTN_EVBIND_GROUP, bitsAt v 8 4),
      (R.LTN_EVBIND_SRC_ID, bitsAt v 16 16)]).settle t

/-- LTN_CH_CFG (R96, R97). -/
def State.wrChan (s : State) (w : Writer) (chan v : Nat) : State :=
  if s.flag R.LTN_CH_CFG_ENABLE chan then (if bitAt v 0 then s else doChannelDisable w chan s)
  else if bitAt v 0 then doChannelEnable w chan v s
  else s.wrChanCfg chan v

/-- LTN_THR_CTL (R120, R121). -/
def State.wrThrCtl (s : State) (w : Writer) (t v : Nat) : State :=
  if bitAt v 1 then doKill w t (bitAt v 0) s else if bitAt v 0 then doStart w t s else s

/-- LTN_DBG_CTL (R122, R123). -/
def State.wrDbgCtl (s : State) (w : Writer) (c v : Nat) : State :=
  s.debugOr w (Reg.LTN_DBG_CTL.off c) fun s =>
    let s1 := (s.wr R.LTN_DBG_CTL_HB_PAUSE_ON_HALT c (bitsAt v 24 1)).wr R.LTN_DBG_CTL_BP_EN c (bitsAt v 25 1)
    let s2 := doDebugHaltRequest w c (bitsAt v 0 8) s1
    let s3 := if bitsAt v 8 8 = 0 then s2 else doDebugResume w c (bitsAt v 8 8) s2
    if bitsAt v 16 8 = 0 then s3 else doDebugStep w c (bitsAt v 16 8) s3

/-- The Lantern registers. `g`: write the fields by their Access codes. -/
def State.wrLtn (s : State) (w : Writer) (d : RegD) (i v : Nat) (g : Nat → State → State) : State :=
  if d.num = Reg.LTN_EVBIND.num then s.wrEvbind i v
  else if d.num = Reg.LTN_THR_IRQ.num then (s.modThr i fun th => { th with ie := bitAt v 1 }).settle i
  else if d.num = Reg.LTN_CH_CFG.num then s.wrChan w i v
  else if d.num = Reg.LTN_CORE_FLTQ_STAT.num then
    if bitAt v 8 then (g v s).wr R.LTN_CORE_FLTQ_STAT_LOST i 0 else s
  else if d.num = Reg.LTN_GRP_CTL.num then doGroupCtlWrite w (i / 16) (i % 16) false v s
  else if d.num = Reg.LTN_GRP_MEMBERS.num then doGroupCtlWrite w (i / 16) (i % 16) true v s
  else if d.num = Reg.LTN_THR_CTL.num then s.wrThrCtl w i v
  else if d.num = Reg.LTN_DBG_CTL.num then s.wrDbgCtl w i v
  else if d.num = Reg.LTN_DMA_RING_CFG.num then s.wrDmaRing i v
  else if d.num = Reg.LTN_CL_IRQ_LATCH.num then doIrqLatchClear w (i / 8) (i % 8) v s
  else if d.num = Reg.LTN_CL_IRQ_SET.num then doIrqSetWrite w (i / 8) (i % 8) v s
  else if d.num = Reg.LTN_CORE_FLTQ_POP.num then doFltqPop w i s
  else if d.num = Reg.LTN_CORE_HB.num then doHeartbeat w i s
  else if d.num = Reg.LTN_THR_TIMER.num then doThreadTimerFire i (g v s)
  else if d.num = Reg.LTN_THR_EVPEND.num then (g v s).settle i
  else if d.num = Reg.LTN_THR_DBGDATA.num then doDbgdataWrite w i v s
  else g v s

/-- The memory-system registers (R205, R221, R231). -/
def State.wrMem (s : State) (w : Writer) (d : RegD) (v : Nat) (g : Nat → State → State) : State :=
  if d.num = Reg.MEM_SCRUB_CTL.num then (g v s).settleCond
  else if d.num = Reg.MEM_TLBI_CTL.num then s.wrTlbi w v
  else if d.num = Reg.MEM_XLF_RESP.num then s.wrXlf v
  else g v s

/-- The pipeline that an instance of a parser or classifier register belongs to. -/
def pipeOf (d : RegD) (i : Nat) : Nat := i / (d.dims.drop 1).foldl (fun n e => n * e.2) 1

/-- DST_BIT and WIDTH of an extract instruction (R248). -/
def State.keyxBad (s : State) (i v : Nat) : Bool :=
  decide (640 < s.newVal R.PRS_KEYX_DST_BIT i v + s.newVal R.PRS_KEYX_WIDTH i v)

/-- The parser and classifier registers (R238, R239, R248, R270, R273, R279): staged ones wait for a batch. -/
def State.wrPrism (s : State) (d : RegD) (i v : Nat) (g : Nat → State → State) : State :=
  let p := pipeOf d i
  if d.num = Reg.PSM_UPD_CTL.num then s.wrUpdCtl p v
  else if d.num = Reg.PSM_PLACE.num then s.wrPlace p v
  else if d.num = Reg.PSM_RDSEL.num then s.wrRdsel p v
  else if d.num = Reg.PSM_UPD_OP.num then (if s.flag R.PSM_UPD_CTL_BUSY p then s else g v s)
  else if stagedRegs.any fun e => e.1.num == d.num then
    let v1 := if d.num = Reg.PRS_KEYX.num then s.keepFlds i v (s.keyxBad i v) [R.PRS_KEYX_DST_BIT, R.PRS_KEYX_WIDTH] else v
    (g v1 s).wr R.PSM_UPD_CTL_STAGED p 1
  else g v s

/-- A field offset that R284 reserves: not a multiple of 8, or the field not within key bits [639:48]. For the address, the shorter of
its two widths decides. -/
def pselBad (b w : Nat) : Bool := decide (b % 8 ≠ 0 ∨ b < 48 ∨ 640 < b + w)

/-- The forwarding registers (R284, R300, R309 to R313, R317, R324). -/
def State.wrFwd (s : State) (w : Writer) (d : RegD) (i v : Nat) (g : Nat → State → State) : State :=
  if d.num = Reg.FWD_PSEL.num then
    let v1 := s.keepFlds i v (pselBad (R.FWD_PSEL_DA_BIT.of v) 48) [R.FWD_PSEL_DA_BIT]
    let v2 := s.keepFlds i v1 (pselBad (R.FWD_PSEL_SA_BIT.of v) 48) [R.FWD_PSEL_SA_BIT]
    g (s.keepFlds i v2 (pselBad (R.FWD_PSEL_IP_BIT.of v) 32) [R.FWD_PSEL_IP_BIT]) s
  else if d.num = Reg.FWD_LPM_DRAIN.num then (if bitAt v 0 then doLpmDrainGo w s else s)
  else if d.num = Reg.FWD_FLOW_CFG.num then s.wrFlowCfg v
  else if d.num = Reg.FWD_FLOW_SEED.num then (if s.flag R.FWD_FLOW_CFG_EN 0 then s else g v s)
  else if d.num = Reg.FWD_FLOW_CTL.num then s.wrFlowCtl v
  else if d.num = Reg.FWD_FLOW_OP.num then (if s.flag R.FWD_FLOW_CTL_BUSY 0 then s else g v s)
  else if d.num = Reg.FWD_MAC_SEED.num then (if s.rd R.FWD_MAC_STAT_ENTRIES i = 0 then g v s else s)
  else if d.num = Reg.FWD_MAC_CMD.num then s.wrMacCmd i v
  else if d.num = Reg.FWD_MAC_CMD_DATA.num then (if s.flag R.FWD_MAC_CMD_BUSY i then s else g v s)
  else g v s

/-- The traffic-manager registers (R332, R334, R343, R358). -/
def State.wrTm (s : State) (w : Writer) (d : RegD) (i v : Nat) (g : Nat → State → State) : State :=
  if d.num = Reg.TM_OMAP.num then
    if 18 ≤ i ∧ i < 24 then s
    else g (s.keepFlds i v (decide (R.TM_OMAP_TC_SH.of v < R.TM_OMAP_FLOW_BITS.of v)) [R.TM_OMAP_TC_SH, R.TM_OMAP_FLOW_BITS]) s
  else if d.num = Reg.TM_IND_CTL.num then s.wrIndCtl w v false
  else if d.num = Reg.TM_BUF_STAT.num then
    if bitAt v 38 then s.wr R.TM_BUF_STAT_LOW 0 (s.rd R.TM_BUF_STAT_FREE 0) else s
  else if d.num = Reg.TM_PKT_CMD.num then s.wrPktCmd w v none
  else if d.num = Reg.TM_PKT_ADDR.num then (if s.flag R.TM_PKT_CMD_BUSY 0 then s else g v s)
  else g v s

/-- The Glint registers (R375, R379, R382). -/
def State.wrGlt (s : State) (w : Writer) (d : RegD) (i v : Nat) (g : Nat → State → State) : State :=
  if d.num = Reg.GLT_ROOT.num then doRootSlotDisable w i v s
  else if d.num = Reg.GLT_CTX_BASE.num then s.wrCtxBase v
  else if d.num = Reg.GLT_CTX_CMD.num then s.wrCtxCmd v
  else g v s

/-- The storage front-end registers (R411, R412, R423, R443). -/
def State.wrNvm (s : State) (w : Writer) (d : RegD) (i v : Nat) (g : Nat → State → State) : State :=
  if d.num = Reg.NVM_CTRL_CFG.num then s.viaFn w (Reg.NVM_CTRL_CFG.off i) i (g v)
  else if d.num = Reg.NVM_CFG.num then s.wrNvmCfg v
  else if d.num = Reg.NVM_NSMAP_BASE.num ∨ d.num = Reg.NVM_SLOT_BASE.num ∨ d.num = Reg.NVM_STAGE.num then
    if s.flag R.NVM_CFG_EN 0 then s else g v s
  else if d.num = Reg.NVM_DONE.num then s.wrNvmDone v
  else if d.num = Reg.NVM_FWACT.num then s.wrFwact v
  else g v s

/-- HIF_PF_VF: a range that R533 reserves. -/
def State.vfRangeBad (s : State) (i v : Nat) : Bool :=
  let a := s.newVal R.HIF_PF_VF_FIRST i v
  let n := s.newVal R.HIF_PF_VF_COUNT i v
  decide (n ≠ 0 ∧ (a < 8 ∨ 4096 < a + n))

/-- The host-interface registers (R459, R533, R536, R538, R540, R541, R549). -/
def State.wrHif (s : State) (w : Writer) (d : RegD) (i v : Nat) (g : Nat → State → State) : State :=
  if d.num = Reg.HIF_APERTURE.num then
    g (s.keepFlds i v (decide (s.part = .b24 ∧ 36 < R.HIF_APERTURE_BASE_GIB.of v)) [R.HIF_APERTURE_BASE_GIB]) s
  else if d.num = Reg.HIF_PF_VF.num then g (s.keepFlds i v (s.vfRangeBad i v) [R.HIF_PF_VF_FIRST, R.HIF_PF_VF_COUNT]) s
  else if d.num = Reg.HIF_FN_CFG.num then
    let sq := if i < 8 then 65536 else 4096
    let cq := if i < 8 then 16384 else 2048
    let v1 := s.keepFlds i v (decide (sq < R.HIF_FN_CFG_SQ_COUNT.of v)) [R.HIF_FN_CFG_SQ_COUNT]
    s.viaFn w (Reg.HIF_FN_CFG.off i) i (g (s.keepFlds i v1 (decide (cq < R.HIF_FN_CFG_CQ_COUNT.of v)) [R.HIF_FN_CFG_CQ_COUNT]))
  else if d.num = Reg.HIF_PF_QRANGE.num then
    let sq := decide (65536 < R.HIF_PF_QRANGE_SQ_FIRST.of v + R.HIF_PF_QRANGE_SQ_NUM.of v)
    let cq := decide (16384 < R.HIF_PF_QRANGE_CQ_FIRST.of v + R.HIF_PF_QRANGE_CQ_NUM.of v)
    let v1 := s.keepFlds i v sq [R.HIF_PF_QRANGE_SQ_FIRST, R.HIF_PF_QRANGE_SQ_NUM]
    g (s.keepFlds i v1 cq [R.HIF_PF_QRANGE_CQ_FIRST, R.HIF_PF_QRANGE_CQ_NUM]) s
  else if d.num = Reg.HIF_NOTICE_STAT.num then
    if bitAt v 7 then (g v s).wr R.HIF_NOTICE_STAT_LOST 0 0 else s
  else if d.num = Reg.HIF_FN_QCTL.num then
    s.viaFn w (Reg.HIF_FN_QCTL.off i) i fun s =>
      if bitAt v 0 then s.quiesce i (bitAt v 1)
      else (if s.flag R.HIF_FN_QCTL_QUIESCE i then s.unquiesce i else s).wr R.HIF_FN_QCTL_RX_RETURN i (bitsAt v 1 1)
  else if d.num = Reg.HIF_MIR_CFG.num then s.wrMirCfg i v
  else if d.num = Reg.HIF_MIR_CTL.num then (if bitAt v 0 then s.harvest i else s)
  else g v s

/-- The queue-manager registers (R496 to R499, R520); `k`: the word of a record. -/
def State.wrQm (s : State) (w : Writer) (d : RegD) (i k v : Nat) (g : Nat → State → State) : State :=
  if d.num = Reg.QM_CFG.num then s.wrQmCfg v
  else if d.num = Reg.QM_SQ.num then s.writeSq w i k (bitsAt v (64 * k) 64)
  else if d.num = Reg.QM_CQ.num then s.writeCq w i k (bitsAt v (64 * k) 64)
  else if d.num = Reg.QM_FW_CPL_CTL.num then s.wrFwCpl v
  else g v s

/-- Buffer shares that R560 reserves. -/
def sharesBad (v : Nat) : Bool :=
  let a := bitsAt v 1 5
  let b := bitsAt v 6 5
  let c := bitsAt v 11 5
  let e := bitsAt v 16 5
  decide (64 < a + b + c + e ∨ a < 2 ∨ b < 2 ∨ e < 2 ∨ c < 5)

/-- The Beacon registers (R551, R559, R560, R582). -/
def State.wrBcn (s : State) (w : Writer) (d : RegD) (i v : Nat) (g : Nat → State → State) : State :=
  if d.num = Reg.BCN_CFG.num then (g v s).holdPorts
  else if d.num = Reg.BCN_PORT_CFG.num then
    (g (s.keepFlds i v (sharesBad v) [R.BCN_PORT_CFG_VC0_BUF, R.BCN_PORT_CFG_VC1_BUF, R.BCN_PORT_CFG_VC2_BUF,
      R.BCN_PORT_CFG_VC3_BUF]) s).holdPorts
  else if d.num = Reg.BCN_ROUTE.num then s.wrRoute w i v
  else g v s

/-- The Lens registers (R586, R588): records are staged. -/
def State.wrLns (s : State) (w : Writer) (d : RegD) (v : Nat) (g : Nat → State → State) : State :=
  if d.num = Reg.LNS_COMMIT.num then (if bitAt v 0 then doLensCommit w s else s)
  else if d.num = Reg.LNS_WR_DRAIN.num then (if bitAt v 0 then doLensWrDrain w s else s)
  else g v s

/-- GO of LHS_KEY_CMD with the OP that the write leaves (R679). -/
def State.wrKeyCmd (s : State) (w : Writer) (v : Nat) : State :=
  match s.newVal R.LHS_KEY_CMD_OP 0 v with
  | 0 => doKeyNop w v s
  | 1 => doKeyGenerate w v s
  | 2 => doKeyDeriveDevice w v s
  | 3 => doKeyImport w v s
  | _ => doKeyErase w v s

/-- LHS_FW_CTL (R682 to R686). -/
def State.wrFw (s : State) (w : Writer) (v : Nat) : State :=
  let s1 := s.wrFwCtl w v
  let s2 := if bitAt v 4 then doFwYield w s1 else s1
  let s3 := if bitAt v 5 then doFwOpen w s2 else s2
  if !bitAt v 2 then s3
  else
    match bitsAt v 0 2 with
    | 0 => doFwNop w v s3
    | 1 => doFwStage w v true s3
    | 2 => doFwActivate w v s3
    | _ => doFwConfirm w v s3

/-- The Lighthouse registers (R596, R603, R618, R626, R627, R670, R677, R679, R682). -/
def State.wrLhs (s : State) (w : Writer) (d : RegD) (i v : Nat) (g : Nat → State → State) : State :=
  if d.num = Reg.LHS_FLT_STAT.num then
    let s1 := g v s
    let s2 := if bitAt v 17 then s1.wr R.LHS_FLT_STAT_MERGED 0 0 else s1
    if bitAt v 1 then s2.settleCond else s2
  else if d.num = Reg.LHS_FLT_POP.num then (if bitAt v 16 then doFaultLogPop w v s else s)
  else if d.num = Reg.LHS_TEST_SCHED.num then (g v s).settleCond
  else if d.num = Reg.LHS_TEST_REQ.num then (if R.LHS_TEST_REQ_GO.of v = 1 then doTestRequest w v s else g v s)
  else if d.num = Reg.LHS_FADE_CFG.num then (if bitAt v 16 then doFadeRun w v [] [] true s else g v s)
  else if d.num = Reg.LHS_PLAN.num then (if bitAt v 30 then doPlanReset w i s else s)
  else if d.num = Reg.LHS_MBOX_CTL.num then (if bitAt v 17 then doRoleCommand none w v [] [] s else g v s)
  else if d.num = Reg.LHS_LOG_STAT.num then (if bitAt v 0 then doLogSeal w s else s)
  else if d.num = Reg.LHS_KEY_CMD.num then (if bitAt v 12 then s.wrKeyCmd w v else g v s)
  else if d.num = Reg.LHS_FW_CTL.num then s.wrFw w v
  else g v s

/-- The last event code of the kind of a counter block (R642, R646). -/
def eventMax (b : Nat) : Nat :=
  if b < 12 then 0x10 else if b < 20 then 9 else if b < 24 then 8 else if b = 24 then 6 else if b = 25 then 5
  else if b < 31 then 7 else if b = 31 then 6 else if b < 34 then 9 else if b < 36 then 6 else if b = 36 then 4
  else if b < 41 then 6 else if b < 49 then 4 else if b < 53 then 3 else if b < 65 then 4 else if b < 67 then 3
  else if b = 67 then 4 else if b < 70 then 3 else 2

/-- The Lumen registers (R631, R634, R638, R640). -/
def State.wrLum (s : State) (w : Writer) (d : RegD) (i v : Nat) (g : Nat → State → State) : State :=
  if d.num = Reg.LUM_CTL.num then
    if s.flag R.LUM_CTL_EN i then s.wrs i [(R.LUM_CTL_EN, bitsAt v 8 1), (R.LUM_CTL_OVF_IE, bitsAt v 10 1)]
    else g (s.keepFlds i v (decide (eventMax (i / 8) < bitsAt v 0 8)) [R.LUM_CTL_EVENT]) s
  else if d.num = Reg.LUM_VAL.num then (g v s).wr R.LUM_VAL_PERR i 0
  else if d.num = Reg.LUM_BLK_CTL.num then (if bitAt v 2 then doCounterBlockClear w i (g v s) else g v s)
  else if d.num = Reg.LUM_SNAP_CTL.num then (if bitAt v 0 then doSnapshotGo w (g v s) else g v s)
  else if d.num = Reg.LUM_GLOBAL_CTL.num then
    let s1 := if bitAt v 0 = s.flag R.LUM_GLOBAL_CTL_FREEZE_ALL 0 then s else doFreezeAll w (bitAt v 0) s
    if bitAt v 1 then doClearAll w s1 else s1
  else g v s

/-- The power registers (R697, R707). -/
def State.wrPwr (s : State) (w : Writer) (d : RegD) (i v : Nat) (g : Nat → State → State) : State :=
  if d.num = Reg.PWR_BLK_CFG.num then doPwrFloorWrite w i v s
  else if d.num = Reg.PWR_DEV_RST.num then (if bitAt v 0 then doDeviceSoftReset w s else s)
  else g v s

/-- The Ethernet registers (R26 to R28). -/
def State.wrEth (s : State) (w : Writer) (d : RegD) (i v : Nat) (g : Nat → State → State) : State :=
  if d.num = Reg.ETH_GRP_CFG.num then s.wrGrpCfg i v
  else if d.num = Reg.ETH_PORT_CFG.num then s.wrPortCfg w i v
  else if s.firstLane i then g v s else s

/-! ### The bus (R12 to R17) -/

/-- A write of `val` under `mask` in word `k` of a register instance takes effect. -/
def State.wrWordAt (s : State) (w : Writer) (d : RegD) (i k val mask : Nat) : State :=
  let v := s.compose d i k val mask
  let g := fun (x : Nat) (s : State) => s.wrLocked w (d.touched k mask) i x
  match d.base / 0x1000000 with
  | 0 => s.wrLhs w d i v g
  | 1 => s.wrPwr w d i v g
  | 2 => s.wrHif w d i v g
  | 3 => s.wrQm w d i k v g
  | 4 => s.wrNvm w d i v g
  | 5 | 6 => s.wrPrism d i v g
  | 7 => s.wrFwd w d i v g
  | 8 => s.wrTm w d i v g
  | 9 => s.wrGlt w d i v g
  | 10 => s.wrBcn w d i v g
  | 11 => s.wrLns w d v g
  | 12 => s.wrMem w d v g
  | 13 => s.wrLum w d i v g
  | 14 => s.wrEth w d i v g
  | _ => s.wrLtn w d i v g

/-- The key of a word that may hold a lower half (R16). -/
def halfKey (d : RegD) (i k : Nat) : Nat := (d.num * 2 ^ 24 + i) * 4 + k

/-- Hold a lower half, or discard it (R16). -/
def State.setHalf (s : State) (key : Nat) (h : Option (Writer × Nat)) : State :=
  { s with halves := match h with
    | some e => KMap.put s.halves key e
    | none => KMap.del s.halves key }

/-- A write of `n` bytes at byte `b` of a register instance (R14 to R16). -/
def State.wrAccess (s : State) (w : Writer) (d : RegD) (i b n val : Nat) : State :=
  let k := b / 8
  let key := halfKey d i k
  if d.w = 32 then s.wrWordAt w d i 0 (val % 2 ^ 32) (2 ^ 32 - 1)
  else if n = 8 then (s.setHalf key none).wrWordAt w d i k (val % 2 ^ 64) (2 ^ 64 - 1)
  else if b % 8 = 0 then s.setHalf key (some (w, val % 2 ^ 32))
  else
    match KMap.find s.halves key with
    | some (x, lo) =>
      if x = w then (s.setHalf key none).wrWordAt w d i k (lo + val % 2 ^ 32 * 2 ^ 32) (2 ^ 64 - 1)
      else s.wrWordAt w d i k (val % 2 ^ 32 * 2 ^ 32) (2 ^ 64 - 2 ^ 32)
    | none => s.wrWordAt w d i k (val % 2 ^ 32 * 2 ^ 32) (2 ^ 64 - 2 ^ 32)

/-- A write at an offset of the device register space; ignored where the writer does not reach it, where there is no register, and where
R17 refuses it. -/
def State.busWrite (s : State) (w : Writer) (off n val : Nat) : State :=
  match regFind off with
  | some (d, i, b) => if s.mayWrite w off && widthOk d b n then s.wrAccess w d i b n val else s
  | none => s

/-- REG_WRITE (R9 to R16): a write of `bytes` bytes at an offset of the device register space. -/
def doRegWrite (w : Writer) (off val bytes : Nat) (s : State) : State := s.busWrite w off bytes val

/-- LOWER_HALF_WRITE (R15, R16): the lower half of the 64-bit register at an offset is held. -/
def doLowerHalfWrite (w : Writer) (off val : Nat) (s : State) : State :=
  if off % 8 = 0 then s.busWrite w off 4 val else s

/-- UPPER_HALF_WRITE (R15, R16): the upper half of the 64-bit register at an offset is written, with the lower half that its writer holds. -/
def doUpperHalfWrite (w : Writer) (off val : Nat) (s : State) : State :=
  if off % 8 = 0 then s.busWrite w (off + 4) 4 val else s

/-- BAD_WIDTH_ACCESS (R17, R456): a write is ignored and a read returns 0; one that a host function makes is counted. -/
def doBadWidthAccess (w : Writer) (off bytes : Nat) (write : Bool) (_val : Nat) (s : State) : State :=
  if widthBad off bytes then
    let s1 := match w with
      | .fn f => if s.mayRead w off || s.sliceMaps f off false then s.badAccess f else s
      | _ => s
    if write then s1 else s1.emit (.readData 0)
  else s

/-! ### Requests to the BARs of a function (R45, R453 to R459) -/

/-- Answer a read. -/
def State.barAnswer (s : State) (v : Nat) : State := s.emit (.readData v)

/-- A reserved offset, or an access that R17 refuses (R456). -/
def State.badBar (s : State) (f : Nat) (write : Bool) : State :=
  let s1 := s.badAccess f
  if write then s1 else s1.barAnswer 0

/-- CAP of a controller (R406), with the fields where the NVM Express specification puts them (log entry 8). -/
def nvmeCap : Nat := 0x0FFF + 2 ^ 16 + 2 ^ 17 + 2 * 2 ^ 24 + 2 ^ 37 + 4 * 2 ^ 52

/-- The 32-bit words of the controller registers of a function (R405, R406, R440, R444). -/
def State.nvmeWord (s : State) (f k : Nat) : Nat :=
  let c := s.nctl f
  let intms := (s.fcfg f).intms.foldl orBit 0
  match k with
  | 0 => nvmeCap % 2 ^ 32
  | 1 => nvmeCap / 2 ^ 32
  | 2 => 0x20000
  | 3 => intms
  | 4 => intms
  | 5 => c.cc % 2 ^ 32
  | 7 => s.csts f
  | 9 => c.aqa % 2 ^ 32
  | 10 => c.asq % 2 ^ 32
  | 11 => c.asq / 2 ^ 32 % 2 ^ 32
  | 12 => c.acq % 2 ^ 32
  | 13 => c.acq / 2 ^ 32 % 2 ^ 32
  | _ => 0

/-- A write of CC (R438, R440). -/
def State.wrCc (s : State) (f v : Nat) : State :=
  let c := s.nctl f
  if bitAt v 0 && !c.en then doNvmeCcEnable f v s
  else if !bitAt v 0 && c.en then doNvmeCcDisable f v s
  else if bitsAt v 14 2 = 1 ∧ c.en = true ∧ c.shut = .none_ then doNvmeShutdownNormal f v s
  else if bitsAt v 14 2 = 2 ∧ c.en = true ∧ c.shut ≠ .abrupt then doNvmeShutdownAbrupt f v s
  else s.setNctl f { c with cc := v }

/-- A write of a 32-bit word of the controller registers; the admin queue's registers are fixed while CC.EN is 1. -/
def State.wrNvmeWord (s : State) (f k v : Nat) : State :=
  let c := s.nctl f
  let x := s.fcfg f
  match k with
  | 3 => (s.setFcfg f { x with intms := (bitList 32 v).foldl (fun l b => addOnce b l) x.intms }).intx f
  | 4 => (s.setFcfg f { x with intms := x.intms.filter fun b => !bitAt v b }).intx f
  | 5 => s.wrCc f v
  | 9 => if c.en then s else s.setNctl f { c with aqa := v }
  | 10 => if c.en then s else s.setNctl f { c with asq := putBits c.asq 0 32 v }
  | 11 => if c.en then s else s.setNctl f { c with asq := putBits c.asq 32 32 v }
  | 12 => if c.en then s else s.setNctl f { c with acq := putBits c.acq 0 32 v }
  | 13 => if c.en then s else s.setNctl f { c with acq := putBits c.acq 32 32 v }
  | _ => s

/-- A request to the controller registers and doorbells: the first 8 KiB of BAR0 (R405, R417, R454). -/
def State.barNvme (s : State) (f off n : Nat) (write : Bool) (v : Nat) : State :=
  if !s.flag R.NVM_CTRL_CFG_ACTIVE f then s.badBar f write
  else if off < 0x1000 then
    let k := off / 4
    if !write then s.barAnswer (s.nvmeWord f k + if n = 8 then s.nvmeWord f (k + 1) * 2 ^ 32 else 0)
    else
      let s1 := s.wrNvmeWord f k (v % 2 ^ 32)
      if n = 8 then s1.wrNvmeWord f (k + 1) (v / 2 ^ 32 % 2 ^ 32) else s1
  else if n = 8 then s.badBar f write
  else
    let d := (off - 0x1000) / 4
    if !write then s.draw.2.barAnswer (s.draw.1 % 2 ^ 32)
    else if d % 2 = 0 then s.ringNvmeSq f (d / 2) (v % 65536) else s.ringNvmeCq f (d / 2) (v % 65536)

/-- A word of the function status page (R455). Until device firmware runs, READY is 0; how firmware sets it, the spec does not say. -/
def State.statusWord (s : State) (f k ready : Nat) : Nat :=
  let p := (s.pfOf f).getD 0
  if k = 0 then f + p * 2 ^ 12 + b2n (decide (8 ≤ f)) * 2 ^ 15 + s.rd R.HIF_PF_LINK_LINK p * 2 ^ 16
  else if k = 2 then (if s.pwr.boot = .running then ready % 2 else 0) + 2 * s.rd R.HIF_FN_STAT_TORN f
  else 0

/-- A request to the doorbell of an SQ, `i` its local index (R454, R494, R507, R509). -/
def State.barSq (s : State) (f i at_ : Nat) (write : Bool) (v : Nat) : State :=
  match s.localSq f i with
  | none => s.badBar f write
  | some q =>
    if at_ = 0 then
      if write then s.ringSq q (v % 65536) else s.barAnswer (s.rd R.QM_SQ_PI q + s.rd R.QM_SQ_CI q * 2 ^ 16)
    else if write then s else s.barAnswer (s.rd R.QM_SQ_DB_BAD q + s.rd R.QM_SQ_EN q * 2 ^ 8)

/-- A request to the doorbell of a CQ (R454, R494, R522). -/
def State.barCq (s : State) (f i at_ : Nat) (write : Bool) (v : Nat) : State :=
  match s.localCq f i with
  | none => s.badBar f write
  | some c =>
    if at_ = 0 then
      if write then
        let s1 := s.ringCq c (v % 65536)
        if bitAt v 16 then s1.wr R.QM_CQ_OVERFLOW c 0 else s1
      else s.barAnswer (s.rd R.QM_CQ_HEAD c)
    else if write then s
    else s.barAnswer (s.rd R.QM_CQ_TAIL c + s.rd R.QM_CQ_SPILLED c * 2 ^ 16 + s.rd R.QM_CQ_OVERFLOW c * 2 ^ 27
      + s.rd R.QM_CQ_BACKPRESSURE c * 2 ^ 28 + s.rd R.QM_CQ_EN c * 2 ^ 29)

/-- A 32-bit word of the MSI-X table (R465). -/
def State.msixWord (s : State) (f k : Nat) : Nat :=
  let e := s.msixEnt f (k / 4)
  if s.vecCount f ≤ k / 4 then 0
  else if k % 4 = 0 then e.addr % 2 ^ 32 else if k % 4 = 1 then e.addr / 2 ^ 32 else if k % 4 = 2 then e.data else b2n e.mask

/-- Write a 32-bit word of the MSI-X table (R465 to R467). -/
def State.wrMsixWord (s : State) (f k v : Nat) : State :=
  let e := s.msixEnt f (k / 4)
  if k % 4 = 0 then s.wrMsix f (k / 4) (some (putBits e.addr 0 32 v)) none
  else if k % 4 = 1 then s.wrMsix f (k / 4) (some (putBits e.addr 32 32 v)) none
  else if k % 4 = 2 then s.wrMsix f (k / 4) none (some v)
  else s.maskVec f (k / 4) (bitAt v 0)

/-- A request to the MSI-X table. -/
def State.barMsix (s : State) (f off n : Nat) (write : Bool) (v : Nat) : State :=
  let k := off / 4
  if !write then s.barAnswer (s.msixWord f k + if n = 8 then s.msixWord f (k + 1) * 2 ^ 32 else 0)
  else
    let s1 := s.wrMsixWord f k (v % 2 ^ 32)
    if n = 8 then s1.wrMsixWord f (k + 1) (v / 2 ^ 32 % 2 ^ 32) else s1

/-- The pending bits of `n` bytes of the pending bit array (R465). -/
def State.pbaBits (s : State) (f off n : Nat) : Nat :=
  (List.range (8 * n)).foldl (fun m b =>
    let v := 8 * off + b
    if decide (v < s.vecCount f) && s.msixPend f v then orBit m b else m) 0

/-- A request through a writer's path into the device register space. -/
def State.barReg (s : State) (f off n : Nat) (write : Bool) (v : Nat) : State :=
  if widthBad off n then s.badBar f write
  else if write then s.busWrite (.fn f) off n v
  else s.barAnswer (s.regAs (.fn f) off n)

/-- A request to the device register slice of a PF (R458). -/
def State.barSlice (s : State) (f off n : Nat) (write : Bool) (v : Nat) : State :=
  let i := 12 * f + off / 0x400000
  let a := s.rd R.HIF_SLICE_BASE i * 0x400000 + off % 0x400000
  if !s.flag R.HIF_SLICE_EN i || (write && !s.flag R.HIF_SLICE_WR i) then (if write then s else s.barAnswer 0)
  else s.barReg f a n write v

/-- A request to BAR0 (R454). -/
def State.bar0 (s : State) (f off n : Nat) (write : Bool) (v : Nat) : State :=
  let pf := decide (f < 8)
  let sq := if pf then 0x10000 else 0x2000
  let cq := if pf then 0x90000 else 0xA000
  let cqEnd := if pf then 0xB0000 else 0xE000
  let tab := if pf then 0x100000 else 0x10000
  let shape := (n == 4 && off % 4 == 0) || (n == 8 && off % 8 == 0)
  if pf ∧ 0x1000000 ≤ off then s.barSlice f (off - 0x1000000) n write v
  else if !shape then s.badBar f write
  else if off < 0x2000 then s.barNvme f off n write v
  else if 0xE000 ≤ off ∧ off < 0xF000 then
    if n = 8 then s.badBar f write
    else if write then s else s.draw.2.barAnswer (s.statusWord f ((off - 0xE000) / 4) s.draw.1)
  else if sq ≤ off ∧ off < cq then (if n = 8 then s.badBar f write else s.barSq f ((off - sq) / 8) (off % 8) write v)
  else if cq ≤ off ∧ off < cqEnd then (if n = 8 then s.badBar f write else s.barCq f ((off - cq) / 8) (off % 8) write v)
  else if tab ≤ off ∧ off < tab + 0x8000 then s.barMsix f (off - tab) n write v
  else if tab + 0x8000 ≤ off ∧ off < tab + 0x8100 then (if write then s else s.barAnswer (s.pbaBits f (off - tab - 0x8000) n))
  else s.badBar f write

/-- A request to the HBM aperture of BAR2 (R45, R459). -/
def State.barHbm (s : State) (x n : Nat) (write : Bool) (v : Nat) : State :=
  let a := s.rd R.HIF_APERTURE_BASE_GIB 0 * 0x40000000 + x
  if !inHbm s.part a n then s.badBar 0 write
  else if write then s.setVal a n v
  else if s.badRange a n then (s.countPoison a n).emit (.readEp (s.mval a n))
  else s.barAnswer (s.mval a n)

/-- What a request to a BAR of a function does (R45, R453 to R459). A function has no other BAR, and what lies past one is not the
function's. -/
def State.barRequest (fn bar off bytes : Nat) (write : Bool) (val : Nat) (s : State) : State :=
  s.viaBar fn fun s =>
    if bar = 0 ∧ off + bytes ≤ (if fn < 8 then 0x4000000 else 0x40000) then s.bar0 fn off bytes write val
    else if bar = 2 ∧ fn = 0 ∧ off + bytes ≤ 0x400000000 then
      if s.holds (.fn 0) .manager = false then (if write then s else s.barAnswer 0)
      else if off < 0x100000000 then s.barReg 0 off bytes write val
      else s.barHbm (off - 0x100000000) bytes write val
    else s.emit (.unsupportedRequest fn)

/-- BAR_MEMORY_REQUEST (R453 to R459): a read is answered by a completion. -/
def doBarMemoryRequest (fn bar off bytes : Nat) (write : Bool) (val : Nat) (s : State) : State :=
  let r := s.barRequest fn bar off bytes write val
  if write then r else r.tlpOut (s.linkOf fn)

/-! ### The meanings of the rows -/

/-- REG_WRITE (R9). -/
def execRegWrite (w : Writer) (off : Nat) (val : Nat) (bytes : Nat) (s : State) : Host.Outcome State Fault Refusal :=
  .next (s.after (doRegWrite w off val bytes s))

/-- LOWER_HALF_WRITE (R16). -/
def execLowerHalfWrite (w : Writer) (off : Nat) (val : Nat) (s : State) : Host.Outcome State Fault Refusal :=
  .next (s.after (doLowerHalfWrite w off val s))

/-- UPPER_HALF_WRITE (R15). -/
def execUpperHalfWrite (w : Writer) (off : Nat) (val : Nat) (s : State) : Host.Outcome State Fault Refusal :=
  .next (s.after (doUpperHalfWrite w off val s))

/-- BAD_WIDTH_ACCESS (R17). -/
def execBadWidthAccess (w : Writer) (off : Nat) (bytes : Nat) (write : Bool) (val : Nat) (s : State) :
    Host.Outcome State Fault Refusal :=
  .next (s.after (doBadWidthAccess w off bytes write val s))

/-- BAR_MEMORY_REQUEST (R457). -/
def execBarMemoryRequest (fn : Nat) (bar : Nat) (off : Nat) (bytes : Nat) (write : Bool) (val : Nat) (s : State) :
    Host.Outcome State Fault Refusal :=
  .next (s.after (doBarMemoryRequest fn bar off bytes write val s))

end Sys2Proof.Machine
end

