-- ==== Sys2Proof/Machine/Boot.lean ====
section
/-!
DEFINITION. The boot chain of 16_security_lifecycle.md (R660, R666 to R669, R681, R682) and recovery.
-/

namespace Sys2Proof.Machine

/-- Start-up reaches a point. -/
def State.bootAt (s : State) (b : Boot) : State := s.modPwr fun x => { x with boot := b }

/-- The first bank, of the preferred one and the other, that holds an image of a kind which verifies; `base`: bank A's place in flash. -/
def State.bootImage (s : State) (k kind base : Nat) : Option (Nat × Bytes) :=
  let p := s.preferred k
  [p, 1 - p].findSome? fun b => match KMap.find s.sec.flash (base + b) with
    | some o => if s.verifyAs kind o = .ok then some (b, o) else none
    | none => none

/-- BOOT_STAGE0 (R666): LHS_FW from the preferred bank, then from the other; else recovery (R667). -/
def doBootStage0 (s : State) : State :=
  if s.pwr.boot ≠ .powered then s
  else
    match s.bootImage 0 1 0 with
    | some (b, o) =>
      (s.modSec fun x => { x with
        lhs := some (b, o), meas := KMap.put x.meas 1 (obHash o), lhsFirst := decide (s.counter (floorOf 1) < obFloor o) }).bootAt .loaded
    | none => s.bootAt .recovery

/-- HOST_CFG and FABRIC_ID are loaded into their registers (R660); with no valid slot they stay at reset values. The place of each field
in HOST_CFG is log entry 12. -/
def State.loadHostCfg (s : State) : State :=
  let s1 := match s.otpField 9 with
    | some v =>
      let ports := (List.range 2).foldl (fun s n =>
        s.wrs n [(R.HIF_PORT_CFG_BIFUR, bitsAt v (4 * n) 1), (R.HIF_PORT_CFG_MAX_RATE, bitsAt v (4 * n + 1) 2),
          (R.HIF_PORT_CFG_FLIT_EN, bitsAt v (4 * n + 3) 1)]) s
      (List.range 8).foldl (fun s p =>
        s.wrs p [(R.HIF_PF_LINK_LINK, bitsAt v (8 + 3 * p) 2), (R.HIF_PF_LINK_EN, bitsAt v (10 + 3 * p) 1)]) ports
    | none => s
  match s.otpField 10 with
  | some v => s1.wr R.BCN_CFG_FABRIC_ID 0 v
  | none => s1

/-- The highest ANCHOR of an anchored KEY_ERASE record: one whose ANCHOR is above that of the record before it (R674, R681). -/
def eraseAnchor (log : List LogRec) : Nat :=
  (log.foldl (fun (m : Nat × Nat) r => (r.anchor, if r.ty = 9 ∧ m.1 < r.anchor then Nat.max m.2 r.anchor else m.2)) (0, 0)).2

/-- The slots of the key store are reloaded, or the store is refused (R681). -/
def State.reloadKeys (s : State) : State :=
  match s.keyStore with
  | none => s
  | some (_, k) =>
    if k.anchor < eraseAnchor s.sec.log then s.logAppend 0x0D 0xF0 [1] false
    else k.keys.foldl (fun s e => if s.rd R.GLT_ROOT_STATE e.1 = 0 then s.loadSlot e.1 e.2 else s) s

/-- One entry of a blob signed by a role (R669). -/
def State.blobEntry (s : State) (role : Nat) (e : Bytes) : State :=
  let acc := obNat e 1 1
  let x := obNat e 4 4
  match obNat e 0 1 with
  | 0 =>
    let n := match regFind x with
      | some (d, _, _) => if d.w = 32 then 4 else 8
      | none => 8
    s.busWrite (.signed role) x n (obNat e 8 8)
  | 1 =>
    let g := grantable role x
    let s1 := if g = x then s else s.logAppend 0x0D (0xF1 + role) [acc, clearMask x g] false
    if g = 0 ∨ 10 < acc ∨ s1.canLog false = false then s1 else s1.grantRights acc g role (0xF1 + role)
  | _ => s

/-- The entries of a blob's body, in order. -/
def State.blobBody (s : State) (role : Nat) (body : Bytes) : State :=
  (List.range (body.length / 16)).foldl (fun s k => s.blobEntry role (sliceB body (16 * k) 16)) s

/-- The blob of a role is applied (R665, R666, R669): of the two copies the valid one with the higher SVN; which of two equal ones is a
free value. A blob that does not verify is skipped, and its measurement reads 64 bytes of 0xFF. -/
def State.applyBlob (s : State) (base kind role m : Nat) : State :=
  let good := [base, base + 1].filterMap fun k => match KMap.find s.sec.flash k with
    | some o => if s.verifyAs kind o = .ok then some o else none
    | none => none
  let run := fun (o : Bytes) (s : State) => (s.modSec fun x => { x with meas := KMap.put x.meas m (obHash o) }).blobBody role (obBody o)
  match good with
  | [] => s.modSec fun x => { x with meas := KMap.put x.meas m (List.replicate 64 0xFF) }
  | [a] => run a s
  | a :: b :: _ =>
    if obSvn b < obSvn a then run a s
    else if obSvn a < obSvn b then run b s
    else run (if s.draw.1 % 2 = 0 then a else b) s.draw.2

/-- BOOT_STAGE1 (R660, R666, R669, R681): the key store, HOST_CFG and FABRIC_ID, the installer blob, the operator blob. -/
def doBootStage1 (s : State) : State :=
  if s.pwr.boot = .loaded then (((s.reloadKeys.loadHostCfg).applyBlob 4 3 1 3).applyBlob 6 4 2 4).bootAt .applied else s

/-- The floor of a new LHS_FW is burned when it first brings the device here (R682). -/
def State.firstReady (s : State) : State :=
  match s.sec.lhs with
  | some (_, o) =>
    if s.sec.lhsFirst && s.canLog true then
      (s.raiseFloor (floorOf 1) (obFloor o) 0xF0).modSec fun x => { x with lhsFirst := false }
    else s
  | none => s

/-- CONFIG_READY (R532, R596, R682, R712): the settings of the ports and the VF ranges come into force, and GUARANTEE is set when its
conditions hold. -/
def doConfigReady (s : State) : State :=
  if s.pwr.boot ≠ .applied then s
  else
    let s1 := s.firstReady
    let all := s1.rd R.PWR_RST_CAUSE_LAST 0 = 0 ∨ s1.rd R.PWR_RST_CAUSE_LAST 0 = 4
    let s2 := (List.range 2).foldl (fun s n => if all ∨ s.pwr.perst.contains n = true then s.applyPort n else s) s1
    let s3 := (s2.applyVfs (List.range 8)).bootAt .ready
    ((List.range 6).foldl State.settlePll s3).settleCond

/-- BOOT_STAGE2 (R647, R666): DEV_FW from the preferred bank, then from the other. A scrapped part runs none. -/
def doBootStage2 (s : State) : State :=
  if s.pwr.boot ≠ .ready then s
  else
    let s0 := s.bootAt .running
    let svn := (s.sec.lhs.map fun d => obSvn d.2).getD 0
    if s.life = 3 then s0
    else
      match s.bootImage 1 2 2 with
      | some (b, o) => (s0.logAppend 0x01 0xF0 [svn, obSvn o] false).runDev (b, o)
      | none =>
        let s1 := s0.logAppend 0x01 0xF0 [svn] false
        let r := match KMap.find s.sec.flash (3 - s.preferred 1) with
          | some o => s.verifyAs 2 o
          | none => .badFormat
        s1.draw.2.wr R.LHS_FW_STAT_RESULT 0 (r.fw s1.draw.1)

/-- RECOVERY_IMAGE (R667): the image is verified, written to both banks, and the part restarts. -/
def doRecoveryImage (object : Bytes) (s : State) : State :=
  if s.pwr.boot = .recovery ∧ s.verifyAs 1 object = .ok then
    (s.modSec fun x => { x with flash := KMap.put (KMap.put x.flash 0 object) 1 object }).bootAt .powered
  else s

/-! ### The meanings of the rows -/

/-- BOOT_STAGE0 (R666). -/
def execBootStage0 (s : State) : Host.Outcome State Fault Refusal :=
  .next (s.after (doBootStage0 s))

/-- BOOT_STAGE1 (R666). -/
def execBootStage1 (s : State) : Host.Outcome State Fault Refusal :=
  .next (s.after (doBootStage1 s))

/-- CONFIG_READY (R712). -/
def execConfigReady (s : State) : Host.Outcome State Fault Refusal :=
  .next (s.after (doConfigReady s))

/-- BOOT_STAGE2 (R666). -/
def execBootStage2 (s : State) : Host.Outcome State Fault Refusal :=
  .next (s.after (doBootStage2 s))

/-- RECOVERY_IMAGE (R667). -/
def execRecoveryImage (object : Bytes) (s : State) : Host.Outcome State Fault Refusal :=
  .next (s.after (doRecoveryImage object s))

end Sys2Proof.Machine
end

