-- ==== Sys2Proof/Machine/LanternAlu.lean ====
section
/-!
DEFINITION. The arithmetic, logic, multiply, divide and branch commands of 03_lantern_isa.md (R138 to R144, R156).
-/

namespace Sys2Proof.Machine

/-- A command of format R: RD takes a function of g[RA] and g[RB] (R140, R143). -/
def State.alu (s : State) (t : Nat) (rd ra rb : Reg5) (f : Word → Word → Word) : State :=
  s.issue t fun s => s.result t rd (f ((s.thr t).greg ra) ((s.thr t).greg rb))

/-- A command of one source: RD takes a function of g[RA] (R138, R140). -/
def State.alu1 (s : State) (t : Nat) (rd ra : Reg5) (f : Word → Word) : State :=
  s.issue t fun s => s.result t rd (f ((s.thr t).greg ra))

/-- A branch: taken, the next instruction is at PC + 4 × sext(OFF16) (R139, R156). -/
def State.branch (s : State) (t : Nat) (ra rb : Reg5) (off : BitVec 16) (c : Cond) : State :=
  s.issue t fun s =>
    let th := s.thr t
    let npc := if c.holds (th.greg ra) (th.greg rb) then th.pc + 4 * sext off else th.pc + 4
    s.retireK t false npc id

/-- ADD (R140). -/
def doAdd (t : Nat) (rd ra rb : Reg5) (s : State) : State := s.alu t rd ra rb fun a b => a + b

/-- SUB (R140). -/
def doSub (t : Nat) (rd ra rb : Reg5) (s : State) : State := s.alu t rd ra rb fun a b => a - b

/-- AND (R140). -/
def doAnd (t : Nat) (rd ra rb : Reg5) (s : State) : State := s.alu t rd ra rb fun a b => a &&& b

/-- OR (R140). -/
def doOr (t : Nat) (rd ra rb : Reg5) (s : State) : State := s.alu t rd ra rb fun a b => a ||| b

/-- XOR (R140). -/
def doXor (t : Nat) (rd ra rb : Reg5) (s : State) : State := s.alu t rd ra rb fun a b => a ^^^ b

/-- ANDN (R140). -/
def doAndn (t : Nat) (rd ra rb : Reg5) (s : State) : State := s.alu t rd ra rb fun a b => a &&& ~~~b

/-- SHL (R140). -/
def doShl (t : Nat) (rd ra rb : Reg5) (s : State) : State := s.alu t rd ra rb fun a b => shiftBy 0 a (shAmt b)

/-- SHR (R140). -/
def doShr (t : Nat) (rd ra rb : Reg5) (s : State) : State := s.alu t rd ra rb fun a b => shiftBy 1 a (shAmt b)

/-- SRA (R140). -/
def doSra (t : Nat) (rd ra rb : Reg5) (s : State) : State := s.alu t rd ra rb fun a b => shiftBy 2 a (shAmt b)

/-- ROR (R140). -/
def doRor (t : Nat) (rd ra rb : Reg5) (s : State) : State := s.alu t rd ra rb fun a b => shiftBy 3 a (shAmt b)

/-- CLT (R140). -/
def doClt (t : Nat) (rd ra rb : Reg5) (s : State) : State := s.alu t rd ra rb fun a b => condWord (Cond.lt.holds a b)

/-- CLTU (R140). -/
def doCltu (t : Nat) (rd ra rb : Reg5) (s : State) : State := s.alu t rd ra rb fun a b => condWord (Cond.ltu.holds a b)

/-- MIN (R140). -/
def doMin (t : Nat) (rd ra rb : Reg5) (s : State) : State := s.alu t rd ra rb fun a b => if Cond.lt.holds b a then b else a

/-- MAX (R140). -/
def doMax (t : Nat) (rd ra rb : Reg5) (s : State) : State := s.alu t rd ra rb fun a b => if Cond.lt.holds a b then b else a

/-- MINU (R140). -/
def doMinu (t : Nat) (rd ra rb : Reg5) (s : State) : State := s.alu t rd ra rb fun a b => if Cond.ltu.holds b a then b else a

/-- MAXU (R140). -/
def doMaxu (t : Nat) (rd ra rb : Reg5) (s : State) : State := s.alu t rd ra rb fun a b => if Cond.ltu.holds a b then b else a

/-- ADDW (R140). -/
def doAddw (t : Nat) (rd ra rb : Reg5) (s : State) : State := s.alu t rd ra rb fun a b => sext32 (a + b)

/-- SUBW (R140). -/
def doSubw (t : Nat) (rd ra rb : Reg5) (s : State) : State := s.alu t rd ra rb fun a b => sext32 (a - b)

/-- CLZ (R140). -/
def doClz (t : Nat) (rd ra : Reg5) (s : State) : State := s.alu1 t rd ra fun a => BitVec.ofNat 64 (clz a)

/-- CTZ (R140). -/
def doCtz (t : Nat) (rd ra : Reg5) (s : State) : State := s.alu1 t rd ra fun a => BitVec.ofNat 64 (ctz a)

/-- POPC (R140). -/
def doPopc (t : Nat) (rd ra : Reg5) (s : State) : State := s.alu1 t rd ra fun a => BitVec.ofNat 64 (popc a)

/-- BSWAP (R140). -/
def doBswap (t : Nat) (rd ra : Reg5) (s : State) : State := s.alu1 t rd ra fun a => bswap a

/-- EXT (R140). -/
def doExt (t : Nat) (rd ra rb : Reg5) (s : State) : State := s.alu t rd ra rb extBits

/-- INS (R140): RD is read as a source. -/
def doIns (t : Nat) (rd ra rb : Reg5) (s : State) : State :=
  s.issue t fun s =>
    let th := s.thr t
    s.result t rd (insBits (th.greg rd) (th.greg ra) (th.greg rb))

/-- ADDI (R138). -/
def doAddi (t : Nat) (rd ra : Reg5) (imm : BitVec 16) (s : State) : State :=
  s.alu1 t rd ra fun a => a + sext imm

/-- ANDI (R138). -/
def doAndi (t : Nat) (rd ra : Reg5) (imm : BitVec 16) (s : State) : State :=
  s.alu1 t rd ra fun a => a &&& zext imm

/-- ORI (R138). -/
def doOri (t : Nat) (rd ra : Reg5) (imm : BitVec 16) (s : State) : State :=
  s.alu1 t rd ra fun a => a ||| zext imm

/-- XORI (R138). -/
def doXori (t : Nat) (rd ra : Reg5) (imm : BitVec 16) (s : State) : State :=
  s.alu1 t rd ra fun a => a ^^^ zext imm

/-- CLTI (R138). -/
def doClti (t : Nat) (rd ra : Reg5) (imm : BitVec 16) (s : State) : State :=
  s.alu1 t rd ra fun a => condWord (Cond.lt.holds a (sext imm))

/-- CLTIU (R138). -/
def doCltiu (t : Nat) (rd ra : Reg5) (imm : BitVec 16) (s : State) : State :=
  s.alu1 t rd ra fun a => condWord (Cond.ltu.holds a (sext imm))

/-- SHIFTI (R141). -/
def doShifti (t : Nat) (rd ra : Reg5) (kind : BitVec 2) (amount : BitVec 6) (s : State) : State :=
  s.alu1 t rd ra fun a => shiftBy kind.toNat a amount.toNat

/-- IMMZ (R142). -/
def doImmz (t : Nat) (rd : Reg5) (hw : BitVec 2) (imm : BitVec 16) (s : State) : State :=
  s.issue t fun s => s.result t rd (lane hw imm)

/-- IMMK (R142): RD is also read as a source. -/
def doImmk (t : Nat) (rd : Reg5) (hw : BitVec 2) (imm : BitVec 16) (s : State) : State :=
  s.issue t fun s => s.result t rd (setLane ((s.thr t).greg rd) hw imm)

/-- MUL (R143). -/
def doMul (t : Nat) (rd ra rb : Reg5) (s : State) : State := s.alu t rd ra rb fun a b => a * b

/-- MULW (R143). -/
def doMulw (t : Nat) (rd ra rb : Reg5) (s : State) : State := s.alu t rd ra rb fun a b => sext32 (a * b)

/-- MULHU (R143, R144). -/
def doMulhu (t : Nat) (rd ra rb : Reg5) (s : State) : State := s.alu t rd ra rb mulhu

/-- MULHS (R143, R144). -/
def doMulhs (t : Nat) (rd ra rb : Reg5) (s : State) : State := s.alu t rd ra rb mulhs

/-- DIVU (R143, R144). -/
def doDivu (t : Nat) (rd ra rb : Reg5) (s : State) : State := s.alu t rd ra rb divu

/-- DIVS (R143, R144). -/
def doDivs (t : Nat) (rd ra rb : Reg5) (s : State) : State := s.alu t rd ra rb divs

/-- REMU (R143, R144). -/
def doRemu (t : Nat) (rd ra rb : Reg5) (s : State) : State := s.alu t rd ra rb remu

/-- REMS (R143, R144). -/
def doRems (t : Nat) (rd ra rb : Reg5) (s : State) : State := s.alu t rd ra rb rems

/-- BEQ (R156). -/
def doBeq (t : Nat) (ra rb : Reg5) (off : BitVec 16) (s : State) : State := s.branch t ra rb off .eq

/-- BNE (R156). -/
def doBne (t : Nat) (ra rb : Reg5) (off : BitVec 16) (s : State) : State := s.branch t ra rb off .ne

/-- BLT (R156). -/
def doBlt (t : Nat) (ra rb : Reg5) (off : BitVec 16) (s : State) : State := s.branch t ra rb off .lt

/-- BGE (R156). -/
def doBge (t : Nat) (ra rb : Reg5) (off : BitVec 16) (s : State) : State := s.branch t ra rb off .ge

/-- BLTU (R156). -/
def doBltu (t : Nat) (ra rb : Reg5) (off : BitVec 16) (s : State) : State := s.branch t ra rb off .ltu

/-- BGEU (R156). -/
def doBgeu (t : Nat) (ra rb : Reg5) (off : BitVec 16) (s : State) : State := s.branch t ra rb off .geu

/-- CALL (R156): the link is written after the target is formed. -/
def doCall (t : Nat) (rd : Reg5) (off : BitVec 21) (s : State) : State :=
  s.issue t fun s =>
    let th := s.thr t
    s.retireK t false (th.pc + 4 * sext off) fun th => th.setG rd (th.pc + 4)

/-- CALLR (R156): the low two bits of the target are dropped; RD may equal RA. -/
def doCallr (t : Nat) (rd ra : Reg5) (imm : BitVec 16) (s : State) : State :=
  s.issue t fun s =>
    let th := s.thr t
    s.retireK t false ((th.greg ra + sext imm) &&& ~~~(3 : Word)) fun th => th.setG rd (th.pc + 4)

/-! ### The meanings of the rows -/

/-- ADD (R140). -/
def execAdd (t : Nat) (rd : Reg5) (ra : Reg5) (rb : Reg5) (s : State) : Host.Outcome State Fault Refusal :=
  .next (s.after (doAdd t rd ra rb s))

/-- SUB (R140). -/
def execSub (t : Nat) (rd : Reg5) (ra : Reg5) (rb : Reg5) (s : State) : Host.Outcome State Fault Refusal :=
  .next (s.after (doSub t rd ra rb s))

/-- AND (R140). -/
def execAnd (t : Nat) (rd : Reg5) (ra : Reg5) (rb : Reg5) (s : State) : Host.Outcome State Fault Refusal :=
  .next (s.after (doAnd t rd ra rb s))

/-- OR (R140). -/
def execOr (t : Nat) (rd : Reg5) (ra : Reg5) (rb : Reg5) (s : State) : Host.Outcome State Fault Refusal :=
  .next (s.after (doOr t rd ra rb s))

/-- XOR (R140). -/
def execXor (t : Nat) (rd : Reg5) (ra : Reg5) (rb : Reg5) (s : State) : Host.Outcome State Fault Refusal :=
  .next (s.after (doXor t rd ra rb s))

/-- ANDN (R140). -/
def execAndn (t : Nat) (rd : Reg5) (ra : Reg5) (rb : Reg5) (s : State) : Host.Outcome State Fault Refusal :=
  .next (s.after (doAndn t rd ra rb s))

/-- SHL (R140). -/
def execShl (t : Nat) (rd : Reg5) (ra : Reg5) (rb : Reg5) (s : State) : Host.Outcome State Fault Refusal :=
  .next (s.after (doShl t rd ra rb s))

/-- SHR (R140). -/
def execShr (t : Nat) (rd : Reg5) (ra : Reg5) (rb : Reg5) (s : State) : Host.Outcome State Fault Refusal :=
  .next (s.after (doShr t rd ra rb s))

/-- SRA (R140). -/
def execSra (t : Nat) (rd : Reg5) (ra : Reg5) (rb : Reg5) (s : State) : Host.Outcome State Fault Refusal :=
  .next (s.after (doSra t rd ra rb s))

/-- ROR (R140). -/
def execRor (t : Nat) (rd : Reg5) (ra : Reg5) (rb : Reg5) (s : State) : Host.Outcome State Fault Refusal :=
  .next (s.after (doRor t rd ra rb s))

/-- CLT (R140). -/
def execClt (t : Nat) (rd : Reg5) (ra : Reg5) (rb : Reg5) (s : State) : Host.Outcome State Fault Refusal :=
  .next (s.after (doClt t rd ra rb s))

/-- CLTU (R140). -/
def execCltu (t : Nat) (rd : Reg5) (ra : Reg5) (rb : Reg5) (s : State) : Host.Outcome State Fault Refusal :=
  .next (s.after (doCltu t rd ra rb s))

/-- MIN (R140). -/
def execMin (t : Nat) (rd : Reg5) (ra : Reg5) (rb : Reg5) (s : State) : Host.Outcome State Fault Refusal :=
  .next (s.after (doMin t rd ra rb s))

/-- MAX (R140). -/
def execMax (t : Nat) (rd : Reg5) (ra : Reg5) (rb : Reg5) (s : State) : Host.Outcome State Fault Refusal :=
  .next (s.after (doMax t rd ra rb s))

/-- MINU (R140). -/
def execMinu (t : Nat) (rd : Reg5) (ra : Reg5) (rb : Reg5) (s : State) : Host.Outcome State Fault Refusal :=
  .next (s.after (doMinu t rd ra rb s))

/-- MAXU (R140). -/
def execMaxu (t : Nat) (rd : Reg5) (ra : Reg5) (rb : Reg5) (s : State) : Host.Outcome State Fault Refusal :=
  .next (s.after (doMaxu t rd ra rb s))

/-- ADDW (R140). -/
def execAddw (t : Nat) (rd : Reg5) (ra : Reg5) (rb : Reg5) (s : State) : Host.Outcome State Fault Refusal :=
  .next (s.after (doAddw t rd ra rb s))

/-- SUBW (R140). -/
def execSubw (t : Nat) (rd : Reg5) (ra : Reg5) (rb : Reg5) (s : State) : Host.Outcome State Fault Refusal :=
  .next (s.after (doSubw t rd ra rb s))

/-- CLZ (R140). -/
def execClz (t : Nat) (rd : Reg5) (ra : Reg5) (s : State) : Host.Outcome State Fault Refusal :=
  .next (s.after (doClz t rd ra s))

/-- CTZ (R140). -/
def execCtz (t : Nat) (rd : Reg5) (ra : Reg5) (s : State) : Host.Outcome State Fault Refusal :=
  .next (s.after (doCtz t rd ra s))

/-- POPC (R140). -/
def execPopc (t : Nat) (rd : Reg5) (ra : Reg5) (s : State) : Host.Outcome State Fault Refusal :=
  .next (s.after (doPopc t rd ra s))

/-- BSWAP (R140). -/
def execBswap (t : Nat) (rd : Reg5) (ra : Reg5) (s : State) : Host.Outcome State Fault Refusal :=
  .next (s.after (doBswap t rd ra s))

/-- EXT (R140). -/
def execExt (t : Nat) (rd : Reg5) (ra : Reg5) (rb : Reg5) (s : State) : Host.Outcome State Fault Refusal :=
  .next (s.after (doExt t rd ra rb s))

/-- INS (R140). -/
def execIns (t : Nat) (rd : Reg5) (ra : Reg5) (rb : Reg5) (s : State) : Host.Outcome State Fault Refusal :=
  .next (s.after (doIns t rd ra rb s))

/-- ADDI (R138). -/
def execAddi (t : Nat) (rd : Reg5) (ra : Reg5) (imm : BitVec 16) (s : State) : Host.Outcome State Fault Refusal :=
  .next (s.after (doAddi t rd ra imm s))

/-- ANDI (R138). -/
def execAndi (t : Nat) (rd : Reg5) (ra : Reg5) (imm : BitVec 16) (s : State) : Host.Outcome State Fault Refusal :=
  .next (s.after (doAndi t rd ra imm s))

/-- ORI (R138). -/
def execOri (t : Nat) (rd : Reg5) (ra : Reg5) (imm : BitVec 16) (s : State) : Host.Outcome State Fault Refusal :=
  .next (s.after (doOri t rd ra imm s))

/-- XORI (R138). -/
def execXori (t : Nat) (rd : Reg5) (ra : Reg5) (imm : BitVec 16) (s : State) : Host.Outcome State Fault Refusal :=
  .next (s.after (doXori t rd ra imm s))

/-- SHIFTI (R141). -/
def execShifti (t : Nat) (rd : Reg5) (ra : Reg5) (kind : BitVec 2) (amount : BitVec 6) (s : State) :
    Host.Outcome State Fault Refusal :=
  .next (s.after (doShifti t rd ra kind amount s))

/-- CLTI (R138). -/
def execClti (t : Nat) (rd : Reg5) (ra : Reg5) (imm : BitVec 16) (s : State) : Host.Outcome State Fault Refusal :=
  .next (s.after (doClti t rd ra imm s))

/-- CLTIU (R138). -/
def execCltiu (t : Nat) (rd : Reg5) (ra : Reg5) (imm : BitVec 16) (s : State) : Host.Outcome State Fault Refusal :=
  .next (s.after (doCltiu t rd ra imm s))

/-- IMMZ (R142). -/
def execImmz (t : Nat) (rd : Reg5) (hw : BitVec 2) (imm : BitVec 16) (s : State) : Host.Outcome State Fault Refusal :=
  .next (s.after (doImmz t rd hw imm s))

/-- IMMK (R142). -/
def execImmk (t : Nat) (rd : Reg5) (hw : BitVec 2) (imm : BitVec 16) (s : State) : Host.Outcome State Fault Refusal :=
  .next (s.after (doImmk t rd hw imm s))

/-- MUL (R143). -/
def execMul (t : Nat) (rd : Reg5) (ra : Reg5) (rb : Reg5) (s : State) : Host.Outcome State Fault Refusal :=
  .next (s.after (doMul t rd ra rb s))

/-- MULHU (R143). -/
def execMulhu (t : Nat) (rd : Reg5) (ra : Reg5) (rb : Reg5) (s : State) : Host.Outcome State Fault Refusal :=
  .next (s.after (doMulhu t rd ra rb s))

/-- MULHS (R143). -/
def execMulhs (t : Nat) (rd : Reg5) (ra : Reg5) (rb : Reg5) (s : State) : Host.Outcome State Fault Refusal :=
  .next (s.after (doMulhs t rd ra rb s))

/-- MULW (R143). -/
def execMulw (t : Nat) (rd : Reg5) (ra : Reg5) (rb : Reg5) (s : State) : Host.Outcome State Fault Refusal :=
  .next (s.after (doMulw t rd ra rb s))

/-- DIVU (R144). -/
def execDivu (t : Nat) (rd : Reg5) (ra : Reg5) (rb : Reg5) (s : State) : Host.Outcome State Fault Refusal :=
  .next (s.after (doDivu t rd ra rb s))

/-- DIVS (R144). -/
def execDivs (t : Nat) (rd : Reg5) (ra : Reg5) (rb : Reg5) (s : State) : Host.Outcome State Fault Refusal :=
  .next (s.after (doDivs t rd ra rb s))

/-- REMU (R144). -/
def execRemu (t : Nat) (rd : Reg5) (ra : Reg5) (rb : Reg5) (s : State) : Host.Outcome State Fault Refusal :=
  .next (s.after (doRemu t rd ra rb s))

/-- REMS (R144). -/
def execRems (t : Nat) (rd : Reg5) (ra : Reg5) (rb : Reg5) (s : State) : Host.Outcome State Fault Refusal :=
  .next (s.after (doRems t rd ra rb s))

/-- BEQ (R156). -/
def execBeq (t : Nat) (ra : Reg5) (rb : Reg5) (off : BitVec 16) (s : State) : Host.Outcome State Fault Refusal :=
  .next (s.after (doBeq t ra rb off s))

/-- BNE (R156). -/
def execBne (t : Nat) (ra : Reg5) (rb : Reg5) (off : BitVec 16) (s : State) : Host.Outcome State Fault Refusal :=
  .next (s.after (doBne t ra rb off s))

/-- BLT (R156). -/
def execBlt (t : Nat) (ra : Reg5) (rb : Reg5) (off : BitVec 16) (s : State) : Host.Outcome State Fault Refusal :=
  .next (s.after (doBlt t ra rb off s))

/-- BGE (R156). -/
def execBge (t : Nat) (ra : Reg5) (rb : Reg5) (off : BitVec 16) (s : State) : Host.Outcome State Fault Refusal :=
  .next (s.after (doBge t ra rb off s))

/-- BLTU (R156). -/
def execBltu (t : Nat) (ra : Reg5) (rb : Reg5) (off : BitVec 16) (s : State) : Host.Outcome State Fault Refusal :=
  .next (s.after (doBltu t ra rb off s))

/-- BGEU (R156). -/
def execBgeu (t : Nat) (ra : Reg5) (rb : Reg5) (off : BitVec 16) (s : State) : Host.Outcome State Fault Refusal :=
  .next (s.after (doBgeu t ra rb off s))

/-- CALL (R156). -/
def execCall (t : Nat) (rd : Reg5) (off : BitVec 21) (s : State) : Host.Outcome State Fault Refusal :=
  .next (s.after (doCall t rd off s))

/-- CALLR (R156). -/
def execCallr (t : Nat) (rd : Reg5) (ra : Reg5) (imm : BitVec 16) (s : State) : Host.Outcome State Fault Refusal :=
  .next (s.after (doCallr t rd ra imm s))

end Sys2Proof.Machine
end

