-- ==== Sys2Proof/Machine/LanternChan.lean ====
section
/-!
DEFINITION. The channel and event commands of 03_lantern_isa.md (R97 to R107, R157 to R161, R736).
-/

namespace Sys2Proof.Machine

/-- A channel instruction (R107): a thread whose LEASE_LOST is set takes CH_LEASE_LOST, which clears the flag, and the
instruction is not executed. -/
def State.chan (s : State) (t : Nat) (k : State → State) : State :=
  s.issue t fun s =>
    if (s.thr t).leaseLost then
      let c := (s.thr t).lostChan
      (s.modThr t fun th => { th with leaseLost := false }).raiseAt t .chLeaseLost c
    else k s

/-- A channel instruction retires with a status; refusals FULL, EMPTY and BUSY are counted (R642). -/
def State.chStatus (s : State) (t : Nat) (rd : Reg5) (st : ChStat) : State :=
  let s1 := if st = .full ∨ st = .empty ∨ st = .busy then s.countThr t 0x0C 1 else s
  s1.result t rd (BitVec.ofNat 64 st.code)

/-- The channel that an operand names (R157). -/
def chanOf (v : Word) : Nat := v.toNat % 4096

/-- The channel is open: IDs from 3,072 name no channel (R157). -/
def State.chanOpen (s : State) (c : Nat) : Bool := decide (c < 3072) && s.flag R.LTN_CH_CFG_ENABLE c

/-- Writer `t` lies within SCOPE of channel `c` (R96, R119). -/
def State.chanAdmits (s : State) (t c : Nat) : Bool :=
  match s.rd R.LTN_CH_CFG_SCOPE c with
  | 0 => coreOf t == coreOf (s.reader c)
  | 1 => clusterOf t == c / 256 && s.isMember t (s.rd R.LTN_CH_CFG_GROUP c)
  | 2 => clusterOf t == c / 256
  | _ => true

/-- Sender `t` lies within SCOPE of input `ev` of thread `g` (R82, R119). -/
def State.bindAdmits (s : State) (t g ev : Nat) : Bool :=
  let i := bindIx g ev
  match s.rd R.LTN_EVBIND_SCOPE i with
  | 0 => coreOf t == coreOf g
  | 1 => clusterOf t == clusterOf g && s.isMember t (s.rd R.LTN_EVBIND_GROUP i)
  | 2 => clusterOf t == clusterOf g
  | _ => true

/-- CHWR (R99): append a word to the staging buffer, or STAGE_FULL. -/
def doChwr (t : Nat) (rd ra : Reg5) (s : State) : State :=
  s.chan t fun s =>
    let th := s.thr t
    if th.stage.length < 8 then
      (s.modThr t fun th => { th with stage := th.stage ++ [th.greg ra] }).chStatus t rd .ok
    else s.chStatus t rd .stageFull

/-- Fill the first slot that thread `t` holds (R104). -/
def fillHeld (t : Nat) (m : ChMsg) : List Slot → List Slot
  | [] => []
  | sl :: r => if sl.st = .held t then { sl with st := .flight, msg := m } :: r else sl :: fillHeld t m r

/-- CHCOMMIT (R100, R101, R104, R736): CLOSED, SCOPE, EMPTY, FULL in that order; an accepted message is in flight to the reader,
in the thread's own reservation when it holds one on the channel, and staging empties. -/
def doChcommit (t : Nat) (rd ra : Reg5) (s : State) : State :=
  s.chan t fun s =>
    let th := s.thr t
    let c := chanOf (th.greg ra)
    let own := match th.resv with
      | some r => r.chan == c
      | none => false
    let m : ChMsg := ⟨th.stage, false, false, t⟩
    if !s.chanOpen c then s.chStatus t rd .closed
    else if !s.chanAdmits t c then s.chStatus t rd .scope
    else if th.stage.isEmpty then s.chStatus t rd .empty
    else if own then
      let l := fillHeld t m (s.slots c)
      let left := l.any fun sl => sl.st == .held t
      let s1 := (s.setSlots c l).modThr t fun th =>
        { th with stage := [], resv := if left then th.resv else none }
      ((s1.countThr t 0x0B 1).chStatus t rd .ok).settle (s.reader c)
    else if s.freeSlots c = 0 then s.chStatus t rd .full
    else
      let s1 := (s.pushSlot c .flight m).modThr t fun th => { th with stage := [] }
      ((s1.countThr t 0x0B 1).chStatus t rd .ok).settle (s.reader c)

/-- The void slots at the head of a ring, and the rest. -/
def dropVoid : List Slot → Nat × List Slot
  | [] => (0, [])
  | sl :: r => if sl.st = .void then ((dropVoid r).1 + 1, (dropVoid r).2) else (0, sl :: r)

/-- The CHRD result word of a message (R158). -/
def chrdWord (sl : Slot) : Nat :=
  sl.msg.words.length <<< 4 + b2n sl.msg.taint <<< 8 + b2n sl.msg.tagFail <<< 9 + sl.msg.writer <<< 10 + sl.seq <<< 20

/-- CHRD (R102, R158, R159): only the READER reads; void slots are skipped and counted; the oldest visible message moves into the
receive buffer. -/
def doChrd (t : Nat) (rd ra : Reg5) (s : State) : State :=
  s.chan t fun s =>
    let c := chanOf ((s.thr t).greg ra)
    if !s.chanOpen c then s.chStatus t rd .closed
    else if s.reader c ≠ t then s.chStatus t rd .scope
    else
      let d := dropVoid (s.slots c)
      let s1 := (s.setSlots c d.2).sat R.LTN_CH_STAT_VOIDCNT c d.1
      match d.2 with
      | sl :: r =>
        if sl.st = .visible then
          ((s1.setSlots c r).modThr t fun th => { th with rx := sl.msg.words }).result t rd (BitVec.ofNat 64 (chrdWord sl))
        else s1.chStatus t rd .empty
      | [] => s1.chStatus t rd .empty

/-- CHRESV (R104, R105, R736): CLOSED, SCOPE, BUSY, FULL in that order; the slots are held under a lease. -/
def doChresv (t : Nat) (rd ra rb : Reg5) (s : State) : State :=
  s.chan t fun s =>
    let th := s.thr t
    let c := chanOf (th.greg ra)
    let n := (th.greg rb).toNat
    if !s.chanOpen c then s.chStatus t rd .closed
    else if !s.chanAdmits t c then s.chStatus t rd .scope
    else if th.resv.isSome then s.chStatus t rd .busy
    else if n = 0 ∨ 16 < n ∨ s.freeSlots c < n then s.chStatus t rd .full
    else
      let till := s.time + 1000 * s.rd R.LTN_CL_CHLEASE_LEASE_US (c / 256)
      let s1 := (List.range n).foldl (fun s _ => s.pushSlot c (.held t) ⟨[], false, false, t⟩) s
      (s1.modThr t fun th => { th with resv := some ⟨c, till⟩ }).chStatus t rd .ok

/-- CHDISCARD (R103). -/
def doChdiscard (t : Nat) (rd : Reg5) (s : State) : State :=
  s.chan t fun s => (s.modThr t fun th => { th with stage := [] }).chStatus t rd .ok

/-- CHRX (R159): a word of the receive buffer, 0 at or beyond its LEN. -/
def doChrx (t : Nat) (rd : Reg5) (k : BitVec 3) (s : State) : State :=
  s.chan t fun s => s.result t rd ((s.thr t).rx.getD k.toNat 0)

/-- EVSEND (R82, R160, R736, R737): the event is in flight to its target, or NOT_BOUND, or SCOPE. -/
def doEvsend (t : Nat) (rd ra rb : Reg5) (s : State) : State :=
  s.issue t fun s =>
    let th := s.thr t
    let g := (th.greg ra).toNat % 1024
    let ev := (th.greg rb).toNat % 32
    if 768 ≤ g ∨ s.bindTy g ev ≠ 3 then s.chStatus t rd .notBound
    else if !s.bindAdmits t g ev then s.chStatus t rd .scope
    else
      let s1 := { s with ltn := { s.ltn with flights := s.ltn.flights ++ [(g, ev)] } }
      (s1.chStatus t rd .ok).settle g

/-- WAIT (R85 to R87): the hits of the set are consumed together, or the thread suspends. A stepped WAIT that suspends halts at
once with PC on the WAIT (R122). -/
def doWait (t : Nat) (rd ra : Reg5) (s : State) : State :=
  s.issue t fun s =>
    let th := s.thr t
    let set := (th.greg ra).toNat % 2 ^ 32 ||| (if slotOf t = 0 then 0xF else 0)
    let pend := s.rd R.LTN_THR_EVPEND_PEND t
    let hit := pend &&& set
    if hit ≠ 0 then (s.wr R.LTN_THR_EVPEND_PEND t (clearMask pend hit)).result t rd (word32 hit)
    else if th.stepping then s.haltThread t 4
    else
      let s1 := s.modThr t fun th => { th with st := .wait, waitRd := rd }
      (s1.wr R.LTN_THR_WAITMASK_MASK t set).settle t

/-- EVPOLL (R161): the pending events of the set are consumed without suspending. -/
def doEvpoll (t : Nat) (rd ra : Reg5) (s : State) : State :=
  s.issue t fun s =>
    let pend := s.rd R.LTN_THR_EVPEND_PEND t
    let hit := pend &&& ((s.thr t).greg ra).toNat % 2 ^ 32
    (s.wr R.LTN_THR_EVPEND_PEND t (clearMask pend hit)).result t rd (word32 hit)

/-! ### The meanings of the rows -/

/-- CHWR (R99). -/
def execChwr (t : Nat) (rd : Reg5) (ra : Reg5) (s : State) : Host.Outcome State Fault Refusal :=
  .next (s.after (doChwr t rd ra s))

/-- CHCOMMIT (R100). -/
def execChcommit (t : Nat) (rd : Reg5) (ra : Reg5) (s : State) : Host.Outcome State Fault Refusal :=
  .next (s.after (doChcommit t rd ra s))

/-- CHRD (R102). -/
def execChrd (t : Nat) (rd : Reg5) (ra : Reg5) (s : State) : Host.Outcome State Fault Refusal :=
  .next (s.after (doChrd t rd ra s))

/-- CHRESV (R104). -/
def execChresv (t : Nat) (rd : Reg5) (ra : Reg5) (rb : Reg5) (s : State) : Host.Outcome State Fault Refusal :=
  .next (s.after (doChresv t rd ra rb s))

/-- CHDISCARD (R103). -/
def execChdiscard (t : Nat) (rd : Reg5) (s : State) : Host.Outcome State Fault Refusal :=
  .next (s.after (doChdiscard t rd s))

/-- CHRX (R159). -/
def execChrx (t : Nat) (rd : Reg5) (k : BitVec 3) (s : State) : Host.Outcome State Fault Refusal :=
  .next (s.after (doChrx t rd k s))

/-- EVSEND (R82). -/
def execEvsend (t : Nat) (rd : Reg5) (ra : Reg5) (rb : Reg5) (s : State) : Host.Outcome State Fault Refusal :=
  .next (s.after (doEvsend t rd ra rb s))

/-- WAIT (R85). -/
def execWait (t : Nat) (rd : Reg5) (ra : Reg5) (s : State) : Host.Outcome State Fault Refusal :=
  .next (s.after (doWait t rd ra s))

/-- EVPOLL (R161). -/
def execEvpoll (t : Nat) (rd : Reg5) (ra : Reg5) (s : State) : Host.Outcome State Fault Refusal :=
  .next (s.after (doEvpoll t rd ra s))

end Sys2Proof.Machine
end

