-- ==== Sys2Proof/Machine/LanternMem.lean ====
section
/-!
DEFINITION. The memory commands of 03_lantern_isa.md: loads and stores (R145 to R152), atomics (R153, R154), TLOOK (R162 to R164),
CRYPT (R165 to R167), DMAQ and DMAACK (R168 to R174), and block instructions (R189 to R195).
-/

namespace Sys2Proof.Machine

/-! ### Reaching memory (R42, R148, R186) -/

/-- One access of an instruction: virtual address, bytes, kind, the address that EINFO reports, and the physical address once it is
translated. -/
structure MemAcc where
  va   : Nat
  n    : Nat
  kind : AKind
  rep  : Nat
  pa   : Nat
  deriving DecidableEq, Repr

/-- Translate and check one access; an address of the Lens region that no window translates is a reserved address (R42, R584). -/
def State.reachMem (s : State) (t va : Nat) (k : AKind) (block : Bool) : Xl × State :=
  match s.reach t va k block with
  | (.pa pa, s1) =>
    if region s1.part pa = .lens ∧ (s1.outWindow pa (k == .store)).isNone = true then (.exc .access (memInfo va k.code 0), s1)
    else (.pa pa, s1)
  | x => x

/-- The place of a fault in the order of R186. -/
def faultRank (f : Cls × Nat) : Nat :=
  match f.1 with
  | .misaligned => 8
  | .access => if bitsAt f.2 50 3 = 1 then 9 else 12
  | .pageFault => 10
  | .privAccess => 11
  | _ => 13

/-- The fault that acts: the first in the order of R186, and of equals the one of the operand named first. -/
def firstFault : List (Cls × Nat) → Option (Cls × Nat)
  | [] => none
  | f :: r => match firstFault r with
    | some g => if faultRank f ≤ faultRank g then some f else some g
    | none => some f

/-- EINFO with another address. -/
def infoAt (info rep : Nat) : Nat := info / 2 ^ 48 * 2 ^ 48 + rep % 2 ^ 48

/-- Translate and check several accesses: the faults, the accesses with their physical addresses, and the state. -/
def State.reachAll (s : State) (t : Nat) (block : Bool) : List MemAcc → List (Cls × Nat) × List MemAcc × State
  | [] => ([], [], s)
  | a :: r =>
    match s.reachMem t a.va a.kind block with
    | (.pa pa, s1) =>
      let x := s1.reachAll t block r
      (x.1, { a with pa := pa } :: x.2.1, x.2.2)
    | (.exc c i, s1) =>
      let x := s1.reachAll t block r
      ((c, infoAt i a.rep) :: x.1, a :: x.2.1, x.2.2)

/-- The accesses of a range of at most 4,096 bytes, one for each page it touches. -/
def pageAccs (va n : Nat) (k : AKind) : List MemAcc :=
  let m := Nat.min n (4096 - va % 4096)
  ⟨va, m, k, va, 0⟩ :: if m < n then [⟨(va + m) % 2 ^ 64, n - m, k, va, 0⟩] else []

/-- What the reads of an instruction answer: all bytes, a read from the fabric that is still to be made, or a poisoned word. -/
inductive Got where
  | all (l : List Bytes)
  | need (a : MemAcc)
  | ue (a : MemAcc)
  deriving DecidableEq, Repr

/-- One more result in front. -/
def Got.cons (b : Bytes) : Got → Got
  | .all l => .all (b :: l)
  | g => g

/-- Gather the reads of an instruction; `ans` are the answers that the fabric has given, in order. A read of the register space
that is no register access returns 0 (R17). -/
def State.gather (s : State) : List MemAcc → List Bytes → Got
  | [], _ => .all []
  | a :: r, ans =>
    match region s.part a.pa with
    | .lens => match ans with
      | [] => .need a
      | b :: more => (s.gather r more).cons b
    | .regSpace => (s.gather r ans).cons (zeros a.n)
    | _ => if s.badRange a.pa a.n then .ue a else (s.gather r ans).cons (s.bytes a.pa a.n)

/-- Issue a thread's read from the Lens region (R152, R564); the answer comes with a response, or at once. -/
def State.lensRead (s : State) (t : Nat) (a : MemAcc) (rd : Reg5) (sx : Bool) : State :=
  match s.outWindow a.pa false with
  | none => s
  | some (w, node, off) =>
    let u := coreUnit s (coreOf t)
    let r := s.issueReq false w node off a.n [] 0 u (.load t)
    let s1 := r.2.modThr t fun th => { th with lens := some ⟨r.1, rd, a.n, sx, a.rep⟩ }
    match s1.issueEnd node u with
    | some e => s1.endReq r.1 e
    | none => s1

/-- Store bytes at a physical address that a thread may reach: memory, or a posted write to the fabric (R152). A store to the
register space that is no register access is ignored (R17). -/
def State.storeAt (s : State) (t a : Nat) (bs : Bytes) : State :=
  match region s.part a with
  | .hbm | .trie | .pktBuf | .mac => s.storeAll a bs
  | .lens => (s.transfer true a bs 0 (coreUnit s (coreOf t)) (fun _ => .store) (bs.length + 1) 0 bs.length).2
  | _ => s

/-- The offset of an address in the device register space. -/
def regOff (a : Nat) : Nat := a - 0xF000000000

/-! ### Loads and stores (R145 to R152) -/

/-- The effective address of a load or store (R145). -/
def effAddr (th : Thread) (ra : Reg5) (imm : BitVec 16) : Nat := (th.greg ra + sext imm).toNat

/-- A load of `n` bytes at physical address `pa`, reached by virtual address `va` (R42, R148, R152). -/
def State.loadAt (s : State) (t : Nat) (rd : Reg5) (va pa n : Nat) (sx : Bool) : State :=
  match region s.part pa with
  | .lens => s.lensRead t ⟨va, n, .load, va, pa⟩ rd sx
  | .regSpace => s.result t rd (loadVal n sx (s.regAs (.thread t) (regOff pa) n))
  | _ => if s.badRange pa n then s.raiseUe t va pa n .load else s.result t rd (loadVal n sx (s.mval pa n))

/-- A load of `n` bytes; `sx` asks for sign extension (R145 to R152). -/
def State.load (s : State) (t : Nat) (rd ra : Reg5) (imm : BitVec 16) (n : Nat) (sx : Bool) : State :=
  s.issue t fun s =>
    let va := effAddr (s.thr t) ra imm
    if va % n ≠ 0 then s.raiseAt t .misaligned (memInfo va 0 0)
    else
      match s.reachMem t va .load false with
      | (.exc c i, s1) => s1.raiseAt t c i
      | (.pa pa, s1) => s1.loadAt t rd va pa n sx

/-- A store of the low `n` bytes of `v` at physical address `pa` (R148, R152). A register takes the store after the instruction has
retired, since it may stop the thread. -/
def State.storeTo (s : State) (t pa n v : Nat) : State :=
  match region s.part pa with
  | .regSpace => (s.retire t id).busWrite (.thread t) (regOff pa) n v
  | _ => (s.storeAt t pa (leBytes n v)).retire t id

/-- A store of `n` bytes (R145 to R152). -/
def State.store (s : State) (t : Nat) (rs ra : Reg5) (imm : BitVec 16) (n : Nat) : State :=
  s.issue t fun s =>
    let th := s.thr t
    let va := effAddr th ra imm
    let v := (th.greg rs).toNat % 2 ^ (8 * n)
    if va % n ≠ 0 then s.raiseAt t .misaligned (memInfo va 1 0)
    else
      match s.reachMem t va .store false with
      | (.exc c i, s1) => s1.raiseAt t c i
      | (.pa pa, s1) => s1.storeTo t pa n v

/-- LDBU (R145). -/
def doLdbu (t : Nat) (rd ra : Reg5) (imm : BitVec 16) (s : State) : State := s.load t rd ra imm 1 false

/-- LDHU (R145). -/
def doLdhu (t : Nat) (rd ra : Reg5) (imm : BitVec 16) (s : State) : State := s.load t rd ra imm 2 false

/-- LDWU (R145). -/
def doLdwu (t : Nat) (rd ra : Reg5) (imm : BitVec 16) (s : State) : State := s.load t rd ra imm 4 false

/-- LDD (R145). -/
def doLdd (t : Nat) (rd ra : Reg5) (imm : BitVec 16) (s : State) : State := s.load t rd ra imm 8 false

/-- LDB (R145). -/
def doLdb (t : Nat) (rd ra : Reg5) (imm : BitVec 16) (s : State) : State := s.load t rd ra imm 1 true

/-- LDH (R145). -/
def doLdh (t : Nat) (rd ra : Reg5) (imm : BitVec 16) (s : State) : State := s.load t rd ra imm 2 true

/-- LDW (R145). -/
def doLdw (t : Nat) (rd ra : Reg5) (imm : BitVec 16) (s : State) : State := s.load t rd ra imm 4 true

/-- STB (R145). -/
def doStb (t : Nat) (rs ra : Reg5) (imm : BitVec 16) (s : State) : State := s.store t rs ra imm 1

/-- STH (R145). -/
def doSth (t : Nat) (rs ra : Reg5) (imm : BitVec 16) (s : State) : State := s.store t rs ra imm 2

/-- STW (R145). -/
def doStw (t : Nat) (rs ra : Reg5) (imm : BitVec 16) (s : State) : State := s.store t rs ra imm 4

/-- STD (R145). -/
def doStd (t : Nat) (rs ra : Reg5) (imm : BitVec 16) (s : State) : State := s.store t rs ra imm 8

/-! ### Atomics (R153, R154) -/

/-- An atomic whose new value is a function of the width in bits, the old value, g[RB] and g[RD] (R153, R154). -/
def State.atom (s : State) (t : Nat) (rd ra rb : Reg5) (w32 : Bool) (f : Nat → Nat → Nat → Nat → Nat) : State :=
  s.issue t fun s =>
    let th := s.thr t
    let n := if w32 then 4 else 8
    let va := (th.greg ra).toNat
    if va % n ≠ 0 then s.raiseAt t .misaligned (memInfo va 3 0)
    else
      match s.reachMem t va .atomic false with
      | (.exc c i, s1) => s1.raiseAt t c i
      | (.pa pa, s1) =>
        if s1.badRange pa n then s1.raiseUe t va pa n .atomic
        else
          let old := s1.mval pa n
          let new := f (8 * n) old (th.greg rb).toNat (th.greg rd).toNat
          (s1.storeAt t pa (leBytes n new)).result t rd (BitVec.ofNat 64 old)

/-- SWAP (R153). -/
def doSwap (t : Nat) (rd ra rb : Reg5) (w32 : Bool) (s : State) : State :=
  s.atom t rd ra rb w32 fun w old b _ => AtomOp.swap.apply w old b

/-- CAS (R153): RD on entry is the comparand, in the width of the operation. -/
def doCas (t : Nat) (rd ra rb : Reg5) (w32 : Bool) (s : State) : State :=
  s.atom t rd ra rb w32 fun w old b c => if old = c % 2 ^ w then b % 2 ^ w else old

/-- FADD (R153). -/
def doFadd (t : Nat) (rd ra rb : Reg5) (w32 : Bool) (s : State) : State :=
  s.atom t rd ra rb w32 fun w old b _ => AtomOp.add.apply w old b

/-- FAND (R153). -/
def doFand (t : Nat) (rd ra rb : Reg5) (w32 : Bool) (s : State) : State :=
  s.atom t rd ra rb w32 fun w old b _ => AtomOp.and.apply w old b

/-- FOR (R153). -/
def doFOr (t : Nat) (rd ra rb : Reg5) (w32 : Bool) (s : State) : State :=
  s.atom t rd ra rb w32 fun w old b _ => AtomOp.or.apply w old b

/-- FXOR (R153). -/
def doFxor (t : Nat) (rd ra rb : Reg5) (w32 : Bool) (s : State) : State :=
  s.atom t rd ra rb w32 fun w old b _ => AtomOp.xor.apply w old b

/-- FMIN (R153). -/
def doFmin (t : Nat) (rd ra rb : Reg5) (w32 : Bool) (s : State) : State :=
  s.atom t rd ra rb w32 fun w old b _ => AtomOp.min.apply w old b

/-- FMAX (R153). -/
def doFmax (t : Nat) (rd ra rb : Reg5) (w32 : Bool) (s : State) : State :=
  s.atom t rd ra rb w32 fun w old b _ => AtomOp.max.apply w old b

/-- FMINU (R153). -/
def doFminu (t : Nat) (rd ra rb : Reg5) (w32 : Bool) (s : State) : State :=
  s.atom t rd ra rb w32 fun w old b _ => AtomOp.minu.apply w old b

/-- FMAXU (R153). -/
def doFmaxu (t : Nat) (rd ra rb : Reg5) (w32 : Bool) (s : State) : State :=
  s.atom t rd ra rb w32 fun w old b _ => AtomOp.maxu.apply w old b

/-! ### TLOOK (R162 to R164, R280, R281, R329) -/

/-- A TLOOK retires with a status and result data (R163). -/
def State.look (s : State) (t : Nat) (rd : Reg5) (st : LookStat) (data : Nat) : State :=
  s.result t rd (BitVec.ofNat 64 (st.code + data))

/-- TLOOK in the trie (R162, R295, R329). -/
def State.lookLpm (s : State) (t : Nat) (rd : Reg5) (vrf addr w : Nat) : State :=
  match lpm s vrf addr w with
  | .hit nh plen => s.look t rd .hit (nh * 2 ^ 8 + plen * 2 ^ 26)
  | .miss => s.look t rd .miss 0
  | .badNode => s.look t rd .miss 0
  | .noRoot => s.look t rd .badArg 0
  | .ue e => (s.countPoison e 4).look t rd .uncorrectable 0

/-- TLOOK LPM4 (R162, R329). -/
def doTlookLpm4 (t : Nat) (rd ra rc : Reg5) (s : State) : State :=
  s.issue t fun s => s.upermOr t 0 (wordQ 0x2B rd ra 0 rc 0) fun s =>
    let th := s.thr t
    s.lookLpm t rd ((th.greg rc).toNat % 2 ^ 16) ((th.greg ra).toNat % 2 ^ 32) 32

/-- TLOOK LPM6 (R162, R329). -/
def doTlookLpm6 (t : Nat) (rd ra rb rc : Reg5) (s : State) : State :=
  s.issue t fun s => s.upermOr t 0 (wordQ 0x2B rd ra rb rc 1) fun s =>
    let th := s.thr t
    s.lookLpm t rd ((th.greg rc).toNat % 2 ^ 16) ((th.greg ra).toNat * 2 ^ 64 + (th.greg rb).toNat) 128

/-- TLOOK MAC (R162, R307, R329): no hit bit is set. -/
def doTlookMac (t : Nat) (rd ra rc : Reg5) (s : State) : State :=
  s.issue t fun s => s.upermOr t 0 (wordQ 0x2B rd ra 0 rc 2) fun s =>
    let th := s.thr t
    let c := s.ctab (some ((th.greg rc).toNat % 4))
    let key := (th.greg ra).toNat
    let s1 := s.cCount c key
    match s1.cFind c key with
    | some i =>
      let e := s1.cEnt c i
      s1.look t rd .hit (bitsAt e 76 4 * 2 ^ 8 + bitsAt e 80 20 * 2 ^ 12 + bitsAt e 65 3 * 2 ^ 32)
    | none => s1.look t rd (if (s1.cPoison c key).isSome then .uncorrectable else .miss) 0

/-- Read the key block of a TLOOK (R162): in HBM only, with the faults of a load; `k` takes its bytes. -/
def State.keyBlock (s : State) (t va n : Nat) (k : State → Bytes → State) : State :=
  if va % n ≠ 0 then s.raiseAt t .misaligned (memInfo va 0 0)
  else
    match s.reach t va .load false with
    | (.exc c i, s1) => s1.raiseAt t c i
    | (.pa pa, s1) =>
      if region s1.part pa ≠ .hbm then s1.raiseAt t .access (memInfo va 0 3)
      else if s1.badRange pa n then s1.raiseUe t va pa n .load
      else k s1 (s1.bytes pa n)

/-- TLOOK FLOW (R162, R302, R329). -/
def doTlookFlow (t : Nat) (rd ra rc : Reg5) (s : State) : State :=
  s.issue t fun s => s.upermOr t 0 (wordQ 0x2B rd ra 0 rc 3) fun s =>
    let th := s.thr t
    s.keyBlock t (th.greg ra).toNat 64 fun s b =>
      if !s.flag R.FWD_FLOW_CFG_EN 0 then s.look t rd .badArg 0
      else
        let c := s.ctab none
        let key := flowTabKey (sliceB b 0 40) ((th.greg rc).toNat % 2 ^ 8)
        let s1 := s.cCount c key
        match s1.cFind c key with
        | some i =>
          let w := bitsAt (s1.cEnt c i) 384 64
          s1.look t rd .hit (i / 4 * 2 ^ 8 + i % 4 * 2 ^ 30 + bitsAt w 0 19 * 2 ^ 32)
        | none => s1.look t rd (if (s1.cPoison c key).isSome then .uncorrectable else .miss) 0

/-- TLOOK PSM (R162, R272, R280, R281): during a hold of the pipeline the thread waits for its end. -/
def doTlookPsm (t : Nat) (rd ra rc : Reg5) (s : State) : State :=
  s.issue t fun s0 => s0.upermOr t 0 (wordQ 0x2B rd ra 0 rc 4) fun s1 =>
    let th := s1.thr t
    let p := (th.greg rc).toNat % 4
    let prof := bitsAt (th.greg rc).toNat 8 8
    s1.keyBlock t (th.greg ra).toNat 128 fun s b =>
      let x := s.prism p
      if 64 ≤ prof ∨ x.on R.PRS_PROF_EN (64 * p + prof) = false then s.look t rd .badArg 0
      else if x.hold then s0
      else
        let banks := x.val R.PSM_PROF_BANKS_BANKS (64 * p + prof)
        let r := s.psmSearch p (leVal (sliceB b 0 80)) (leVal (sliceB b 80 1)) banks
        match r.1 with
        | .hit bk row => r.2.look t rd .hit (bk * 2 ^ 8 + row * 2 ^ 13 + ((r.2.prism p).shd bk row).act % 2 ^ 32 * 2 ^ 24)
        | .miss => r.2.look t rd .miss 0
        | _ => r.2.look t rd .uncorrectable 0

/-! ### CRYPT (R165 to R167) -/

/-- A label's ALG fits AESENC and AESDEC (R368). -/
def algBlock (a : Nat) : Bool := decide (a ≤ 7 ∨ a = 9 ∨ a = 10)

/-- AESENC or AESDEC with its blocks read (R166, R370, R371, R378, R389): no cluster, no right, or the output is written. -/
def State.aesOne (s : State) (t : Nat) (rd : Reg5) (dec : Bool) (out : Nat) (inp label : Bytes) : State :=
  let th := s.thr t
  let done (s : State) (st : Nat) : State :=
    (s.modThr t fun th => { th with blk := none, lensIn := [] }).result t rd (BitVec.ofNat 64 st)
  match s.chooseCluster with
  | (none, s1) => done s1 0x83
  | (some c, s1) =>
    let alg := labelAlg label
    if !labelGood label || !algBlock alg || !s1.granted (labelSlot label) (.crypt th.pl1) then done s1 CplStat.keyDenied.code
    else
      let z := s1.takeKey c label (th.dmactx.toNat % 2 ^ 12)
      let key := keyOf alg z.1
      done (z.2.storeAt t out (if dec then aesDec key inp else aesEnc key inp)) 0

/-- The accesses of AESENC and AESDEC (R166). -/
def aesAccs (th : Thread) (ra rb rc : Reg5) : List MemAcc :=
  let a := (th.greg ra).toNat
  let b := (th.greg rb).toNat
  let c := (th.greg rc).toNat
  [⟨a, 16, .load, a, 0⟩, ⟨b, 16, .store, b, 0⟩, ⟨c, 32, .load, c, 0⟩]

/-- The misaligned ones of a list of accesses, each of which must be aligned to its size. -/
def misaligned (l : List MemAcc) : List (Cls × Nat) :=
  (l.filter fun a => a.va % a.n != 0).map fun a => (.misaligned, memInfo a.va a.kind.code 0)

/-- AESENC or AESDEC from its check of the three addresses on; `dec` selects AESDEC. -/
def State.aesRun (s : State) (t : Nat) (rd ra rb rc : Reg5) (dec : Bool) : State :=
  let th := s.thr t
  let l := aesAccs th ra rb rc
  match firstFault (misaligned l) with
  | some f => s.raiseAt t f.1 f.2
  | none =>
    let x := s.reachAll t false l
    let s1 := x.2.2
    match firstFault x.1 with
    | some f => s1.raiseAt t f.1 f.2
    | none =>
      match s1.gather (x.2.1.filter fun a => a.kind == .load) th.lensIn with
      | .ue a => s1.raiseUe t a.rep a.pa a.n .load
      | .need a =>
        (s1.modThr t fun th => { th with blk := some (if dec then 17 else 16, rd, ra, rb, rc) }).lensRead t a rd false
      | .all l => s1.aesOne t rd dec ((x.2.1.getD 1 ⟨0, 0, .store, 0, 0⟩).pa) (l.getD 0 []) (l.getD 1 [])

/-- AESENC (R165, R166, R389). -/
def doAesenc (t : Nat) (rd ra rb rc : Reg5) (s : State) : State :=
  s.issue t fun s => s.upermOr t 1 (wordQ 0x2D rd ra rb rc 0) fun s => s.aesRun t rd ra rb rc false

/-- AESDEC (R165, R166, R389). -/
def doAesdec (t : Nat) (rd ra rb rc : Reg5) (s : State) : State :=
  s.issue t fun s => s.upermOr t 1 (wordQ 0x2D rd ra rb rc 1) fun s => s.aesRun t rd ra rb rc true

/-- CRYPT RAND (R165, R377, R378): 0 while the service DRBG is not seeded. -/
def doCryptRand (t : Nat) (rd : Reg5) (s : State) : State :=
  s.issue t fun s => s.upermOr t 1 (wordQ 0x2D rd 0 0 0 3) fun s =>
    let s1 := s.count 69 0x03 1
    if s1.flag R.GLT_RNG_STAT_SVC_FAIL 0 then s1.result t rd 0
    else
      let d := s1.drbg 8
      d.2.result t rd (BitVec.ofNat 64 (leVal d.1))

/-! ### Submission to a DMA completion ring (R167 to R174) -/

/-- The ring refuses a submission (R169, R171): not enabled, another owner, or full. -/
def State.ringRefuses (s : State) (t i : Nat) : Option SubStat :=
  if !s.flag R.LTN_DMA_RING_CFG_ENABLE i then some .closed
  else if s.rd R.LTN_DMA_RING_CFG_OWNER i ≠ t then some .scope
  else if 2 ^ s.rd R.LTN_DMA_RING_CFG_SIZE_LOG2 i ≤ s.rd R.LTN_DMA_RING_STAT_INFLIGHT i + s.rd R.LTN_DMA_RING_STAT_UNACKED i then
    some .full
  else none

/-- What a job takes from its submitter (R167, R168, R170): identity, translation, function and PASID of DMACTX. -/
def Thread.job (th : Thread) (t r seq ctl : Nat) (host : Bool) : Job :=
  let d := th.dmactx.toNat
  { Job.fresh (.ring (clusterOf t) r seq) with
    gtid := some t, xlate := th.xlate, pl1 := th.pl1, ptbr := th.ptbr, asid := th.asid
    order := bitAt ctl 26, userTag := bitsAt ctl 40 24
    fn := if host then some (bitsAt d 0 12) else none
    pasid := if bitAt d 32 then some (bitsAt d 12 20) else none
    pmr := bitAt d 33 }

/-- A submission is accepted (R169): it takes the ring's next sequence number; `k` adds the job. -/
def State.submit (s : State) (t : Nat) (rd : Reg5) (i : Nat) (k : State → Nat → State) : State :=
  let seq := s.rd R.LTN_DMA_RING_STAT_NEXT_SEQ i
  let s1 := s.wrs i [(R.LTN_DMA_RING_STAT_INFLIGHT, s.rd R.LTN_DMA_RING_STAT_INFLIGHT i + 1),
    (R.LTN_DMA_RING_STAT_NEXT_SEQ, (seq + 1) % 65536)]
  ((k s1 seq).modThr t fun th => { th with blk := none, lensIn := [] }).result t rd
    (BitVec.ofNat 64 (SubStat.ok.code + seq * 2 ^ 16))

/-- A submission is refused. -/
def State.subRefused (s : State) (t : Nat) (rd : Reg5) (st : SubStat) : State :=
  (s.modThr t fun th => { th with blk := none, lensIn := [] }).result t rd (BitVec.ofNat 64 st.code)

/-- DMAQ (R168 to R173, R478): a host side whose function has no Bus Master Enable ends the transfer with BME_LOST. -/
def doDmaq (t : Nat) (rd ra rb rc : Reg5) (s : State) : State :=
  s.issue t fun s => s.upermOr t 2 (wordQ 0x2C rd ra rb rc 0) fun s =>
    let th := s.thr t
    let ctl := (th.greg rc).toNat
    let len := bitsAt ctl 0 24
    let i := ringIx (clusterOf t) (bitsAt ctl 32 8)
    let near : Side := .inner [((th.greg ra).toNat, len)]
    let host := bitAt ctl 25
    let far : Side := if host then .host [((th.greg rb).toNat, len)] else .inner [((th.greg rb).toNat, len)]
    let up := bitAt ctl 24
    let lost := host && !(s.fcfg (bitsAt th.dmactx.toNat 0 12)).bme
    if len = 0 ∨ bitsAt ctl 27 5 ≠ 0 then s.subRefused t rd .badArg
    else
      match s.ringRefuses t i with
      | some st => s.subRefused t rd st
      | none => s.submit t rd i fun s seq =>
        let j : Job := { th.job t (bitsAt ctl 32 8) seq ctl host with
          opc := 0xFE, src := if up then near else far, dst := if up then far else near }
        (s.addJob (if lost then { j.fail CplStat.bmeLost.code with started := true } else j)).2

/-- DMAACK (R174). -/
def doDmaack (t : Nat) (rd ra rb : Reg5) (s : State) : State :=
  s.issue t fun s => s.upermOr t 2 (wordQ 0x2C rd ra rb 0 1) fun s =>
    let th := s.thr t
    let i := ringIx (clusterOf t) ((th.greg ra).toNat % 256)
    let n := (th.greg rb).toNat
    let have_ := s.rd R.LTN_DMA_RING_STAT_UNACKED i
    if s.rd R.LTN_DMA_RING_CFG_OWNER i ≠ t then s.result t rd (BitVec.ofNat 64 SubStat.scope.code)
    else if n = 0 ∨ have_ < n then s.result t rd (BitVec.ofNat 64 SubStat.badArg.code)
    else (s.wr R.LTN_DMA_RING_STAT_UNACKED i (have_ - n)).result t rd (BitVec.ofNat 64 SubStat.ok.code)

/-- The thread can commit to the output channel of a CRYPT JOB (R167). -/
def State.outChanOk (s : State) (t b : Nat) : Bool :=
  bitAt b 63 || (s.chanOpen (b % 4096) && s.chanAdmits t (b % 4096))

/-- The control word of a CRYPT JOB (R165, R168): LEN, DIR, HOST and the reserved bits are 0. -/
def jobCtlOk (ctl : Nat) : Bool := bitsAt ctl 0 26 == 0 && bitsAt ctl 27 5 == 0

/-- The source of a CRYPT JOB's descriptor: its data, or its fragment table (R384, R500, R504). -/
def jobSrc (d : Bytes) : Side :=
  let a := leVal (sliceB d 8 8)
  if leVal (sliceB d 4 1) = 1 then .inner [(a, 16 * leVal (sliceB d 20 2))] else .inner [(a, descLen d)]

/-- CRYPT JOB with its descriptor read (R167, R365, R378). -/
def State.jobSubmit (s : State) (t : Nat) (rd rb rc : Reg5) (d : Bytes) : State :=
  let th := s.thr t
  let ctl := (th.greg rc).toNat
  let b := (th.greg rb).toNat
  let r := bitsAt ctl 32 8
  let i := ringIx (clusterOf t) r
  if !jobCtlOk ctl || leVal (sliceB d 0 1) != 8 || !descGood d 2 || !s.outChanOk t b then s.subRefused t rd .badArg
  else
    match s.ringRefuses t i with
    | some st => s.subRefused t rd st
    | none => s.submit t rd i fun s seq =>
      let j : Job := { th.job t r seq ctl true with
        opc := 8, desc := d, src := jobSrc d, table := leVal (sliceB d 4 1) == 1
        outChan := if bitAt b 63 then none else some (b % 4096) }
      match s.chooseCluster with
      | (some c, s1) =>
        let a := (s1.jobIn c).addJob { j with cluster := some c }
        (a.2.startJob a.1).pump a.1
      | (none, s1) => (s1.addJob { j.fail 0x83 with started := true }).2

/-- CRYPT JOB from the read of its descriptor on (R167, R170). -/
def State.jobRun (s : State) (t : Nat) (rd ra rb rc : Reg5) : State :=
  let th := s.thr t
  let x := s.reachAll t false (pageAccs (th.greg ra).toNat 64 .load)
  let s1 := x.2.2
  match firstFault x.1 with
  | some f => s1.raiseAt t f.1 f.2
  | none =>
    match s1.gather x.2.1 th.lensIn with
    | .ue a => s1.raiseUe t a.rep a.pa a.n .load
    | .need a => (s1.modThr t fun th => { th with blk := some (18, rd, ra, rb, rc) }).lensRead t a rd false
    | .all l => s1.jobSubmit t rd rb rc l.flatten

/-- CRYPT JOB (R165, R167, R169 to R171). -/
def doCryptJob (t : Nat) (rd ra rb rc : Reg5) (s : State) : State :=
  s.issue t fun s => s.upermOr t 1 (wordQ 0x2D rd ra rb rc 2) fun s => s.jobRun t rd ra rb rc

/-! ### Block instructions (R189 to R195) -/

/-- The operands of a block instruction: first and second register, LEN, DONE and ACC. -/
structure BlkOps where
  a    : Nat
  b    : Nat
  n    : Nat
  done : Nat
  acc  : Nat
  deriving DecidableEq, Repr

/-- The operands as the thread holds them (R189, R190). -/
def Thread.blkOps (th : Thread) (ra rb rc : Reg5) : BlkOps :=
  ⟨(th.greg ra).toNat, (th.greg rb).toNat, (th.greg rc).toNat % 2 ^ 32, th.prg.toNat % 2 ^ 32, th.prg.toNat / 2 ^ 32⟩

/-- BCOPY goes downwards (R195). -/
def BlkOps.down (o : BlkOps) (q : Nat) : Bool := q == 0 && decide (o.b < o.a ∧ o.a < o.b + o.n)

/-- The next step (R191, R195): its offset from the start of the ranges and its bytes. -/
def BlkOps.step (o : BlkOps) (q : Nat) : Nat × Nat :=
  if o.down q then
    let top := o.a + o.n - o.done
    let k := Nat.min (if top % 64 = 0 then 64 else top % 64) (o.n - o.done)
    (o.n - o.done - k, k)
  else (o.done, Nat.min (64 - (o.a + o.done) % 64) (o.n - o.done))

/-- The state of BCRC's CRC after DONE bytes (R189, R190). -/
def BlkOps.crc (o : BlkOps) : Nat := if o.done = 0 then 0xFFFFFFFF ^^^ o.b % 2 ^ 32 else o.acc

/-- The block instruction completes (R190). -/
def State.blkEnd (s : State) (t : Nat) (rd : Reg5) (v : Nat) : State :=
  s.retire t fun th => ({ th with blk := none, lensIn := [] } : Thread).setG rd (BitVec.ofNat 64 v)

/-- RD of a block instruction that comes to its end, from LEN and the CRC state (R189, R195). -/
def blkResult (q n crc : Nat) : Nat := if q = 3 then 0xFFFFFFFF ^^^ crc else n

/-- A block instruction issues (R190, R192, R195). -/
def State.blkIssue (s : State) (t q : Nat) (rd ra rb rc : Reg5) : State :=
  s.issue t fun s =>
    let o := (s.thr t).blkOps ra rb rc
    if o.n < o.done ∨ (o.acc ≠ 0 ∧ q ≠ 3) then s.raiseAt t .progressBad (s.thr t).prg.toNat
    else if o.done = o.n then s.blkEnd t rd (blkResult q o.n o.crc)
    else s.modThr t fun th => { th with blk := some (q, rd, ra, rb, rc), lensIn := [] }

/-- BCOPY (R189, R195). -/
def doBcopy (t : Nat) (rd ra rb rc : Reg5) (s : State) : State := s.blkIssue t 0 rd ra rb rc

/-- BFILL (R189). -/
def doBfill (t : Nat) (rd ra rb rc : Reg5) (s : State) : State := s.blkIssue t 1 rd ra rb rc

/-- BCMP (R189). -/
def doBcmp (t : Nat) (rd ra rb rc : Reg5) (s : State) : State := s.blkIssue t 2 rd ra rb rc

/-- BCRC (R189). -/
def doBcrc (t : Nat) (rd ra rb rc : Reg5) (s : State) : State := s.blkIssue t 3 rd ra rb rc

/-- The accesses of a step, in the order in which the operands are read and written (R148, R191). -/
def BlkOps.accs (o : BlkOps) (q : Nat) : List MemAcc :=
  let x := o.step q
  let a := (o.a + x.1) % 2 ^ 64
  let b := (o.b + x.1) % 2 ^ 64
  match q with
  | 0 => pageAccs b x.2 .load ++ pageAccs a x.2 .store
  | 1 => pageAccs a x.2 .store
  | 2 => pageAccs a x.2 .load ++ pageAccs b x.2 .load
  | _ => pageAccs a x.2 .load

/-- The bytes that a step writes (R189). -/
def BlkOps.written (o : BlkOps) (q : Nat) (read : Bytes) : Bytes :=
  let x := o.step q
  match q with
  | 0 => read
  | 1 => (List.range x.2).map fun i => BitVec.ofNat 8 (bitsAt o.b (8 * ((x.1 + i) % 8)) 8)
  | _ => []

/-- Write a step's bytes over its accesses. -/
def State.storeAccs (s : State) (t : Nat) (l : List MemAcc) (bs : Bytes) : State :=
  (l.foldl (fun (x : State × Bytes) a => (x.1.storeAt t a.pa (x.2.take a.n), x.2.drop a.n)) (s, bs)).1

/-- The offset of the first difference of BCMP in a step's bytes, first operand then second. -/
def firstDiff (k : Nat) (read : Bytes) : Option Nat :=
  (List.range k).find? fun i => read.getD i 0 != read.getD (k + i) 0

/-- A step is complete (R191, R194): the record advances; the instruction ends, or a debug STEP halts the thread on it. -/
def State.blkNext (s : State) (t q : Nat) (rd : Reg5) (n done crc : Nat) : State :=
  if done = n then s.blkEnd t rd (blkResult q n crc)
  else
    let prg := BitVec.ofNat 64 (done + (if q = 3 then crc else 0) * 2 ^ 32)
    let s1 := s.modThr t fun th => { th with prg := prg, lensIn := [] }
    if (s1.thr t).stepping then s1.haltThread t 4 else s1

/-- One step of a block instruction (R191 to R195). -/
def State.blkStep (s : State) (t q : Nat) (rd ra rb rc : Reg5) : State :=
  let th := s.thr t
  let o := th.blkOps ra rb rc
  let x := s.reachAll t true (o.accs q)
  let s1 := x.2.2
  match firstFault x.1 with
  | some f => s1.raiseAt t f.1 f.2
  | none =>
    match s1.gather (x.2.1.filter fun a => a.kind == .load) th.lensIn with
    | .ue a => s1.raiseUe t a.rep a.pa a.n .load
    | .need a => s1.lensRead t a rd false
    | .all l =>
      let read := l.flatten
      let k := o.step q
      let s2 := s1.storeAccs t (x.2.1.filter fun a => a.kind == .store) (o.written q read)
      match (if q = 2 then firstDiff k.2 read else none) with
      | some i => s2.blkEnd t rd (k.1 + i)
      | none => s2.blkNext t q rd o.n (o.done + k.2) (if q = 3 then crcRun crc32cPoly o.crc read else 0)

/-- BLOCK_STEP_DONE (R191, R193): the next step of the thread's block instruction is performed; or a CRYPT instruction goes on that
waits for a read from the fabric. -/
def doBlockStepDone (t : Nat) (s : State) : State :=
  let th := s.thr t
  if 768 ≤ t ∨ th.st ≠ .run ∨ th.lens.isSome = true ∨ s.lives t = false then s
  else
    match th.blk with
    | none => s
    | some (q, rd, ra, rb, rc) =>
      if q < 4 then s.blkStep t q rd ra rb rc
      else if q = 18 then s.jobRun t rd ra rb rc
      else s.aesRun t rd ra rb rc (q == 17)

/-! ### The meanings of the rows -/

/-- LDBU (R145). -/
def execLdbu (t : Nat) (rd : Reg5) (ra : Reg5) (imm : BitVec 16) (s : State) : Host.Outcome State Fault Refusal :=
  .next (s.after (doLdbu t rd ra imm s))

/-- LDHU (R145). -/
def execLdhu (t : Nat) (rd : Reg5) (ra : Reg5) (imm : BitVec 16) (s : State) : Host.Outcome State Fault Refusal :=
  .next (s.after (doLdhu t rd ra imm s))

/-- LDWU (R145). -/
def execLdwu (t : Nat) (rd : Reg5) (ra : Reg5) (imm : BitVec 16) (s : State) : Host.Outcome State Fault Refusal :=
  .next (s.after (doLdwu t rd ra imm s))

/-- LDD (R145). -/
def execLdd (t : Nat) (rd : Reg5) (ra : Reg5) (imm : BitVec 16) (s : State) : Host.Outcome State Fault Refusal :=
  .next (s.after (doLdd t rd ra imm s))

/-- LDB (R145). -/
def execLdb (t : Nat) (rd : Reg5) (ra : Reg5) (imm : BitVec 16) (s : State) : Host.Outcome State Fault Refusal :=
  .next (s.after (doLdb t rd ra imm s))

/-- LDH (R145). -/
def execLdh (t : Nat) (rd : Reg5) (ra : Reg5) (imm : BitVec 16) (s : State) : Host.Outcome State Fault Refusal :=
  .next (s.after (doLdh t rd ra imm s))

/-- LDW (R145). -/
def execLdw (t : Nat) (rd : Reg5) (ra : Reg5) (imm : BitVec 16) (s : State) : Host.Outcome State Fault Refusal :=
  .next (s.after (doLdw t rd ra imm s))

/-- STB (R145). -/
def execStb (t : Nat) (rs : Reg5) (ra : Reg5) (imm : BitVec 16) (s : State) : Host.Outcome State Fault Refusal :=
  .next (s.after (doStb t rs ra imm s))

/-- STH (R145). -/
def execSth (t : Nat) (rs : Reg5) (ra : Reg5) (imm : BitVec 16) (s : State) : Host.Outcome State Fault Refusal :=
  .next (s.after (doSth t rs ra imm s))

/-- STW (R145). -/
def execStw (t : Nat) (rs : Reg5) (ra : Reg5) (imm : BitVec 16) (s : State) : Host.Outcome State Fault Refusal :=
  .next (s.after (doStw t rs ra imm s))

/-- STD (R145). -/
def execStd (t : Nat) (rs : Reg5) (ra : Reg5) (imm : BitVec 16) (s : State) : Host.Outcome State Fault Refusal :=
  .next (s.after (doStd t rs ra imm s))

/-- SWAP (R153). -/
def execSwap (t : Nat) (rd : Reg5) (ra : Reg5) (rb : Reg5) (w32 : Bool) (s : State) : Host.Outcome State Fault Refusal :=
  .next (s.after (doSwap t rd ra rb w32 s))

/-- CAS (R153). -/
def execCas (t : Nat) (rd : Reg5) (ra : Reg5) (rb : Reg5) (w32 : Bool) (s : State) : Host.Outcome State Fault Refusal :=
  .next (s.after (doCas t rd ra rb w32 s))

/-- FADD (R153). -/
def execFadd (t : Nat) (rd : Reg5) (ra : Reg5) (rb : Reg5) (w32 : Bool) (s : State) : Host.Outcome State Fault Refusal :=
  .next (s.after (doFadd t rd ra rb w32 s))

/-- FAND (R153). -/
def execFand (t : Nat) (rd : Reg5) (ra : Reg5) (rb : Reg5) (w32 : Bool) (s : State) : Host.Outcome State Fault Refusal :=
  .next (s.after (doFand t rd ra rb w32 s))

/-- FOR (R153). -/
def execFOr (t : Nat) (rd : Reg5) (ra : Reg5) (rb : Reg5) (w32 : Bool) (s : State) : Host.Outcome State Fault Refusal :=
  .next (s.after (doFOr t rd ra rb w32 s))

/-- FXOR (R153). -/
def execFxor (t : Nat) (rd : Reg5) (ra : Reg5) (rb : Reg5) (w32 : Bool) (s : State) : Host.Outcome State Fault Refusal :=
  .next (s.after (doFxor t rd ra rb w32 s))

/-- FMIN (R153). -/
def execFmin (t : Nat) (rd : Reg5) (ra : Reg5) (rb : Reg5) (w32 : Bool) (s : State) : Host.Outcome State Fault Refusal :=
  .next (s.after (doFmin t rd ra rb w32 s))

/-- FMAX (R153). -/
def execFmax (t : Nat) (rd : Reg5) (ra : Reg5) (rb : Reg5) (w32 : Bool) (s : State) : Host.Outcome State Fault Refusal :=
  .next (s.after (doFmax t rd ra rb w32 s))

/-- FMINU (R153). -/
def execFminu (t : Nat) (rd : Reg5) (ra : Reg5) (rb : Reg5) (w32 : Bool) (s : State) : Host.Outcome State Fault Refusal :=
  .next (s.after (doFminu t rd ra rb w32 s))

/-- FMAXU (R153). -/
def execFmaxu (t : Nat) (rd : Reg5) (ra : Reg5) (rb : Reg5) (w32 : Bool) (s : State) : Host.Outcome State Fault Refusal :=
  .next (s.after (doFmaxu t rd ra rb w32 s))

/-- TLOOK_LPM4 (R295). -/
def execTlookLpm4 (t : Nat) (rd : Reg5) (ra : Reg5) (rc : Reg5) (s : State) : Host.Outcome State Fault Refusal :=
  .next (s.after (doTlookLpm4 t rd ra rc s))

/-- TLOOK_LPM6 (R295). -/
def execTlookLpm6 (t : Nat) (rd : Reg5) (ra : Reg5) (rb : Reg5) (rc : Reg5) (s : State) : Host.Outcome State Fault Refusal :=
  .next (s.after (doTlookLpm6 t rd ra rb rc s))

/-- TLOOK_MAC (R329). -/
def execTlookMac (t : Nat) (rd : Reg5) (ra : Reg5) (rc : Reg5) (s : State) : Host.Outcome State Fault Refusal :=
  .next (s.after (doTlookMac t rd ra rc s))

/-- TLOOK_FLOW (R329). -/
def execTlookFlow (t : Nat) (rd : Reg5) (ra : Reg5) (rc : Reg5) (s : State) : Host.Outcome State Fault Refusal :=
  .next (s.after (doTlookFlow t rd ra rc s))

/-- TLOOK_PSM (R280). -/
def execTlookPsm (t : Nat) (rd : Reg5) (ra : Reg5) (rc : Reg5) (s : State) : Host.Outcome State Fault Refusal :=
  .next (s.after (doTlookPsm t rd ra rc s))

/-- DMAQ (R168). -/
def execDmaq (t : Nat) (rd : Reg5) (ra : Reg5) (rb : Reg5) (rc : Reg5) (s : State) : Host.Outcome State Fault Refusal :=
  .next (s.after (doDmaq t rd ra rb rc s))

/-- DMAACK (R174). -/
def execDmaack (t : Nat) (rd : Reg5) (ra : Reg5) (rb : Reg5) (s : State) : Host.Outcome State Fault Refusal :=
  .next (s.after (doDmaack t rd ra rb s))

/-- AESENC (R166). -/
def execAesenc (t : Nat) (rd : Reg5) (ra : Reg5) (rb : Reg5) (rc : Reg5) (s : State) : Host.Outcome State Fault Refusal :=
  .next (s.after (doAesenc t rd ra rb rc s))

/-- AESDEC (R166). -/
def execAesdec (t : Nat) (rd : Reg5) (ra : Reg5) (rb : Reg5) (rc : Reg5) (s : State) : Host.Outcome State Fault Refusal :=
  .next (s.after (doAesdec t rd ra rb rc s))

/-- CRYPT_JOB (R167). -/
def execCryptJob (t : Nat) (rd : Reg5) (ra : Reg5) (rb : Reg5) (rc : Reg5) (s : State) : Host.Outcome State Fault Refusal :=
  .next (s.after (doCryptJob t rd ra rb rc s))

/-- CRYPT_RAND (R165). -/
def execCryptRand (t : Nat) (rd : Reg5) (s : State) : Host.Outcome State Fault Refusal :=
  .next (s.after (doCryptRand t rd s))

/-- BCOPY (R195). -/
def execBcopy (t : Nat) (rd : Reg5) (ra : Reg5) (rb : Reg5) (rc : Reg5) (s : State) : Host.Outcome State Fault Refusal :=
  .next (s.after (doBcopy t rd ra rb rc s))

/-- BFILL (R189). -/
def execBfill (t : Nat) (rd : Reg5) (ra : Reg5) (rb : Reg5) (rc : Reg5) (s : State) : Host.Outcome State Fault Refusal :=
  .next (s.after (doBfill t rd ra rb rc s))

/-- BCMP (R189). -/
def execBcmp (t : Nat) (rd : Reg5) (ra : Reg5) (rb : Reg5) (rc : Reg5) (s : State) : Host.Outcome State Fault Refusal :=
  .next (s.after (doBcmp t rd ra rb rc s))

/-- BCRC (R189). -/
def execBcrc (t : Nat) (rd : Reg5) (ra : Reg5) (rb : Reg5) (rc : Reg5) (s : State) : Host.Outcome State Fault Refusal :=
  .next (s.after (doBcrc t rd ra rb rc s))

/-- BLOCK_STEP_DONE (R191). -/
def execBlockStepDone (t : Nat) (s : State) : Host.Outcome State Fault Refusal :=
  .next (s.after (doBlockStepDone t s))

end Sys2Proof.Machine
end

