-- ==== Sys2Proof/Machine/Dispatch.lean ====
section
/-!
DEFINITION. The dispatch: one arm for each command (row of spec/opcode_table.json), each a call of the command's meaning.
-/

namespace Sys2Proof.Machine

def exec (i : Instr) (s : State) : Host.Outcome State Fault Refusal :=
  match i with
  | .regWrite w off val bytes => Sys2Proof.Machine.execRegWrite w off val bytes s
  | .lowerHalfWrite w off val => Sys2Proof.Machine.execLowerHalfWrite w off val s
  | .upperHalfWrite w off val => Sys2Proof.Machine.execUpperHalfWrite w off val s
  | .badWidthAccess w off bytes write val => Sys2Proof.Machine.execBadWidthAccess w off bytes write val s
  | .ethGrpModeWrite w n val => Sys2Proof.Machine.execEthGrpModeWrite w n val s
  | .ethPortCfgWrite w e val => Sys2Proof.Machine.execEthPortCfgWrite w e val s
  | .ethFrameReceive e frame => Sys2Proof.Machine.execEthFrameReceive e frame s
  | .ethFrameTransmit e badSegment => Sys2Proof.Machine.execEthFrameTransmit e badSegment s
  | .ethLinkUp e hiSer => Sys2Proof.Machine.execEthLinkUp e hiSer s
  | .ethLinkDown e blockLock amLock localFault remoteFault => Sys2Proof.Machine.execEthLinkDown e blockLock amLock localFault remoteFault s
  | .eventLatch t ev => Sys2Proof.Machine.execEventLatch t ev s
  | .messageVisible chan => Sys2Proof.Machine.execMessageVisible chan s
  | .threadTimerFire t => Sys2Proof.Machine.execThreadTimerFire t s
  | .leaseExpire t => Sys2Proof.Machine.execLeaseExpire t s
  | .irqSetWrite w cluster k val => Sys2Proof.Machine.execIrqSetWrite w cluster k val s
  | .irqLatchClear w cluster k val => Sys2Proof.Machine.execIrqLatchClear w cluster k val s
  | .interruptEntry t => Sys2Proof.Machine.execInterruptEntry t s
  | .fltqPop w core => Sys2Proof.Machine.execFltqPop w core s
  | .heartbeat w core => Sys2Proof.Machine.execHeartbeat w core s
  | .heartbeatTimeout core => Sys2Proof.Machine.execHeartbeatTimeout core s
  | .eclipse core => Sys2Proof.Machine.execEclipse core s
  | .groupEclipse cluster g => Sys2Proof.Machine.execGroupEclipse cluster g s
  | .groupCtlWrite w cluster g members val => Sys2Proof.Machine.execGroupCtlWrite w cluster g members val s
  | .channelEnable w chan val => Sys2Proof.Machine.execChannelEnable w chan val s
  | .channelDisable w chan => Sys2Proof.Machine.execChannelDisable w chan s
  | .start w t => Sys2Proof.Machine.execStart w t s
  | .kill w t andStart => Sys2Proof.Machine.execKill w t andStart s
  | .debugHaltRequest w core mask => Sys2Proof.Machine.execDebugHaltRequest w core mask s
  | .debugHalt t => Sys2Proof.Machine.execDebugHalt t s
  | .debugResume w core mask => Sys2Proof.Machine.execDebugResume w core mask s
  | .debugStep w core mask => Sys2Proof.Machine.execDebugStep w core mask s
  | .hwBreakpoint t => Sys2Proof.Machine.execHwBreakpoint t s
  | .dbgdataWrite w t val => Sys2Proof.Machine.execDbgdataWrite w t val s
  | .add t rd ra rb => Sys2Proof.Machine.execAdd t rd ra rb s
  | .sub t rd ra rb => Sys2Proof.Machine.execSub t rd ra rb s
  | .and t rd ra rb => Sys2Proof.Machine.execAnd t rd ra rb s
  | .or t rd ra rb => Sys2Proof.Machine.execOr t rd ra rb s
  | .xor t rd ra rb => Sys2Proof.Machine.execXor t rd ra rb s
  | .andn t rd ra rb => Sys2Proof.Machine.execAndn t rd ra rb s
  | .shl t rd ra rb => Sys2Proof.Machine.execShl t rd ra rb s
  | .shr t rd ra rb => Sys2Proof.Machine.execShr t rd ra rb s
  | .sra t rd ra rb => Sys2Proof.Machine.execSra t rd ra rb s
  | .ror t rd ra rb => Sys2Proof.Machine.execRor t rd ra rb s
  | .clt t rd ra rb => Sys2Proof.Machine.execClt t rd ra rb s
  | .cltu t rd ra rb => Sys2Proof.Machine.execCltu t rd ra rb s
  | .min t rd ra rb => Sys2Proof.Machine.execMin t rd ra rb s
  | .max t rd ra rb => Sys2Proof.Machine.execMax t rd ra rb s
  | .minu t rd ra rb => Sys2Proof.Machine.execMinu t rd ra rb s
  | .maxu t rd ra rb => Sys2Proof.Machine.execMaxu t rd ra rb s
  | .addw t rd ra rb => Sys2Proof.Machine.execAddw t rd ra rb s
  | .subw t rd ra rb => Sys2Proof.Machine.execSubw t rd ra rb s
  | .clz t rd ra => Sys2Proof.Machine.execClz t rd ra s
  | .ctz t rd ra => Sys2Proof.Machine.execCtz t rd ra s
  | .popc t rd ra => Sys2Proof.Machine.execPopc t rd ra s
  | .bswap t rd ra => Sys2Proof.Machine.execBswap t rd ra s
  | .ext t rd ra rb => Sys2Proof.Machine.execExt t rd ra rb s
  | .ins t rd ra rb => Sys2Proof.Machine.execIns t rd ra rb s
  | .addi t rd ra imm => Sys2Proof.Machine.execAddi t rd ra imm s
  | .andi t rd ra imm => Sys2Proof.Machine.execAndi t rd ra imm s
  | .ori t rd ra imm => Sys2Proof.Machine.execOri t rd ra imm s
  | .xori t rd ra imm => Sys2Proof.Machine.execXori t rd ra imm s
  | .shifti t rd ra kind amount => Sys2Proof.Machine.execShifti t rd ra kind amount s
  | .clti t rd ra imm => Sys2Proof.Machine.execClti t rd ra imm s
  | .cltiu t rd ra imm => Sys2Proof.Machine.execCltiu t rd ra imm s
  | .immz t rd hw imm => Sys2Proof.Machine.execImmz t rd hw imm s
  | .immk t rd hw imm => Sys2Proof.Machine.execImmk t rd hw imm s
  | .mul t rd ra rb => Sys2Proof.Machine.execMul t rd ra rb s
  | .mulhu t rd ra rb => Sys2Proof.Machine.execMulhu t rd ra rb s
  | .mulhs t rd ra rb => Sys2Proof.Machine.execMulhs t rd ra rb s
  | .mulw t rd ra rb => Sys2Proof.Machine.execMulw t rd ra rb s
  | .divu t rd ra rb => Sys2Proof.Machine.execDivu t rd ra rb s
  | .divs t rd ra rb => Sys2Proof.Machine.execDivs t rd ra rb s
  | .remu t rd ra rb => Sys2Proof.Machine.execRemu t rd ra rb s
  | .rems t rd ra rb => Sys2Proof.Machine.execRems t rd ra rb s
  | .ldbu t rd ra imm => Sys2Proof.Machine.execLdbu t rd ra imm s
  | .ldhu t rd ra imm => Sys2Proof.Machine.execLdhu t rd ra imm s
  | .ldwu t rd ra imm => Sys2Proof.Machine.execLdwu t rd ra imm s
  | .ldd t rd ra imm => Sys2Proof.Machine.execLdd t rd ra imm s
  | .ldb t rd ra imm => Sys2Proof.Machine.execLdb t rd ra imm s
  | .ldh t rd ra imm => Sys2Proof.Machine.execLdh t rd ra imm s
  | .ldw t rd ra imm => Sys2Proof.Machine.execLdw t rd ra imm s
  | .stb t rs ra imm => Sys2Proof.Machine.execStb t rs ra imm s
  | .sth t rs ra imm => Sys2Proof.Machine.execSth t rs ra imm s
  | .stw t rs ra imm => Sys2Proof.Machine.execStw t rs ra imm s
  | .std t rs ra imm => Sys2Proof.Machine.execStd t rs ra imm s
  | .swap t rd ra rb w32 => Sys2Proof.Machine.execSwap t rd ra rb w32 s
  | .cas t rd ra rb w32 => Sys2Proof.Machine.execCas t rd ra rb w32 s
  | .fadd t rd ra rb w32 => Sys2Proof.Machine.execFadd t rd ra rb w32 s
  | .fand t rd ra rb w32 => Sys2Proof.Machine.execFand t rd ra rb w32 s
  | .fOr t rd ra rb w32 => Sys2Proof.Machine.execFOr t rd ra rb w32 s
  | .fxor t rd ra rb w32 => Sys2Proof.Machine.execFxor t rd ra rb w32 s
  | .fmin t rd ra rb w32 => Sys2Proof.Machine.execFmin t rd ra rb w32 s
  | .fmax t rd ra rb w32 => Sys2Proof.Machine.execFmax t rd ra rb w32 s
  | .fminu t rd ra rb w32 => Sys2Proof.Machine.execFminu t rd ra rb w32 s
  | .fmaxu t rd ra rb w32 => Sys2Proof.Machine.execFmaxu t rd ra rb w32 s
  | .fence t => Sys2Proof.Machine.execFence t s
  | .ifence t => Sys2Proof.Machine.execIfence t s
  | .beq t ra rb off => Sys2Proof.Machine.execBeq t ra rb off s
  | .bne t ra rb off => Sys2Proof.Machine.execBne t ra rb off s
  | .blt t ra rb off => Sys2Proof.Machine.execBlt t ra rb off s
  | .bge t ra rb off => Sys2Proof.Machine.execBge t ra rb off s
  | .bltu t ra rb off => Sys2Proof.Machine.execBltu t ra rb off s
  | .bgeu t ra rb off => Sys2Proof.Machine.execBgeu t ra rb off s
  | .call t rd off => Sys2Proof.Machine.execCall t rd off s
  | .callr t rd ra imm => Sys2Proof.Machine.execCallr t rd ra imm s
  | .chwr t rd ra => Sys2Proof.Machine.execChwr t rd ra s
  | .chcommit t rd ra => Sys2Proof.Machine.execChcommit t rd ra s
  | .chrd t rd ra => Sys2Proof.Machine.execChrd t rd ra s
  | .chresv t rd ra rb => Sys2Proof.Machine.execChresv t rd ra rb s
  | .chdiscard t rd => Sys2Proof.Machine.execChdiscard t rd s
  | .chrx t rd k => Sys2Proof.Machine.execChrx t rd k s
  | .evsend t rd ra rb => Sys2Proof.Machine.execEvsend t rd ra rb s
  | .wait t rd ra => Sys2Proof.Machine.execWait t rd ra s
  | .evpoll t rd ra => Sys2Proof.Machine.execEvpoll t rd ra s
  | .tlookLpm4 t rd ra rc => Sys2Proof.Machine.execTlookLpm4 t rd ra rc s
  | .tlookLpm6 t rd ra rb rc => Sys2Proof.Machine.execTlookLpm6 t rd ra rb rc s
  | .tlookMac t rd ra rc => Sys2Proof.Machine.execTlookMac t rd ra rc s
  | .tlookFlow t rd ra rc => Sys2Proof.Machine.execTlookFlow t rd ra rc s
  | .tlookPsm t rd ra rc => Sys2Proof.Machine.execTlookPsm t rd ra rc s
  | .dmaq t rd ra rb rc => Sys2Proof.Machine.execDmaq t rd ra rb rc s
  | .dmaack t rd ra rb => Sys2Proof.Machine.execDmaack t rd ra rb s
  | .aesenc t rd ra rb rc => Sys2Proof.Machine.execAesenc t rd ra rb rc s
  | .aesdec t rd ra rb rc => Sys2Proof.Machine.execAesdec t rd ra rb rc s
  | .cryptJob t rd ra rb rc => Sys2Proof.Machine.execCryptJob t rd ra rb rc s
  | .cryptRand t rd => Sys2Proof.Machine.execCryptRand t rd s
  | .ctrrd t rd ra => Sys2Proof.Machine.execCtrrd t rd ra s
  | .srr t rd reg => Sys2Proof.Machine.execSrr t rd reg s
  | .srw t ra reg => Sys2Proof.Machine.execSrw t ra reg s
  | .syscall t code => Sys2Proof.Machine.execSyscall t code s
  | .eret t => Sys2Proof.Machine.execEret t s
  | .brk t code => Sys2Proof.Machine.execBrk t code s
  | .ien t => Sys2Proof.Machine.execIen t s
  | .idis t => Sys2Proof.Machine.execIdis t s
  | .tlbi t ra scope => Sys2Proof.Machine.execTlbi t ra scope s
  | .nops t => Sys2Proof.Machine.execNops t s
  | .bcopy t rd ra rb rc => Sys2Proof.Machine.execBcopy t rd ra rb rc s
  | .bfill t rd ra rb rc => Sys2Proof.Machine.execBfill t rd ra rb rc s
  | .bcmp t rd ra rb rc => Sys2Proof.Machine.execBcmp t rd ra rb rc s
  | .bcrc t rd ra rb rc => Sys2Proof.Machine.execBcrc t rd ra rb rc s
  | .blockStepDone t => Sys2Proof.Machine.execBlockStepDone t s
  | .dmaRingEnable w cluster r val => Sys2Proof.Machine.execDmaRingEnable w cluster r val s
  | .dmaTransferStart cluster ring seq => Sys2Proof.Machine.execDmaTransferStart cluster ring seq s
  | .dmaTransferComplete cluster ring seq => Sys2Proof.Machine.execDmaTransferComplete cluster ring seq s
  | .xlfResponse w val => Sys2Proof.Machine.execXlfResponse w val s
  | .xlfHoldTimeout cluster hold => Sys2Proof.Machine.execXlfHoldTimeout cluster hold s
  | .patrolScrub addr upset => Sys2Proof.Machine.execPatrolScrub addr upset s
  | .tlbiGo w val => Sys2Proof.Machine.execTlbiGo w val s
  | .tlbiDone => Sys2Proof.Machine.execTlbiDone s
  | .atsTranslationCompletion pg res => Sys2Proof.Machine.execAtsTranslationCompletion pg res s
  | .pageRequestIssue pg => Sys2Proof.Machine.execPageRequestIssue pg s
  | .prgResponse pg code => Sys2Proof.Machine.execPrgResponse pg code s
  | .pageRequestTimeout pg => Sys2Proof.Machine.execPageRequestTimeout pg s
  | .atsInvalidateRequest fn tag pasid page size => Sys2Proof.Machine.execAtsInvalidateRequest fn tag pasid page size s
  | .invalidationCompletion fn tag => Sys2Proof.Machine.execInvalidationCompletion fn tag s
  | .prismInputEnqueue p k => Sys2Proof.Machine.execPrismInputEnqueue p k s
  | .prismParse p => Sys2Proof.Machine.execPrismParse p s
  | .prismSearch p upset ue => Sys2Proof.Machine.execPrismSearch p upset ue s
  | .suspectRowRewrite p bank row => Sys2Proof.Machine.execSuspectRowRewrite p bank row s
  | .prismScrubRow p upsets ue => Sys2Proof.Machine.execPrismScrubRow p upsets ue s
  | .psmBatchGo w p val => Sys2Proof.Machine.execPsmBatchGo w p val s
  | .psmHoldBegin p => Sys2Proof.Machine.execPsmHoldBegin p s
  | .psmBatchApply p => Sys2Proof.Machine.execPsmBatchApply p s
  | .psmPlaceGo w p val => Sys2Proof.Machine.execPsmPlaceGo w p val s
  | .psmPlaceDone p => Sys2Proof.Machine.execPsmPlaceDone p s
  | .psmReadback w p val => Sys2Proof.Machine.execPsmReadback w p val s
  | .forwardDecision p => Sys2Proof.Machine.execForwardDecision p s
  | .lpmDrainGo w => Sys2Proof.Machine.execLpmDrainGo w s
  | .lpmDrainDone => Sys2Proof.Machine.execLpmDrainDone s
  | .flowTableEnable w val => Sys2Proof.Machine.execFlowTableEnable w val s
  | .flowBatchGo w val => Sys2Proof.Machine.execFlowBatchGo w val s
  | .cuckooRelocate table => Sys2Proof.Machine.execCuckooRelocate table s
  | .flowBatchDone => Sys2Proof.Machine.execFlowBatchDone s
  | .learnApply p => Sys2Proof.Machine.execLearnApply p s
  | .macAgeSweep p parity => Sys2Proof.Machine.execMacAgeSweep p parity s
  | .reconTick p => Sys2Proof.Machine.execReconTick p s
  | .macCmdGo w p val => Sys2Proof.Machine.execMacCmdGo w p val s
  | .macNop p => Sys2Proof.Machine.execMacNop p s
  | .macInsert p => Sys2Proof.Machine.execMacInsert p s
  | .macDelete p => Sys2Proof.Machine.execMacDelete p s
  | .clearFlap p => Sys2Proof.Machine.execClearFlap p s
  | .flushDest p => Sys2Proof.Machine.execFlushDest p s
  | .flushFd p => Sys2Proof.Machine.execFlushFd p s
  | .tmEnqueue p meterUe leafUe => Sys2Proof.Machine.execTmEnqueue p meterUe leafUe s
  | .tmDecision o badSegment => Sys2Proof.Machine.execTmDecision o badSegment s
  | .shaperRelease => Sys2Proof.Machine.execShaperRelease s
  | .coarseSlotEnter => Sys2Proof.Machine.execCoarseSlotEnter s
  | .tmRecordRead w val ue => Sys2Proof.Machine.execTmRecordRead w val ue s
  | .tmRecordWrite w val => Sys2Proof.Machine.execTmRecordWrite w val s
  | .tmIndDone => Sys2Proof.Machine.execTmIndDone s
  | .pktNop w val => Sys2Proof.Machine.execPktNop w val s
  | .pktFree w val => Sys2Proof.Machine.execPktFree w val s
  | .pktCopy w val badSegment => Sys2Proof.Machine.execPktCopy w val badSegment s
  | .pktInject w val => Sys2Proof.Machine.execPktInject w val s
  | .pktReparse w val => Sys2Proof.Machine.execPktReparse w val s
  | .pktCmdDone => Sys2Proof.Machine.execPktCmdDone s
  | .heldFrameExpire handle => Sys2Proof.Machine.execHeldFrameExpire handle s
  | .ctxTableEnable w val => Sys2Proof.Machine.execCtxTableEnable w val s
  | .ctxFreeze w val => Sys2Proof.Machine.execCtxFreeze w val s
  | .ctxRelease w val => Sys2Proof.Machine.execCtxRelease w val s
  | .ctxCmdNop w val => Sys2Proof.Machine.execCtxCmdNop w val s
  | .ctxFreezeDone => Sys2Proof.Machine.execCtxFreezeDone s
  | .rootSlotDisable w slot val => Sys2Proof.Machine.execRootSlotDisable w slot val s
  | .glintJobStart job => Sys2Proof.Machine.execGlintJobStart job s
  | .glintTagVerdict job => Sys2Proof.Machine.execGlintTagVerdict job s
  | .glintJobComplete job => Sys2Proof.Machine.execGlintJobComplete job s
  | .glintChanStall job => Sys2Proof.Machine.execGlintChanStall job s
  | .glintInlineStart p => Sys2Proof.Machine.execGlintInlineStart p s
  | .glintInlineVerdict cl => Sys2Proof.Machine.execGlintInlineVerdict cl s
  | .drbgReseed cl => Sys2Proof.Machine.execDrbgReseed cl s
  | .entropyHealthFail => Sys2Proof.Machine.execEntropyHealthFail s
  | .nvmEnable w val => Sys2Proof.Machine.execNvmEnable w val s
  | .nvmeSqDoorbell fn id tail => Sys2Proof.Machine.execNvmeSqDoorbell fn id tail s
  | .nvmeCqDoorbell fn id head => Sys2Proof.Machine.execNvmeCqDoorbell fn id head s
  | .nvmeArbitrate reads => Sys2Proof.Machine.execNvmeArbitrate reads s
  | .nvmeCommandCheck slot sep reads => Sys2Proof.Machine.execNvmeCommandCheck slot sep reads s
  | .nvmeHandoff slot => Sys2Proof.Machine.execNvmeHandoff slot s
  | .nvmDone w val => Sys2Proof.Machine.execNvmDone w val s
  | .nvmeComplete slot reads badSegment => Sys2Proof.Machine.execNvmeComplete slot reads badSegment s
  | .nvmeRead slot reads badSegment => Sys2Proof.Machine.execNvmeRead slot reads badSegment s
  | .nvmeWrite slot reads => Sys2Proof.Machine.execNvmeWrite slot reads s
  | .nvmeFlush slot => Sys2Proof.Machine.execNvmeFlush slot s
  | .nvmeWriteZeroes slot => Sys2Proof.Machine.execNvmeWriteZeroes slot s
  | .nvmeDatasetMgmt slot reads => Sys2Proof.Machine.execNvmeDatasetMgmt slot reads s
  | .nvmeIdentify slot => Sys2Proof.Machine.execNvmeIdentify slot s
  | .nvmeGetLogPage slot => Sys2Proof.Machine.execNvmeGetLogPage slot s
  | .nvmeAsyncEventRequest slot => Sys2Proof.Machine.execNvmeAsyncEventRequest slot s
  | .nvmeCreateIoSq slot => Sys2Proof.Machine.execNvmeCreateIoSq slot s
  | .nvmeDeleteIoSq slot => Sys2Proof.Machine.execNvmeDeleteIoSq slot s
  | .nvmeCreateIoCq slot => Sys2Proof.Machine.execNvmeCreateIoCq slot s
  | .nvmeDeleteIoCq slot => Sys2Proof.Machine.execNvmeDeleteIoCq slot s
  | .nvmeAbort slot reads => Sys2Proof.Machine.execNvmeAbort slot reads s
  | .nvmeSetArbitration slot => Sys2Proof.Machine.execNvmeSetArbitration slot s
  | .nvmeGetArbitration slot => Sys2Proof.Machine.execNvmeGetArbitration slot s
  | .nvmeSetPowerMgmt slot => Sys2Proof.Machine.execNvmeSetPowerMgmt slot s
  | .nvmeGetPowerMgmt slot => Sys2Proof.Machine.execNvmeGetPowerMgmt slot s
  | .nvmeSetNumQueues slot => Sys2Proof.Machine.execNvmeSetNumQueues slot s
  | .nvmeGetNumQueues slot => Sys2Proof.Machine.execNvmeGetNumQueues slot s
  | .nvmeSetIntCoalescing slot => Sys2Proof.Machine.execNvmeSetIntCoalescing slot s
  | .nvmeGetIntCoalescing slot => Sys2Proof.Machine.execNvmeGetIntCoalescing slot s
  | .nvmeSetIntVectorCfg slot => Sys2Proof.Machine.execNvmeSetIntVectorCfg slot s
  | .nvmeGetIntVectorCfg slot => Sys2Proof.Machine.execNvmeGetIntVectorCfg slot s
  | .nvmePowerStateEntered fn => Sys2Proof.Machine.execNvmePowerStateEntered fn s
  | .nvmeCcEnable fn cc => Sys2Proof.Machine.execNvmeCcEnable fn cc s
  | .nvmeCcDisable fn cc => Sys2Proof.Machine.execNvmeCcDisable fn cc s
  | .nvmeRdyClear fn => Sys2Proof.Machine.execNvmeRdyClear fn s
  | .nvmeShutdownNormal fn cc => Sys2Proof.Machine.execNvmeShutdownNormal fn cc s
  | .nvmeShutdownAbrupt fn cc => Sys2Proof.Machine.execNvmeShutdownAbrupt fn cc s
  | .nvmeShutdownComplete fn => Sys2Proof.Machine.execNvmeShutdownComplete fn s
  | .nvmeFwactPause w => Sys2Proof.Machine.execNvmeFwactPause w s
  | .nvmeFwactDrainTimeout => Sys2Proof.Machine.execNvmeFwactDrainTimeout s
  | .nvmeFwactResume w => Sys2Proof.Machine.execNvmeFwactResume w s
  | .perstAssert port => Sys2Proof.Machine.execPerstAssert port s
  | .perstDeassert port => Sys2Proof.Machine.execPerstDeassert port s
  | .hotReset link => Sys2Proof.Machine.execHotReset link s
  | .pcieLinkUp link partnerRate partnerWidth partnerFlit => Sys2Proof.Machine.execPcieLinkUp link partnerRate partnerWidth partnerFlit s
  | .pcieLinkDown link => Sys2Proof.Machine.execPcieLinkDown link s
  | .flrStart fn => Sys2Proof.Machine.execFlrStart fn s
  | .flrDone fn => Sys2Proof.Machine.execFlrDone fn s
  | .vfEnableClear pf numVfs enable => Sys2Proof.Machine.execVfEnableClear pf numVfs enable s
  | .bmeClear fn => Sys2Proof.Machine.execBmeClear fn s
  | .bmeSet fn => Sys2Proof.Machine.execBmeSet fn s
  | .atsEnableClear fn => Sys2Proof.Machine.execAtsEnableClear fn s
  | .msixTableWrite fn vec addr data => Sys2Proof.Machine.execMsixTableWrite fn vec addr data s
  | .msixUnmask fn vec => Sys2Proof.Machine.execMsixUnmask fn vec s
  | .barMemoryRequest fn bar off bytes write val => Sys2Proof.Machine.execBarMemoryRequest fn bar off bytes write val s
  | .hostReadCompletion tag ok poisoned data => Sys2Proof.Machine.execHostReadCompletion tag ok poisoned data s
  | .completionTimeout tag => Sys2Proof.Machine.execCompletionTimeout tag s
  | .d3hotEntry fn => Sys2Proof.Machine.execD3hotEntry fn s
  | .d0Entry fn => Sys2Proof.Machine.execD0Entry fn s
  | .pmeSend fn => Sys2Proof.Machine.execPmeSend fn s
  | .wakeEvent src => Sys2Proof.Machine.execWakeEvent src s
  | .pmeTurnOff link => Sys2Proof.Machine.execPmeTurnOff link s
  | .aspmL1Entry link => Sys2Proof.Machine.execAspmL1Entry link s
  | .l0pWidthChange link full => Sys2Proof.Machine.execL0pWidthChange link full s
  | .ptmMeasure master => Sys2Proof.Machine.execPtmMeasure master s
  | .qmEnable w val => Sys2Proof.Machine.execQmEnable w val s
  | .sqEnable w q val => Sys2Proof.Machine.execSqEnable w q val s
  | .cqEnable w c val => Sys2Proof.Machine.execCqEnable w c val s
  | .sqDoorbell fn idx pi => Sys2Proof.Machine.execSqDoorbell fn idx pi s
  | .cqHeadDoorbell fn idx head => Sys2Proof.Machine.execCqHeadDoorbell fn idx head s
  | .cqOvfClr fn idx => Sys2Proof.Machine.execCqOvfClr fn idx s
  | .fetchVisit link reads => Sys2Proof.Machine.execFetchVisit link reads s
  | .descriptorCheck q table_ => Sys2Proof.Machine.execDescriptorCheck q table_ s
  | .descNop q => Sys2Proof.Machine.execDescNop q s
  | .ethSend q => Sys2Proof.Machine.execEthSend q s
  | .ethSendComplete job => Sys2Proof.Machine.execEthSendComplete job s
  | .rxPost q => Sys2Proof.Machine.execRxPost q s
  | .glintJob q => Sys2Proof.Machine.execGlintJob q s
  | .fwRequest q => Sys2Proof.Machine.execFwRequest q s
  | .rxFrameDeliver q badSegment => Sys2Proof.Machine.execRxFrameDeliver q badSegment s
  | .fwCompletionPost w val => Sys2Proof.Machine.execFwCompletionPost w val s
  | .spillMove c => Sys2Proof.Machine.execSpillMove c s
  | .coalTimerExpire c => Sys2Proof.Machine.execCoalTimerExpire c s
  | .funcNoticeCommit => Sys2Proof.Machine.execFuncNoticeCommit s
  | .quiesceSet w fn rxReturn => Sys2Proof.Machine.execQuiesceSet w fn rxReturn s
  | .quiesceClear w fn => Sys2Proof.Machine.execQuiesceClear w fn s
  | .mirrorEnable w m val => Sys2Proof.Machine.execMirrorEnable w m val s
  | .harvest w m => Sys2Proof.Machine.execHarvest w m s
  | .harvestDone m => Sys2Proof.Machine.execHarvestDone m s
  | .harvestNoFlush m => Sys2Proof.Machine.execHarvestNoFlush m s
  | .flitReceive p f => Sys2Proof.Machine.execFlitReceive p f s
  | .nakResendTimer p => Sys2Proof.Machine.execNakResendTimer p s
  | .replayTimeout p => Sys2Proof.Machine.execReplayTimeout p s
  | .fabricPortTrained p peerLanes shares => Sys2Proof.Machine.execFabricPortTrained p peerLanes shares s
  | .retrainTimeout p => Sys2Proof.Machine.execRetrainTimeout p s
  | .fabricPacketSend p badSegs => Sys2Proof.Machine.execFabricPacketSend p badSegs s
  | .creditStall p vc => Sys2Proof.Machine.execCreditStall p vc s
  | .fabricTransit p vc => Sys2Proof.Machine.execFabricTransit p vc s
  | .fabricRead p => Sys2Proof.Machine.execFabricRead p s
  | .fabricWrite p => Sys2Proof.Machine.execFabricWrite p s
  | .fabricReadData p => Sys2Proof.Machine.execFabricReadData p s
  | .fabricAck p => Sys2Proof.Machine.execFabricAck p s
  | .fabricNak p => Sys2Proof.Machine.execFabricNak p s
  | .fabricFrame p => Sys2Proof.Machine.execFabricFrame p s
  | .fabricReqTimeout tag => Sys2Proof.Machine.execFabricReqTimeout tag s
  | .fencedRequestDrop unit => Sys2Proof.Machine.execFencedRequestDrop unit s
  | .helloSend p => Sys2Proof.Machine.execHelloSend p s
  | .helloReceive p h => Sys2Proof.Machine.execHelloReceive p h s
  | .coordDeclare => Sys2Proof.Machine.execCoordDeclare s
  | .coordHeartbeatSend => Sys2Proof.Machine.execCoordHeartbeatSend s
  | .coordHeartbeatReceive p term prio serial seq => Sys2Proof.Machine.execCoordHeartbeatReceive p term prio serial seq s
  | .coordTimeout => Sys2Proof.Machine.execCoordTimeout s
  | .nodeIdRequest p serial pref reg path => Sys2Proof.Machine.execNodeIdRequest p serial pref reg path s
  | .nodeIdGrant p serial id path => Sys2Proof.Machine.execNodeIdGrant p serial id path s
  | .nodeIdRetry => Sys2Proof.Machine.execNodeIdRetry s
  | .nodeIdHoldExpire id => Sys2Proof.Machine.execNodeIdHoldExpire id s
  | .routeUpdateSend => Sys2Proof.Machine.execRouteUpdateSend s
  | .routeUpdateReceive p first dn any => Sys2Proof.Machine.execRouteUpdateReceive p first dn any s
  | .routeEntryWrite w d val => Sys2Proof.Machine.execRouteEntryWrite w d val s
  | .laneRetire p lane => Sys2Proof.Machine.execLaneRetire p lane s
  | .lensCommit w => Sys2Proof.Machine.execLensCommit w s
  | .lensCommitDone => Sys2Proof.Machine.execLensCommitDone s
  | .lensCommitForce => Sys2Proof.Machine.execLensCommitForce s
  | .lensWrDrain w => Sys2Proof.Machine.execLensWrDrain w s
  | .lensWrDrainDone => Sys2Proof.Machine.execLensWrDrainDone s
  | .faultReport unit kind loc tries ok => Sys2Proof.Machine.execFaultReport unit kind loc tries ok s
  | .faultLogPop w val => Sys2Proof.Machine.execFaultLogPop w val s
  | .switchOver unit lost lostCtx => Sys2Proof.Machine.execSwitchOver unit lost lostCtx s
  | .fencedUnitGate unit => Sys2Proof.Machine.execFencedUnitGate unit s
  | .lhsMismatch => Sys2Proof.Machine.execLhsMismatch s
  | .testRequest w val => Sys2Proof.Machine.execTestRequest w val s
  | .scheduledTest unit => Sys2Proof.Machine.execScheduledTest unit s
  | .testSpareFree => Sys2Proof.Machine.execTestSpareFree s
  | .testDeadline => Sys2Proof.Machine.execTestDeadline s
  | .testDone pass => Sys2Proof.Machine.execTestDone pass s
  | .laneRecalibrate unit warm ok => Sys2Proof.Machine.execLaneRecalibrate unit warm ok s
  | .fadeReading island slacks ro vrOk => Sys2Proof.Machine.execFadeReading island slacks ro vrOk s
  | .fadeRun w val readings ros vrOk => Sys2Proof.Machine.execFadeRun w val readings ros vrOk s
  | .planReset w island => Sys2Proof.Machine.execPlanReset w island s
  | .snapshotGo w => Sys2Proof.Machine.execSnapshotGo w s
  | .snapshotPeriodic => Sys2Proof.Machine.execSnapshotPeriodic s
  | .snapshotTake => Sys2Proof.Machine.execSnapshotTake s
  | .snapshotDone => Sys2Proof.Machine.execSnapshotDone s
  | .counterBlockClear w b => Sys2Proof.Machine.execCounterBlockClear w b s
  | .freezeAll w freeze => Sys2Proof.Machine.execFreezeAll w freeze s
  | .clearAll w => Sys2Proof.Machine.execClearAll w s
  | .counterParityCheck errors => Sys2Proof.Machine.execCounterParityCheck errors s
  | .roleCommand smbus w val object burnFails => Sys2Proof.Machine.execRoleCommand smbus w val object burnFails s
  | .keyNop w val => Sys2Proof.Machine.execKeyNop w val s
  | .keyGenerate w val => Sys2Proof.Machine.execKeyGenerate w val s
  | .keyDeriveDevice w val => Sys2Proof.Machine.execKeyDeriveDevice w val s
  | .keyImport w val => Sys2Proof.Machine.execKeyImport w val s
  | .keyErase w val => Sys2Proof.Machine.execKeyErase w val s
  | .keyCmdDone => Sys2Proof.Machine.execKeyCmdDone s
  | .logSeal w => Sys2Proof.Machine.execLogSeal w s
  | .fwNop w val => Sys2Proof.Machine.execFwNop w val s
  | .fwStage w val flashOk => Sys2Proof.Machine.execFwStage w val flashOk s
  | .fwActivate w val => Sys2Proof.Machine.execFwActivate w val s
  | .fwYield w => Sys2Proof.Machine.execFwYield w s
  | .fwYieldTimeout => Sys2Proof.Machine.execFwYieldTimeout s
  | .fwTrialStart => Sys2Proof.Machine.execFwTrialStart s
  | .fwOpen w => Sys2Proof.Machine.execFwOpen w s
  | .fwConfirm w val => Sys2Proof.Machine.execFwConfirm w val s
  | .fwConfirmTimeout => Sys2Proof.Machine.execFwConfirmTimeout s
  | .bootStage0 => Sys2Proof.Machine.execBootStage0 s
  | .bootStage1 => Sys2Proof.Machine.execBootStage1 s
  | .configReady => Sys2Proof.Machine.execConfigReady s
  | .bootStage2 => Sys2Proof.Machine.execBootStage2 s
  | .recoveryImage object => Sys2Proof.Machine.execRecoveryImage object s
  | .spdmGetVersion tr msg => Sys2Proof.Machine.execSpdmGetVersion tr msg s
  | .spdmGetCapabilities tr msg => Sys2Proof.Machine.execSpdmGetCapabilities tr msg s
  | .spdmNegotiateAlgorithms tr msg => Sys2Proof.Machine.execSpdmNegotiateAlgorithms tr msg s
  | .spdmGetDigests tr msg => Sys2Proof.Machine.execSpdmGetDigests tr msg s
  | .spdmGetCertificate tr msg => Sys2Proof.Machine.execSpdmGetCertificate tr msg s
  | .spdmChallenge tr msg busy => Sys2Proof.Machine.execSpdmChallenge tr msg busy s
  | .spdmGetMeasurements tr msg busy => Sys2Proof.Machine.execSpdmGetMeasurements tr msg busy s
  | .spdmChunkSend tr msg busy => Sys2Proof.Machine.execSpdmChunkSend tr msg busy s
  | .spdmChunkGet tr msg => Sys2Proof.Machine.execSpdmChunkGet tr msg s
  | .spdmVendorDefinedRequest tr msg => Sys2Proof.Machine.execSpdmVendorDefinedRequest tr msg s
  | .blockDim b => Sys2Proof.Machine.execBlockDim b s
  | .blockDark b => Sys2Proof.Machine.execBlockDark b s
  | .blockWake b => Sys2Proof.Machine.execBlockWake b s
  | .pwrFloorWrite w b val => Sys2Proof.Machine.execPwrFloorWrite w b val s
  | .pllLockLoss pll => Sys2Proof.Machine.execPllLockLoss pll s
  | .powerOnReset => Sys2Proof.Machine.execPowerOnReset s
  | .porRelease gpio => Sys2Proof.Machine.execPorRelease gpio s
  | .mainPgRise => Sys2Proof.Machine.execMainPgRise s
  | .mainPgFall => Sys2Proof.Machine.execMainPgFall s
  | .deviceSoftReset w => Sys2Proof.Machine.execDeviceSoftReset w s
  | .tempSample temps => Sys2Proof.Machine.execTempSample temps s
  | .throttleStep => Sys2Proof.Machine.execThrottleStep s
  | .throttleRelease => Sys2Proof.Machine.execThrottleRelease s
  | .thermtrip => Sys2Proof.Machine.execThermtrip s
  | .railFault rail => Sys2Proof.Machine.execRailFault rail s
  | .vrTimeout => Sys2Proof.Machine.execVrTimeout s
  | .illegalInstruction t word => Sys2Proof.Machine.execIllegalInstruction t word s
  | .instructionFetchFault t => Sys2Proof.Machine.execInstructionFetchFault t s
  | .entropyHealthPass => Sys2Proof.Machine.execEntropyHealthPass s
  | .interruptDisableWrite pf disable => Sys2Proof.Machine.execInterruptDisableWrite pf disable s
  | .priEnable pf alloc => Sys2Proof.Machine.execPriEnable pf alloc s
  | .fabricSignalLoss p => Sys2Proof.Machine.execFabricSignalLoss p s
  | .fabricSignalDetect p => Sys2Proof.Machine.execFabricSignalDetect p s
  | .trstAssert => Sys2Proof.Machine.execTrstAssert s

end Sys2Proof.Machine
end

