-- ==== Sys2Proof/Safety.lean ====
section
/-!
DEFINITION. The terms in which statements speak of the machine: a thread that is ready, a writer that reaches the registers, the
canonical form of the memory, and the invariant that every step keeps.
-/

namespace Sys2Proof.Machine

/-- The internal memory is in its one canonical form: addresses rise strictly and no listed byte is 0, which is what an unlisted
address reads as. -/
def Memory.wf (m : List Host.Cell) : Bool := KMap.sorted m && m.all fun c => c.2 != 0

/-- An instruction of thread `t` issues: the thread is in RUN on a lit core, with no instruction in progress, and no cause of R186
stands at the boundary. -/
def State.Ready (s : State) (t : Nat) : Prop := s.canIssue t = true ∧ s.boundary t = none

/-- An instruction of thread `t` issues at PL1. -/
def State.ReadyPl1 (s : State) (t : Nat) : Prop := s.Ready t ∧ (s.thr t).pl1 = true

/-- An instruction of thread `t` that uses the unit of UPERM bit `bit` issues, at PL1 or with that grant (R134). -/
def State.ReadyUnit (s : State) (t bit : Nat) : Prop :=
  s.Ready t ∧ ((s.thr t).pl1 || bitAt (s.thr t).uperm bit) = true

/-- A channel instruction of thread `t` issues: the thread is ready and owes no CH_LEASE_LOST (R106). -/
def State.ReadyChan (s : State) (t : Nat) : Prop := s.Ready t ∧ (s.thr t).leaseLost = false

/-- The writes of `w` reach every register (R45, R134, R458). -/
def State.Reaches (s : State) (w : Writer) : Prop := ∀ off, s.mayWrite w off = true

/-- Command `c` at `s` answers a next state: `n`, with the queue, the ordering code and the timebase as `State.after` says. -/
def State.Runs (s : State) (c : Instr) (n : State) : Prop := exec c s = .next (s.after n)

/-! ### Frames -/

/-- All of `n` but its registers, the Lantern complex and the timebase is that of `s`. -/
def State.SameOutside (s n : State) : Prop := { n with regs := s.regs, ltn := s.ltn, time := s.time, frac := s.frac } = s

/-- Every register field of another name than those of `l` reads in `n` as in `s`; no register has 2^20 instances. -/
def State.KeepsFields (s : State) (l : List Fld) (n : State) : Prop :=
  ∀ (f : Fld) (i : Nat), i < 2 ^ 20 → (∀ g ∈ l, g.id ≠ f.id) → n.rd f i = s.rd f i

/-- The fields that counting and the delivery of events change: counters, pending events, wait sets and the census
(R78, R85, R114, R118, R632, R633). -/
def eventFields : List Fld :=
  [R.LUM_VAL_VALUE, R.LUM_VAL_SAT, R.LUM_BLK_SAT_WRAP, R.LTN_THR_EVPEND_PEND, R.LTN_THR_EVOVR_OVR, R.LTN_THR_WAITMASK_MASK,
    R.LTN_CORE_ECL_CENSUS, R.LTN_CORE_ECL_COUNT, R.LTN_CORE_ECL_ARMED, R.LTN_GRP_CTL_CENSUS, R.LTN_GRP_CTL_COUNT,
    R.LTN_GRP_CTL_ARMED]

/-- The fields that a debug STEP changes when its instruction ends (R122). -/
def stepFields : List Fld := [R.LTN_THR_CTL_DBG_CAUSE, R.LTN_DBG_CTL_HALT_REQ]

/-- From `s` to `n` events were counted and delivered and nothing else happened: only waiting threads moved, and only `eventFields`
changed. -/
def State.Quiet (s n : State) : Prop :=
  s.SameOutside n ∧ { n.ltn with threads := s.ltn.threads, heldEv := s.ltn.heldEv } = s.ltn ∧ n.time = s.time ∧ n.frac = s.frac
    ∧ (∀ u, (s.thr u).st ≠ .wait → n.thr u = s.thr u) ∧ s.KeepsFields eventFields n

/-- The frame of an instruction of thread `t` that writes no memory, with the general register `dest` its destination, if it has one.
All outside the registers and the Lantern complex stays. Of the Lantern complex only threads move, with events held for a core that is
being replaced; a debug STEP that ends on t0 also stops the heartbeat check (R112, R122). A thread other than `t` moves only if an event
ends its WAIT. Of thread `t` only the destination, the PC and PRG change, and what a debug STEP stops. -/
def State.FrameOf (s : State) (t : Nat) (dest : Option Reg5) (n : State) : Prop :=
  s.SameOutside n
    ∧ { n.ltn with threads := s.ltn.threads, heldEv := s.ltn.heldEv, cores := s.ltn.cores } = s.ltn
    ∧ ((s.thr t).stepping = false → n.ltn.cores = s.ltn.cores)
    ∧ (∀ u, u ≠ t → (s.thr u).st ≠ .wait → n.thr u = s.thr u)
    ∧ (∀ r, dest ≠ some r → (n.thr t).greg r = (s.thr t).greg r)
    ∧ (let m := n.thr t
       let o := s.thr t
       { m with g := o.g, pc := o.pc, prg := o.prg, st := o.st, stepping := o.stepping, blk := o.blk, lens := o.lens,
                lensIn := o.lensIn } = o
       ∧ (o.stepping = false → { m with g := o.g, pc := o.pc, prg := o.prg } = o))
    ∧ s.KeepsFields (eventFields ++ if (s.thr t).stepping then stepFields else []) n

/-- What every step keeps: the ordering code is that of the chip (R1), the fraction of a nanosecond owed stays below one, and while
power-on reset stands the timebase is at 0 (R705). -/
def State.Inv (p : Part) (s : State) : Prop :=
  s.part = p ∧ s.frac < 1000000000 ∧ (s.pwr.boot = .held → s.time = 0 ∧ s.frac = 0)

/-- The commands that store nothing in the memory of the device: those whose effect, as the spec gives it, is on registers, queues,
frames, records and threads alone. Nothing is said of a command that is left out. -/
def storesNothing : Instr → Bool
  | .badWidthAccess .. | .ethGrpModeWrite .. | .ethPortCfgWrite .. | .ethFrameReceive .. | .ethFrameTransmit .. | .ethLinkUp ..
  | .ethLinkDown .. | .eventLatch .. | .messageVisible .. | .threadTimerFire .. | .leaseExpire .. | .irqSetWrite ..
  | .irqLatchClear .. | .interruptEntry .. | .fltqPop .. | .heartbeat .. | .heartbeatTimeout .. | .eclipse .. | .groupEclipse ..
  | .groupCtlWrite .. | .channelEnable .. | .channelDisable .. | .start .. | .kill .. | .debugHaltRequest .. | .debugHalt ..
  | .debugResume .. | .debugStep .. | .hwBreakpoint .. | .dbgdataWrite .. | .add .. | .sub .. | .and .. | .or .. | .xor ..
  | .andn .. | .shl .. | .shr .. | .sra .. | .ror .. | .clt .. | .cltu .. | .min .. | .max .. | .minu .. | .maxu .. | .addw ..
  | .subw .. | .clz .. | .ctz .. | .popc .. | .bswap .. | .ext .. | .ins .. | .addi .. | .andi .. | .ori .. | .xori ..
  | .shifti .. | .clti .. | .cltiu .. | .immz .. | .immk .. | .mul .. | .mulhu .. | .mulhs .. | .mulw .. | .divu .. | .divs ..
  | .remu .. | .rems .. | .fence .. | .ifence .. | .beq .. | .bne .. | .blt .. | .bge .. | .bltu .. | .bgeu .. | .call ..
  | .callr .. | .chwr .. | .chcommit .. | .chrd .. | .chresv .. | .chdiscard .. | .chrx .. | .evsend .. | .wait .. | .evpoll ..
  | .dmaack .. | .cryptRand .. | .ctrrd .. | .srr .. | .srw .. | .syscall .. | .eret .. | .brk .. | .ien .. | .idis .. | .tlbi ..
  | .nops .. | .bcopy .. | .bfill .. | .bcmp .. | .bcrc .. | .dmaRingEnable .. | .xlfHoldTimeout .. | .tlbiGo .. | .tlbiDone
  | .pageRequestIssue .. | .atsInvalidateRequest .. | .invalidationCompletion .. | .prismInputEnqueue .. | .prismParse ..
  | .suspectRowRewrite .. | .prismScrubRow .. | .psmBatchGo .. | .psmHoldBegin .. | .psmBatchApply .. | .psmPlaceGo ..
  | .psmPlaceDone .. | .psmReadback .. | .forwardDecision .. | .lpmDrainGo .. | .lpmDrainDone | .flowTableEnable ..
  | .flowBatchDone | .reconTick .. | .macCmdGo .. | .macNop .. | .tmEnqueue .. | .tmDecision .. | .shaperRelease
  | .coarseSlotEnter | .tmIndDone | .pktCmdDone | .heldFrameExpire .. | .ctxTableEnable .. | .ctxFreeze .. | .ctxRelease ..
  | .ctxCmdNop .. | .rootSlotDisable .. | .glintChanStall .. | .glintInlineStart .. | .glintInlineVerdict .. | .drbgReseed ..
  | .entropyHealthFail | .nvmEnable .. | .nvmeSqDoorbell .. | .nvmeCqDoorbell .. | .nvmDone .. | .nvmeWriteZeroes ..
  | .nvmeIdentify .. | .nvmeGetLogPage .. | .nvmeAsyncEventRequest .. | .nvmeCcEnable .. | .nvmeCcDisable .. | .nvmeRdyClear ..
  | .nvmeShutdownNormal .. | .nvmeShutdownAbrupt .. | .nvmeShutdownComplete .. | .nvmeFwactPause .. | .nvmeFwactResume ..
  | .perstDeassert .. | .pcieLinkUp .. | .flrDone .. | .msixTableWrite .. | .msixUnmask .. | .d3hotEntry .. | .pmeSend ..
  | .wakeEvent .. | .pmeTurnOff .. | .aspmL1Entry .. | .l0pWidthChange .. | .ptmMeasure .. | .qmEnable .. | .sqEnable ..
  | .cqEnable .. | .sqDoorbell .. | .cqHeadDoorbell .. | .cqOvfClr .. | .fetchVisit .. | .coalTimerExpire .. | .funcNoticeCommit
  | .quiesceClear .. | .mirrorEnable .. | .harvestDone .. | .harvestNoFlush .. | .nakResendTimer .. | .replayTimeout ..
  | .fabricPortTrained .. | .fabricPacketSend .. | .creditStall .. | .fabricTransit .. | .fabricRead .. | .fabricFrame ..
  | .fencedRequestDrop .. | .helloSend .. | .helloReceive .. | .coordHeartbeatSend | .coordTimeout | .nodeIdRetry
  | .nodeIdHoldExpire .. | .routeUpdateSend | .routeUpdateReceive .. | .routeEntryWrite .. | .lensCommit .. | .lensCommitDone
  | .lensCommitForce | .lensWrDrain .. | .lensWrDrainDone | .faultLogPop .. | .fencedUnitGate .. | .lhsMismatch
  | .scheduledTest .. | .laneRecalibrate .. | .planReset .. | .snapshotGo .. | .snapshotPeriodic | .snapshotTake | .snapshotDone
  | .counterBlockClear .. | .freezeAll .. | .clearAll .. | .counterParityCheck .. | .keyNop .. | .keyCmdDone | .logSeal ..
  | .fwNop .. | .fwActivate .. | .fwYield .. | .fwYieldTimeout | .fwOpen .. | .fwConfirm .. | .fwConfirmTimeout | .bootStage0
  | .configReady | .recoveryImage .. | .spdmChunkGet .. | .blockDim .. | .blockDark .. | .blockWake .. | .pwrFloorWrite ..
  | .mainPgRise | .tempSample .. | .throttleStep | .throttleRelease | .thermtrip | .vrTimeout | .illegalInstruction ..
  | .instructionFetchFault .. | .entropyHealthPass | .interruptDisableWrite .. | .priEnable .. | .fabricSignalLoss ..
  | .fabricSignalDetect .. | .trstAssert => true
  | _ => false

end Sys2Proof.Machine
end

