-- ==== Sys2Proof/Certificates/Slice0/Obligations.lean ====
section
/-! DEFINITION. The statements about the model that the provers are to prove, each with the rules of the spec that it follows. A value
`s.after n` is the state `n` with the queue, the ordering code and the timebase of `s`: commands take no time. -/

open Sys2Proof Sys2Proof.Machine

/-- R138, R140: every instruction of the ALU group, IMMZ and IMMK writes its result to RD and retires. `s.result t rd v` is the
retirement: PC + 4, PRG 0, RD takes `v`. -/
def Obligations.AluResults : Prop :=
  ∀ (s : State) (t : Nat), s.Ready t → ∀ rd ra rb : Reg5,
    let a := (s.thr t).greg ra
    let b := (s.thr t).greg rb
    let gives := fun (c : Instr) (v : Word) => s.Runs c (s.result t rd v)
    gives (.add t rd ra rb) (a + b) ∧ gives (.sub t rd ra rb) (a - b) ∧ gives (.and t rd ra rb) (a &&& b)
    ∧ gives (.or t rd ra rb) (a ||| b) ∧ gives (.xor t rd ra rb) (a ^^^ b) ∧ gives (.andn t rd ra rb) (a &&& ~~~b)
    ∧ gives (.shl t rd ra rb) (a <<< (b.toNat % 64)) ∧ gives (.shr t rd ra rb) (a >>> (b.toNat % 64))
    ∧ gives (.sra t rd ra rb) (a.sshiftRight (b.toNat % 64)) ∧ gives (.ror t rd ra rb) (a.rotateRight (b.toNat % 64))
    ∧ gives (.clt t rd ra rb) (if a.slt b then 1 else 0) ∧ gives (.cltu t rd ra rb) (if a.ult b then 1 else 0)
    ∧ gives (.min t rd ra rb) (if b.slt a then b else a) ∧ gives (.max t rd ra rb) (if a.slt b then b else a)
    ∧ gives (.minu t rd ra rb) (if b.ult a then b else a) ∧ gives (.maxu t rd ra rb) (if a.ult b then b else a)
    ∧ gives (.addw t rd ra rb) (((a + b).setWidth 32).signExtend 64)
    ∧ gives (.subw t rd ra rb) (((a - b).setWidth 32).signExtend 64)
    ∧ gives (.clz t rd ra) (BitVec.ofNat 64 (if a = 0 then 64 else 63 - a.toNat.log2))
    ∧ gives (.ctz t rd ra) (BitVec.ofNat 64 (((List.range 64).find? fun i => a.getLsbD i).getD 64))
    ∧ gives (.popc t rd ra) (BitVec.ofNat 64 ((List.range 64).filter fun i => a.getLsbD i).length)
    ∧ gives (.bswap t rd ra) (BitVec.ofNat 64 (leVal (leBytes 8 a.toNat).reverse))
    ∧ gives (.ext t rd ra rb) (extBits a b) ∧ gives (.ins t rd ra rb) (insBits ((s.thr t).greg rd) a b)

/-- R138, R141, R142: the immediate forms: ANDI, ORI and XORI zero-extend IMM16, the others sign-extend it; SHIFTI shifts by its own
amount; IMMZ and IMMK place IMM16 in lane HW. -/
def Obligations.ImmediateResults : Prop :=
  ∀ (s : State) (t : Nat), s.Ready t → ∀ (rd ra : Reg5) (imm : BitVec 16) (hw kind : BitVec 2) (n : BitVec 6),
    let a := (s.thr t).greg ra
    let old := (s.thr t).greg rd
    let gives := fun (c : Instr) (v : Word) => s.Runs c (s.result t rd v)
    gives (.addi t rd ra imm) (a + imm.signExtend 64) ∧ gives (.andi t rd ra imm) (a &&& imm.setWidth 64)
    ∧ gives (.ori t rd ra imm) (a ||| imm.setWidth 64) ∧ gives (.xori t rd ra imm) (a ^^^ imm.setWidth 64)
    ∧ gives (.clti t rd ra imm) (if a.slt (imm.signExtend 64) then 1 else 0)
    ∧ gives (.cltiu t rd ra imm) (if a.ult (imm.signExtend 64) then 1 else 0)
    ∧ gives (.shifti t rd ra kind n) (match kind.toNat with
        | 0 => a <<< n.toNat
        | 1 => a >>> n.toNat
        | 2 => a.sshiftRight n.toNat
        | _ => a.rotateRight n.toNat)
    ∧ gives (.immz t rd hw imm) (imm.setWidth 64 <<< (16 * hw.toNat))
    ∧ gives (.immk t rd hw imm)
        ((old &&& ~~~((0xFFFF : Word) <<< (16 * hw.toNat))) ||| imm.setWidth 64 <<< (16 * hw.toNat))

/-- R143, R144: products and quotients; division by zero gives all ones for a quotient and the dividend for a remainder. -/
def Obligations.MultiplyDivideResults : Prop :=
  ∀ (s : State) (t : Nat), s.Ready t → ∀ rd ra rb : Reg5,
    let a := (s.thr t).greg ra
    let b := (s.thr t).greg rb
    let gives := fun (c : Instr) (v : Word) => s.Runs c (s.result t rd v)
    gives (.mul t rd ra rb) (a * b)
    ∧ gives (.mulw t rd ra rb) (((a * b).setWidth 32).signExtend 64)
    ∧ gives (.mulhu t rd ra rb) (BitVec.ofNat 64 (a.toNat * b.toNat / 2 ^ 64))
    ∧ gives (.mulhs t rd ra rb) (BitVec.ofInt 64 (a.toInt * b.toInt / 2 ^ 64))
    ∧ gives (.divu t rd ra rb) (if b = 0 then BitVec.allOnes 64 else BitVec.ofNat 64 (a.toNat / b.toNat))
    ∧ gives (.divs t rd ra rb) (if b = 0 then BitVec.allOnes 64 else BitVec.ofInt 64 (a.toInt.tdiv b.toInt))
    ∧ gives (.remu t rd ra rb) (if b = 0 then a else BitVec.ofNat 64 (a.toNat % b.toNat))
    ∧ gives (.rems t rd ra rb) (if b = 0 then a else BitVec.ofInt 64 (a.toInt.tmod b.toInt))

/-- R156: branches, CALL and CALLR. A branch writes no general register; `s.retireK t false npc f` retires with the next instruction
at `npc`. CALLR reads g[RA] before RD takes the link. -/
def Obligations.BranchAndCall : Prop :=
  ∀ (s : State) (t : Nat), s.Ready t → ∀ (rd ra rb : Reg5) (off imm : BitVec 16) (far : BitVec 21),
    let a := (s.thr t).greg ra
    let b := (s.thr t).greg rb
    let pc := (s.thr t).pc
    let goes := fun (c : Instr) (taken : Bool) =>
      s.Runs c (s.retireK t false (if taken then pc + 4 * off.signExtend 64 else pc + 4) id)
    goes (.beq t ra rb off) (a == b) ∧ goes (.bne t ra rb off) (a != b)
    ∧ goes (.blt t ra rb off) (a.slt b) ∧ goes (.bge t ra rb off) (!a.slt b)
    ∧ goes (.bltu t ra rb off) (a.ult b) ∧ goes (.bgeu t ra rb off) (!a.ult b)
    ∧ s.Runs (.call t rd far) (s.retireK t false (pc + 4 * far.signExtend 64) fun th => th.setG rd (pc + 4))
    ∧ s.Runs (.callr t rd ra imm) (s.retireK t false ((a + imm.signExtend 64) &&& ~~~(3 : Word)) fun th => th.setG rd (pc + 4))

/-- R132, R155, R177 to R179, R182, R212: the system instructions and fences at PL1. SRR gives RD the value of the register, SRW
writes the register field by field, ERET restores TSTAT and PRG and continues at EPC, TLBI removes translations from the core and
its cluster's DMA engine. Only SRR and SRW naming PRG, and ERET, keep PRG. -/
def Obligations.SystemInstructions : Prop :=
  ∀ (s : State) (t : Nat), s.ReadyPl1 t → ∀ (rd ra : Reg5) (reg : BitVec 12) (scope : BitVec 2),
    let th := s.thr t
    (reg.toNat ∈ sysRegs →
      s.Runs (.srr t rd reg) ((s.sysReg t reg.toNat).2.retireK t (reg.toNat == 7) (th.pc + 4)
        fun th => th.setG rd (s.sysReg t reg.toNat).1)
      ∧ s.Runs (.srw t ra reg) ((s.retireK t (reg.toNat == 7) (th.pc + 4) fun th =>
        th.setSys reg.toNat (th.greg ra)).settle t))
    ∧ s.Runs (.eret t) ((s.retireK t true (th.epc &&& ~~~(3 : Word)) fun th =>
        { th with ie := th.estat.getLsbD 1, xlate := th.estat.getLsbD 3, pl1 := th.estat.getLsbD 0, exa := false,
                  prg := th.eprg }).settle t)
    ∧ s.Runs (.ien t) ((s.retire t fun th => { th with ie := true }).settle t)
    ∧ s.Runs (.idis t) ((s.retire t fun th => { th with ie := false }).settle t)
    ∧ s.Runs (.nops t) (s.retire t id) ∧ s.Runs (.fence t) (s.retire t id) ∧ s.Runs (.ifence t) (s.retire t id)
    ∧ (scope ≠ 3 → s.Runs (.tlbi t ra scope)
        (((s.tlbDrop (coreOf t) scope.toNat th.asid (th.greg ra).toNat).dmaTlbDrop (clusterOf t) scope.toNat th.asid
          (th.greg ra).toNat).retire t id))

/-- R137, R176, R177, R186, R196: at either level, SYSCALL enters the handler with the next instruction as its return address; BRK
halts the thread after the BRK with a debugger connection and enters the handler without one; a word that is no instruction and a
fetch that faults enter the handler at themselves; CTRRD gives RD the counter word of an open block. -/
def Obligations.TrapsAndCounterRead : Prop :=
  ∀ (s : State) (t : Nat), s.Ready t → ∀ (rd ra : Reg5) (code : BitVec 12) (word : Nat) (cls : Cls) (info : Nat),
    let th := s.thr t
    let bp := s.flag R.LTN_DBG_CTL_BP_EN (coreOf t)
    let a := (th.greg ra).toNat
    s.Runs (.syscall t code) (s.enter t .syscall code.toNat (th.pc + 4))
    ∧ (bp = false → s.Runs (.brk t code) (s.enter t .breakpoint code.toNat (th.pc + 4)))
    ∧ (bp = true → s.Runs (.brk t code)
        (((s.countThr t 0x02 1).modThr t fun th => { th with pc := th.pc + 4, prg := 0 }).haltThread t 2))
    ∧ (legalWord (word % 2 ^ 32) = false →
        s.Runs (.illegalInstruction t word) (s.enter t .illegal (word % 2 ^ 32) th.pc))
    ∧ ((s.reach t th.pc.toNat .fetch false).1 = .exc cls info →
        s.Runs (.instructionFetchFault t) ((s.reach t th.pc.toNat .fetch false).2.raiseAt t cls info))
    ∧ (bitsAt a 0 7 < 71 → th.pl1 = true ∨ s.flag R.LUM_BLK_CTL_USER (bitsAt a 0 7) = true →
        s.Runs (.ctrrd t rd ra) ((s.count 68 0x01 1).result t rd
          (BitVec.ofNat 64 (s.ctrWord (bitsAt a 0 7) (bitsAt a 7 3) (bitAt a 10)))))

/-- R99, R100, R103, R104, R159: what each channel and event instruction does when nothing stands in its way. CHWR stages a word;
CHCOMMIT puts the staged words into a free slot, or into the thread's own reservation, on their way to the reader; CHRESV holds
slots under a lease; CHDISCARD empties staging; CHRX returns a received word; EVSEND sends its event; EVPOLL consumes events. -/
def Obligations.ChannelInstructions : Prop :=
  ∀ (s : State) (t : Nat), s.ReadyChan t → ∀ (rd ra rb : Reg5) (k : BitVec 3),
    let th := s.thr t
    let c := chanOf (th.greg ra)
    let m : ChMsg := ⟨th.stage, false, false, t⟩
    let n := (th.greg rb).toNat
    let open_ := s.chanOpen c = true ∧ s.chanAdmits t c = true
    (th.stage.length < 8 →
      s.Runs (.chwr t rd ra) ((s.modThr t fun th => { th with stage := th.stage ++ [th.greg ra] }).chStatus t rd .ok))
    ∧ (open_ → th.stage ≠ [] → th.resv = none → 0 < s.freeSlots c →
      s.Runs (.chcommit t rd ra)
        (((((s.pushSlot c .flight m).modThr t fun th => { th with stage := [] }).countThr t 0x0B 1).chStatus t rd .ok).settle
          (s.reader c)))
    ∧ (open_ → th.resv = none → 1 ≤ n → n ≤ 16 → n ≤ s.freeSlots c →
      s.Runs (.chresv t rd ra rb)
        ((((List.range n).foldl (fun s _ => s.pushSlot c (.held t) ⟨[], false, false, t⟩) s).modThr t fun th =>
          { th with resv := some ⟨c, s.time + 1000 * s.rd R.LTN_CL_CHLEASE_LEASE_US (c / 256)⟩ }).chStatus t rd .ok))
    ∧ s.Runs (.chdiscard t rd) ((s.modThr t fun th => { th with stage := [] }).chStatus t rd .ok)
    ∧ s.Runs (.chrx t rd k) (s.result t rd (th.rx.getD k.toNat 0))

/-- R102: CHRD of the reader takes the oldest message once it is visible, skipping and counting void slots, and returns its header;
the words move into the receive buffer. -/
def Obligations.ChannelReceive : Prop :=
  ∀ (s : State) (t : Nat), s.ReadyChan t → ∀ (rd ra : Reg5) (sl : Slot) (r : List Slot),
    let c := chanOf ((s.thr t).greg ra)
    let d := dropVoid (s.slots c)
    s.chanOpen c = true → s.reader c = t → d.2 = sl :: r → sl.st = .visible →
      s.Runs (.chrd t rd ra)
        (((((s.setSlots c d.2).sat R.LTN_CH_STAT_VOIDCNT c d.1).setSlots c r).modThr t fun th =>
          { th with rx := sl.msg.words }).result t rd
            (BitVec.ofNat 64 (chrdWord sl)))

/-- R82, R85, R161: EVSEND sends its event to an input bound as EV that admits the sender; EVPOLL and a WAIT with an event of its
set pending consume those events; any other WAIT suspends the thread with its set. On t0 the set of WAIT holds inputs 0 to 3. -/
def Obligations.EventInstructions : Prop :=
  ∀ (s : State) (t : Nat), s.Ready t → ∀ rd ra rb : Reg5,
    let th := s.thr t
    let a := (th.greg ra).toNat
    let g := a % 1024
    let ev := (th.greg rb).toNat % 32
    let set := a % 2 ^ 32 ||| (if slotOf t = 0 then 0xF else 0)
    let pend := s.rd R.LTN_THR_EVPEND_PEND t
    let took := fun (m : Nat) => (s.wr R.LTN_THR_EVPEND_PEND t (clearMask pend (pend &&& m))).result t rd (word32 (pend &&& m))
    (g < 768 → s.bindTy g ev = 3 → s.bindAdmits t g ev = true →
      s.Runs (.evsend t rd ra rb)
        ((({ s with ltn := { s.ltn with flights := s.ltn.flights ++ [(g, ev)] } } : State).chStatus t rd .ok).settle g))
    ∧ s.Runs (.evpoll t rd ra) (took (a % 2 ^ 32))
    ∧ (pend &&& set ≠ 0 → s.Runs (.wait t rd ra) (took set))
    ∧ (pend &&& set = 0 → th.stepping = false →
      s.Runs (.wait t rd ra)
        (((s.modThr t fun th => { th with st := .wait, waitRd := rd }).wr R.LTN_THR_WAITMASK_MASK t set).settle t))

/-- R78, R83, R106, R737: what the latching of an event, the visibility of a message, a thread's timer and the end of a lease do:
the event leaves the paths and latches; the channel's oldest message on its way becomes visible and the bound inputs fire; TIMER
returns to 0 and its inputs latch; the holder of an expired lease loses its slots and owes CH_LEASE_LOST. -/
def Obligations.EventsAndLeases : Prop :=
  ∀ (s : State) (t ev chan : Nat),
    (t < 768 → ev < 32 → (t, ev) ∈ s.ltn.flights →
      s.Runs (.eventLatch t ev) (({ s with ltn := { s.ltn with flights := eraseOne (t, ev) s.ltn.flights } } : State).latch t ev))
    ∧ ((∃ sl ∈ s.slots chan, sl.st = .flight) →
      s.Runs (.messageVisible chan) ((s.setSlots chan (showFirst (s.slots chan))).fireChannel chan))
    ∧ (s.rd R.LTN_THR_TIMER_TIMER t ≠ 0 → s.rd R.LTN_THR_TIMER_TIMER t ≤ s.time →
      s.Runs (.threadTimerFire t) ((s.wr R.LTN_THR_TIMER_TIMER t 0).latchAll (timerInputs s t)))
    ∧ (∀ r, (s.thr t).resv = some r → r.till ≤ s.time →
      s.Runs (.leaseExpire t) ((s.modThr t fun th => { th with leaseLost := true, lostChan := r.chan }).voidResv t))

/-- R92, R93, R110, R122, R123, R185: the interrupt latches, the queue of fault records and the breakpoints: IRQ_SET sets latches,
IRQ_LATCH clears those written 1, an enabled interrupt enters its handler at an instruction boundary, FLTQ_POP drops the oldest
record, a halt request or a matching breakpoint halts the thread. -/
def Obligations.InterruptsAndHalts : Prop :=
  ∀ (s : State) (w : Writer) (t cl k core val : Nat), s.Reaches w → (∀ u, w = .thread u → clusterOf u = cl) →
    let x := 8 * cl + k
    let latch := s.rd R.LTN_CL_IRQ_LATCH_LATCH x
    let th := s.thr t
    let stopped := t < 768 ∧ (th.st = .run ∨ th.st = .wait) ∧ th.atBoundary = true
    (cl < 12 → k < 8 → s.Runs (.irqSetWrite w cl k val) (s.wr R.LTN_CL_IRQ_LATCH_LATCH x (latch ||| val % 2 ^ 32)))
    ∧ (cl < 12 → k < 8 → s.Runs (.irqLatchClear w cl k val) (s.wr R.LTN_CL_IRQ_LATCH_LATCH x (clearMask latch (val % 2 ^ 32))))
    ∧ (stopped → s.lives t = true → s.irqReady t = true → s.haltReq t = false → s.bpMatch t = false →
      s.Runs (.interruptEntry t) (s.takeInterrupt t))
    ∧ (core < 96 → s.Runs (.fltqPop w core) (s.modCore core fun k => { k with fltq := k.fltq.drop 1 }))
    ∧ (stopped → s.haltReq t = true → s.Runs (.debugHalt t) (s.haltThread t 1))
    ∧ (s.canIssue t = true → s.bpMatch t = true → th.stepping = false →
      s.Runs (.hwBreakpoint t) (s.haltThread t (if s.haltReq t then 1 else 3)))

/-- R112, R114, R118: heartbeats and ECLIPSE: a write of HB by t0 restarts the period; a period that ends unanswered reports
HEARTBEAT and stops; a census that stands for the whole count of an armed core or group disarms it and queues its record for the
supervisor. -/
def Obligations.HeartbeatAndEclipse : Prop :=
  ∀ (s : State) (core cl g : Nat),
    let x := 16 * cl + g
    (core < 96 → s.mayWrite (.thread (8 * core)) (Reg.LTN_CORE_HB.off core) = true →
      s.Runs (.heartbeat (.thread (8 * core)) core)
        (s.modCore core fun k => { k with hbStart := some s.time, hbPeriod := s.rd R.LTN_CORE_HBCTL_PERIOD_US core }))
    ∧ (∀ b, (s.core core).hbStart = some b → b + 1000 * (s.core core).hbPeriod ≤ s.time →
      s.Runs (.heartbeatTimeout core)
        ((s.modCore core fun k => { k with hbStart := none }).report (coreUnit s core) .heartbeat 0))
    ∧ (core < 96 → s.coreCensus core = true → s.flag R.LTN_CORE_ECL_ARMED core = true →
      s.Runs (.eclipse core)
        ((s.wrs core [(R.LTN_CORE_ECL_COUNT, 4096), (R.LTN_CORE_ECL_CENSUS, 1), (R.LTN_CORE_ECL_ARMED, 0)]).pushFault core
          ⟨Cls.eclipse.code, 0, s.waitingMask core⟩ 2))
    ∧ (cl < 12 → g < 16 → s.groupCensus x = true → s.flag R.LTN_GRP_CTL_ARMED x = true →
      s.Runs (.groupEclipse cl g)
        ((s.wrs x [(R.LTN_GRP_CTL_COUNT, 4096), (R.LTN_GRP_CTL_CENSUS, 1), (R.LTN_GRP_CTL_ARMED, 0)]).pushFault
          (8 * cl + s.rd R.LTN_GRP_CTL_SUP_CORE x) ⟨Cls.groupEclipse.code, 0, g⟩ 4))

/-- R96, R97, R117, R120, R122, R124, R133: the control registers of groups, channels, threads and debugging take effect for a
writer that reaches them: membership while a group is off, a channel's enabling and disabling, START and KILL; with the debug right
HALT_REQ, RESUME, STEP and DBGDATA. -/
def Obligations.ThreadAndChannelControl : Prop :=
  ∀ (s : State) (w : Writer) (t cl g chan core val : Nat), s.Reaches w → t < 768 → core < 96 → chan < 3072 →
    let x := 16 * cl + g
    (cl < 12 → g < 16 → s.flag R.LTN_GRP_CTL_EN x = false →
      s.Runs (.groupCtlWrite w cl g true val) (s.wrMembers x val)
      ∧ s.Runs (.groupCtlWrite w cl g false val)
        (((s.wr R.LTN_GRP_CTL_SUP_CORE x (bitsAt val 1 3)).setFlag R.LTN_GRP_CTL_EN x
          (bitAt val 0 && !(s.members x).isEmpty)).settleGroup x))
    ∧ (s.flag R.LTN_CH_CFG_ENABLE chan = false → (s.wrChanCfg chan val).chanRefused chan = false →
      s.Runs (.channelEnable w chan val)
        ((((s.wrChanCfg chan val).wr R.LTN_CH_CFG_CFG_ERR chan 0).wr R.LTN_CH_CFG_ENABLE chan 1).settleCluster (chan / 256)))
    ∧ (s.flag R.LTN_CH_CFG_ENABLE chan = true →
      s.Runs (.channelDisable w chan)
        ((((s.wr R.LTN_CH_CFG_ENABLE chan 0).setSlots chan []).dropReservations chan).settleCluster (chan / 256)))
    ∧ (s.mayControl w t = true → s.Runs (.start w t) (s.startThread t)
      ∧ (slotOf t ≠ 0 → s.Runs (.kill w t false) (s.killThread t) ∧ s.Runs (.kill w t true) ((s.killThread t).startThread t)))
    ∧ (s.holds w .debug = true →
      s.Runs (.debugHaltRequest w core val) ((s.wr R.LTN_DBG_CTL_HALT_REQ core val).haltWaiting core val)
      ∧ s.Runs (.debugResume w core val) ((bitList 8 val).foldl (fun s k => s.unhalt (8 * core + k) false) s)
      ∧ s.Runs (.debugStep w core val) ((bitList 8 val).foldl (fun s k => s.unhalt (8 * core + k) true) s)
      ∧ (∀ n : Reg5, s.rd R.LTN_THR_DBGSEL_SEL t = n.val → (s.thr t).st = .halt →
        s.Runs (.dbgdataWrite w t val) (s.setThr t ((s.thr t).setG n (BitVec.ofNat 64 val)))))

/-- R145: a load whose address is aligned and reached returns the bytes of memory, zero- or sign-extended; of the register space,
what the register reads as to this thread. A load from the Lens region sends its read and waits. -/
def Obligations.LoadResults : Prop :=
  ∀ (s : State) (t : Nat), s.Ready t → ∀ (rd ra : Reg5) (imm : BitVec 16) (pa : Nat) (s1 : State),
    let va := effAddr (s.thr t) ra imm
    s.reachMem t va .load false = (.pa pa, s1) →
    let loads := fun (c : Instr) (n : Nat) (sx : Bool) => va % n = 0 →
      (region s1.part pa ≠ .lens → region s1.part pa ≠ .regSpace → s1.badRange pa n = false →
        s.Runs c (s1.result t rd (loadVal n sx (s1.mval pa n))))
      ∧ (region s1.part pa = .regSpace → s.Runs c (s1.result t rd (loadVal n sx (s1.regAs (.thread t) (regOff pa) n))))
      ∧ (region s1.part pa = .lens → s.Runs c (s1.lensRead t ⟨va, n, .load, va, pa⟩ rd sx))
    loads (.ldbu t rd ra imm) 1 false ∧ loads (.ldhu t rd ra imm) 2 false ∧ loads (.ldwu t rd ra imm) 4 false
    ∧ loads (.ldd t rd ra imm) 8 false ∧ loads (.ldb t rd ra imm) 1 true ∧ loads (.ldh t rd ra imm) 2 true
    ∧ loads (.ldw t rd ra imm) 4 true

/-- R145: a store whose address is aligned and reached stores the low bytes of RS, least significant first; a register takes the
store after the instruction has retired. -/
def Obligations.StoreResults : Prop :=
  ∀ (s : State) (t : Nat), s.Ready t → ∀ (rs ra : Reg5) (imm : BitVec 16) (pa : Nat) (s1 : State),
    let va := effAddr (s.thr t) ra imm
    let v := ((s.thr t).greg rs).toNat
    s.reachMem t va .store false = (.pa pa, s1) →
    let stores := fun (c : Instr) (n : Nat) => va % n = 0 →
      (region s1.part pa ≠ .regSpace → s.Runs c ((s1.storeAt t pa (leBytes n (v % 2 ^ (8 * n)))).retire t id))
      ∧ (region s1.part pa = .regSpace →
        s.Runs c ((s1.retire t id).busWrite (.thread t) (regOff pa) n (v % 2 ^ (8 * n))))
    stores (.stb t rs ra imm) 1 ∧ stores (.sth t rs ra imm) 2 ∧ stores (.stw t rs ra imm) 4 ∧ stores (.std t rs ra imm) 8

/-- R153: an atomic instruction stores its new value and returns the old one, of 32 bits (`w32`) or 64 bits; CAS stores g[RB] where
the old value equals RD on entry. -/
def Obligations.AtomicResults : Prop :=
  ∀ (s : State) (t : Nat), s.Ready t → ∀ (rd ra rb : Reg5) (w32 : Bool) (pa : Nat) (s1 : State),
    let n := if w32 then 4 else 8
    let va := ((s.thr t).greg ra).toNat
    let b := ((s.thr t).greg rb).toNat
    let c := ((s.thr t).greg rd).toNat
    let old := s1.mval pa n
    va % n = 0 → s.reachMem t va .atomic false = (.pa pa, s1) → s1.badRange pa n = false →
    let gives := fun (i : Instr) (new : Nat) => s.Runs i ((s1.storeAt t pa (leBytes n new)).result t rd (BitVec.ofNat 64 old))
    gives (.swap t rd ra rb w32) (AtomOp.swap.apply (8 * n) old b)
    ∧ gives (.cas t rd ra rb w32) (if old = c % 2 ^ (8 * n) then b % 2 ^ (8 * n) else old)
    ∧ gives (.fadd t rd ra rb w32) (AtomOp.add.apply (8 * n) old b) ∧ gives (.fand t rd ra rb w32) (AtomOp.and.apply (8 * n) old b)
    ∧ gives (.fOr t rd ra rb w32) (AtomOp.or.apply (8 * n) old b) ∧ gives (.fxor t rd ra rb w32) (AtomOp.xor.apply (8 * n) old b)
    ∧ gives (.fmin t rd ra rb w32) (AtomOp.min.apply (8 * n) old b) ∧ gives (.fmax t rd ra rb w32) (AtomOp.max.apply (8 * n) old b)
    ∧ gives (.fminu t rd ra rb w32) (AtomOp.minu.apply (8 * n) old b)
    ∧ gives (.fmaxu t rd ra rb w32) (AtomOp.maxu.apply (8 * n) old b)

/-- R280, R295, R329: what each TLOOK writes to RD: the next hop and prefix length of the longest match, the port and next hop of a
MAC, the place and state of a flow, the place and action of a Prism entry; MISS where nothing is found. -/
def Obligations.LookupResults : Prop :=
  ∀ (s : State) (t : Nat), s.ReadyUnit t 0 → ∀ rd ra rb rc : Reg5,
    let th := s.thr t
    let a := (th.greg ra).toNat
    let b := (th.greg rb).toNat
    let c := (th.greg rc).toNat
    let mac := s.ctab (some (c % 4))
    let flow := s.ctab none
    (∀ nh plen, lpm s (c % 2 ^ 16) (a % 2 ^ 32) 32 = .hit nh plen →
      s.Runs (.tlookLpm4 t rd ra rc) (s.look t rd .hit (nh * 2 ^ 8 + plen * 2 ^ 26)))
    ∧ (∀ nh plen, lpm s (c % 2 ^ 16) (a * 2 ^ 64 + b) 128 = .hit nh plen →
      s.Runs (.tlookLpm6 t rd ra rb rc) (s.look t rd .hit (nh * 2 ^ 8 + plen * 2 ^ 26)))
    ∧ (∀ s1 i, s.cCount mac a = s1 → s1.cFind mac a = some i →
      s.Runs (.tlookMac t rd ra rc) (s1.look t rd .hit
        (bitsAt (s1.cEnt mac i) 76 4 * 2 ^ 8 + bitsAt (s1.cEnt mac i) 80 20 * 2 ^ 12 + bitsAt (s1.cEnt mac i) 65 3 * 2 ^ 32)))
    ∧ (∀ s1 i, s.cCount mac a = s1 → s1.cFind mac a = none → s1.cPoison mac a = i →
      s.Runs (.tlookMac t rd ra rc) (s1.look t rd (if i.isSome then .uncorrectable else .miss) 0))
    ∧ (∀ pa s1, a % 64 = 0 → s.reach t a .load false = (.pa pa, s1) → region s1.part pa = .hbm → s1.badRange pa 64 = false →
      s1.flag R.FWD_FLOW_CFG_EN 0 = true → s1.ctab none = flow →
      let key := flowTabKey (sliceB (s1.bytes pa 64) 0 40) (c % 2 ^ 8)
      ∀ s2 i, s1.cCount flow key = s2 → s2.cFind flow key = some i →
        s.Runs (.tlookFlow t rd ra rc) (s2.look t rd .hit
          (i / 4 * 2 ^ 8 + i % 4 * 2 ^ 30 + bitsAt (bitsAt (s2.cEnt flow i) 384 64) 0 19 * 2 ^ 32)))
    ∧ (∀ pa s1, a % 128 = 0 → s.reach t a .load false = (.pa pa, s1) → region s1.part pa = .hbm → s1.badRange pa 128 = false →
      let p := c % 4
      let prof := bitsAt c 8 8
      prof < 64 → (s1.prism p).on R.PRS_PROF_EN (64 * p + prof) = true → (s1.prism p).hold = false →
      ∀ bk row s2, s1.psmSearch p (leVal (sliceB (s1.bytes pa 128) 0 80)) (leVal (sliceB (s1.bytes pa 128) 80 1))
          ((s1.prism p).val R.PSM_PROF_BANKS_BANKS (64 * p + prof)) = (.hit bk row, s2) →
        s.Runs (.tlookPsm t rd ra rc)
          (s2.look t rd .hit (bk * 2 ^ 8 + row * 2 ^ 13 + ((s2.prism p).shd bk row).act % 2 ^ 32 * 2 ^ 24)))

/-- R165 to R167: AESENC and AESDEC write the block that the labelled key gives and answer 0; RAND draws eight bytes; JOB takes its
descriptor and submits it. -/
def Obligations.CryptResults : Prop :=
  ∀ (s : State) (t : Nat), s.ReadyUnit t 1 → ∀ (rd ra rb rc : Reg5) (accs : List MemAcc) (s1 : State),
    let th := s.thr t
    let l := aesAccs th ra rb rc
    let done := fun (s : State) => (s.modThr t fun th => { th with blk := none, lensIn := [] }).result t rd 0
    (firstFault (misaligned l) = none → s.reachAll t false l = ([], accs, s1) →
      ∀ inp lab c s2, s1.gather (accs.filter fun a => a.kind == .load) th.lensIn = .all [inp, lab] →
        s1.chooseCluster = (some c, s2) → labelGood lab = true → algBlock (labelAlg lab) = true →
        s2.granted (labelSlot lab) (.crypt (s1.thr t).pl1) = true →
        let z := s2.takeKey c lab ((s1.thr t).dmactx.toNat % 2 ^ 12)
        let key := keyOf (labelAlg lab) z.1
        let out := (accs.getD 1 ⟨0, 0, .store, 0, 0⟩).pa
        s.Runs (.aesenc t rd ra rb rc) (done (z.2.storeAt t out (aesEnc key inp)))
        ∧ s.Runs (.aesdec t rd ra rb rc) (done (z.2.storeAt t out (aesDec key inp))))
    ∧ ((s.count 69 0x03 1).flag R.GLT_RNG_STAT_SVC_FAIL 0 = false →
      s.Runs (.cryptRand t rd)
        (((s.count 69 0x03 1).drbg 8).2.result t rd (BitVec.ofNat 64 (leVal ((s.count 69 0x03 1).drbg 8).1))))
    ∧ (∀ d, s.reachAll t false (pageAccs (th.greg ra).toNat 64 .load) = ([], accs, s1) →
      s1.gather accs th.lensIn = .all d → s.Runs (.cryptJob t rd ra rb rc) (s1.jobSubmit t rd rb rc d.flatten))

/-- R168, R174: DMAQ is accepted on an enabled ring of its thread that has room, with the ring's next sequence number in RD; DMAACK
releases acknowledged entries. -/
def Obligations.RingSubmission : Prop :=
  ∀ (s : State) (t : Nat), s.ReadyUnit t 2 → ∀ rd ra rb rc : Reg5,
    let th := s.thr t
    let a := (th.greg ra).toNat
    let b := (th.greg rb).toNat
    let ctl := (th.greg rc).toNat
    let len := bitsAt ctl 0 24
    let near : Side := .inner [(a, len)]
    let far : Side := if bitAt ctl 25 then .host [(b, len)] else .inner [(b, len)]
    let i := ringIx (clusterOf t) (bitsAt ctl 32 8)
    let k := ringIx (clusterOf t) (a % 256)
    let have_ := s.rd R.LTN_DMA_RING_STAT_UNACKED k
    (len ≠ 0 → bitsAt ctl 27 5 = 0 → s.ringRefuses t i = none →
      (bitAt ctl 25 = true → (s.fcfg (bitsAt th.dmactx.toNat 0 12)).bme = true) →
      s.Runs (.dmaq t rd ra rb rc) (s.submit t rd i fun s seq =>
        (s.addJob { th.job t (bitsAt ctl 32 8) seq ctl (bitAt ctl 25) with
          opc := 0xFE, src := if bitAt ctl 24 then near else far, dst := if bitAt ctl 24 then far else near }).2))
    ∧ (s.rd R.LTN_DMA_RING_CFG_OWNER k = t → b ≠ 0 → b ≤ have_ →
      s.Runs (.dmaack t rd ra rb)
        ((s.wr R.LTN_DMA_RING_STAT_UNACKED k (have_ - b)).result t rd (BitVec.ofNat 64 SubStat.ok.code)))

/-- R189, R191, R195: a block instruction whose record PRG fits its operands begins, or ends where all is done; each step that
reaches its ranges performs its reads, then its writes, and advances the record. -/
def Obligations.BlockInstructions : Prop :=
  ∀ (s : State) (t : Nat) (rd ra rb rc : Reg5),
    let th := s.thr t
    let o := th.blkOps ra rb rc
    (s.Ready t → o.done ≤ o.n →
      let begins := fun (c : Instr) (q : Nat) => (q ≠ 3 → o.acc = 0) →
        (o.done ≠ o.n → s.Runs c (s.modThr t fun th => { th with blk := some (q, rd, ra, rb, rc), lensIn := [] }))
        ∧ (o.done = o.n → s.Runs c (s.blkEnd t rd (blkResult q o.n o.crc)))
      begins (.bcopy t rd ra rb rc) 0 ∧ begins (.bfill t rd ra rb rc) 1 ∧ begins (.bcmp t rd ra rb rc) 2
      ∧ begins (.bcrc t rd ra rb rc) 3)
    ∧ (∀ q accs s1 l, t < 768 → th.st = .run → th.lens = none → s.lives t = true → th.blk = some (q, rd, ra, rb, rc) → q < 4 →
      s.reachAll t true (o.accs q) = ([], accs, s1) → s1.gather (accs.filter fun a => a.kind == .load) th.lensIn = .all l →
      (q ≠ 2 ∨ firstDiff (o.step q).2 l.flatten = none) →
      s.Runs (.blockStepDone t)
        ((s1.storeAccs t (accs.filter fun a => a.kind == .store) (o.written q l.flatten)).blkNext t q rd o.n
          (o.done + (o.step q).2) (if q = 3 then crcRun crc32cPoly o.crc l.flatten else 0)))

/-- R555 to R558, R561, R562, R583: the links: training ends with a width and goes on with resending; a retrain that takes 100 ms
goes DOWN; signal loss retrains, signal found trains; a good flit returns credit and acknowledges, and its packets are taken in
order; the NAK and replay timers act at 20 µs; the chosen packet starts; a starved virtual channel is reported once; a lost lane
narrows the port. -/
def Obligations.FabricLinks : Prop :=
  ∀ (s : State) (p vc : Nat), p < 8 →
    let x := s.fport p
    let ok := s.rd R.BCN_PORT_STAT_LANES_OK p
    let training := s.rd R.BCN_PORT_STAT_STATE p = 1
    (∀ peer shares, training → widthOf (ok &&& peer) ≠ 0 →
      s.Runs (.fabricPortTrained p peer shares) (s.linkUp p peer (widthOf (ok &&& peer)) shares))
    ∧ (training → x.since + 100000000 ≤ s.time → s.Runs (.retrainTimeout p) (s.portDown p))
    ∧ (s.portLit p = true → s.Runs (.fabricSignalLoss p) (s.portTrain p))
    ∧ (s.rd R.BCN_PORT_STAT_STATE p = 0 → s.flag R.BCN_PORT_CFG_EN p = true → s.flag R.BCN_CFG_EN 0 = true → ok ≠ 0 →
      s.Runs (.fabricSignalDetect p) (s.portTrain p))
    ∧ (∀ f : Flit, s.portLit p = true → f.good = true → f.nak = false → f.ftype = 0 →
      let s1 := ((s.countPort p 0x02 1).takeCredit p (f.cvc % 4) f.cred).modFport p fun x => { x with unack := dropAcked f.ack x.unack }
      f.seq = (s1.fport p).expect →
      s.Runs (.flitReceive p f) (f.pkts.foldl (fun s b => s.takePacket p b)
        (s1.modFport p fun x => { x with expect := (x.expect + 1) % 4096, nakAt := none })))
    ∧ (∀ f : Flit, s.portLit p = true → f.good = false → s.Runs (.flitReceive p f) ((s.countPort p 0x02 1).badFlit p))
    ∧ (∀ t, x.nakAt = some t → s.portLit p = true → t + 20000 ≤ s.time →
      s.Runs (.nakResendTimer p) ((s.modFport p fun x => { x with nakAt := some s.time }).putFlit p 1 0 true))
    ∧ (∀ f r, x.unack = f :: r → s.portLit p = true → f.sent + 20000 ≤ s.time → s.Runs (.replayTimeout p) (s.replay p))
    ∧ (∀ v o rest, s.portLit p = true → s.nextVc p = some v → x.outs v = o :: rest →
      x.unack.length + (o.pkt.size + 471) / 236 ≤ 2048 → s.Runs (.fabricPacketSend p []) (s.startPacket p v o rest))
    ∧ (∀ t, KMap.find x.empty vc = some t → s.portUp p = true → KMap.getD x.told vc false = false →
      t + 1000000 * s.rd R.BCN_TMO_STALL_MS 0 ≤ s.time →
      s.Runs (.creditStall p vc)
        (((s.setFport p { x with told := KMap.put x.told vc true }).bcnNotice 8 p vc 0 0).report (unitId 13 p) .creditStall vc))
    ∧ (∀ lane, lane < 4 → bitAt ok lane = true →
      let left := clearMask ok (1 <<< lane)
      let s1 := s.wr R.BCN_PORT_STAT_LANES_OK p left
      s1.portLit p = true →
      let w := widthOf (left &&& (s1.fport p).peerLanes)
      (w = 0 → s.Runs (.laneRetire p lane) (s1.portDown p))
      ∧ (w ≠ 0 → s.Runs (.laneRetire p lane)
          ((((s1.wr R.BCN_PORT_STAT_WIDTH p w).emit (.lanes p left)).resend p).bcnNotice 5 p 0 0 0)))

/-- R565, R567 to R569, R571, R579: what becomes of a packet that has arrived: a packet for another node is routed on; a READ that a
window admits is answered with the bytes of memory and their poison, a WRITE stores and is acknowledged; a node without ID answers
NOT_READY; an answer ends its request, a late one is counted; a FRAME enters Prism; a request unanswered for REQ_TMO_MS ends. -/
def Obligations.FabricPackets : Prop :=
  ∀ (s s1 : State) (p vc : Nat) (i : FIn),
    let f := i.pkt
    let here := f.dst = s.node
    let s2 := s1.countOld.count 36 0x02 1
    let answered := fun (c : Instr) (ty : Nat) (e : FEnd) => s.takeIn p 1 = some (i, s1) → f.ptype = ty → here →
      ((KMap.find s1.fab.reqs f.tag).isSome = true → s.Runs c (s1.endReq f.tag e))
      ∧ (KMap.find s1.fab.reqs f.tag = none → s.Runs c (s1.sat R.BCN_CNT_LATE_RSP 0 1))
    (s.takeIn p vc = some (i, s1) → vc ≠ 3 → ¬here →
      (∀ q, s1.route f.dst f.hash f.ttl f.down = .port q →
        s.Runs (.fabricTransit p vc) ((s1.putOut q (s1.hop q f) false).countPort q 0x04 1)))
    ∧ (s.takeIn p 0 = some (i, s1) → f.ptype = 0 → here →
      (s.nodeV = false → s.Runs (.fabricRead p) (s2.answerNak f 2))
      ∧ (∀ a, s.nodeV = true → s2.inWindow i f.rlen = some a →
        s.Runs (.fabricRead p) ((s2.countPoison a f.rlen).answer f 2 0 (s2.bytes a f.rlen) (s2.poisonMask a f.rlen)))
      ∧ (s.nodeV = true → s2.inWindow i f.rlen = none → s.Runs (.fabricRead p) (s2.windowMiss f)))
    ∧ (s.takeIn p 0 = some (i, s1) → f.ptype = 1 → here → s.nodeV = true →
      (f.poison ≠ 0 → s.Runs (.fabricWrite p) (s2.answerNak f 3))
      ∧ (∀ a, f.poison = 0 → s2.inWindow i f.data.length = some a →
        s.Runs (.fabricWrite p) ((s2.setBytes a f.data).answer f 3 0 [] 0)))
    ∧ answered (.fabricReadData p) 2 (.data f.data f.poison) ∧ answered (.fabricAck p) 3 .acked
    ∧ answered (.fabricNak p) 4 (.nak f.reason)
    ∧ (∀ g s2, s.takeIn p 2 = some (i, s1) → here → f.poison = 0 →
      s1.newFrame { Pkt.fresh with
        pipe := p % 8 / 2, src := 24 + p % 8, data := f.data, locKind := 3, locDest := f.src } = some (g, s2) →
      s.Runs (.fabricFrame p) (s2.enterPrism g))
    ∧ (∀ tag q, KMap.find s.fab.reqs tag = some q → q.time + 1000000 * s.rd R.BCN_TMO_REQ_TMO_MS 0 ≤ s.time →
      s.Runs (.fabricReqTimeout tag) ((s.sat R.BCN_CNT_TIMEOUTS 0 1).endReq tag .timeout))

/-- R572 to R574, R576: the coordinator: a HELLO goes out when its fields changed or 100 µs have passed, and brings a port UP when
both ends agree; the best node declares itself after 2 ms; heartbeats go out each millisecond and are heard; 5 ms of silence end the
coordinator; node IDs are asked for, granted, retried and released. -/
def Obligations.FabricCoordinator : Prop :=
  ∀ (s s1 : State) (p : Nat) (i : FIn),
    let mgmt := s.portUp p = true ∧ s.takeIn p 3 = some (i, s1)
    let c := s.settleCand
    (s.portLit p = true → ((s.settleCand.fport p).mine ≠ some (s.settleCand.helloOf p) ∨ (c.fport p).mineAt + 100000 ≤ c.time) →
      s.Runs (.helloSend p)
        ((c.modFport p fun x => { x with mine := some (c.helloOf p), mineAt := c.time }).sendMgmt p (.hello (c.helloOf p))))
    ∧ (∀ h : Hello, s.portLit p = true → s.takeIn p 3 = some (i, s1) →
      let s3 := ((s1.modFport p fun x => { x with peer := some h }).hearTerm h.term).wrs p
        [(R.BCN_PORT_STAT_PEER_NODE, h.node.getD 0), (R.BCN_PORT_STAT_PEER_NODE_V, b2n h.node.isSome),
         (R.BCN_PORT_STAT_PEER_PORT, h.port), (R.BCN_PORT_STAT_PEER_LEVEL, h.level)]
      let up := h.fabric == s3.rd R.BCN_CFG_FABRIC_ID 0 && h.en && s3.flag R.BCN_CFG_EN 0 && (s3.fport p).mine.isSome
      s.Runs (.helloReceive p h) (s3.setPortState p (if up then 3 else 2)).settleFabric)
    ∧ (c.flag R.BCN_CFG_EN 0 = true → c.flag R.BCN_NODE_COORD_V 0 = false → c.fab.cand = some c.ownKey →
      c.fab.candAt + 2000000 ≤ c.time → s.Runs .coordDeclare c.becomeCoord)
    ∧ (s.flag R.BCN_NODE_IS_COORD 0 = true → (s.fab.sentAt = 0 ∨ s.fab.sentAt + 1000000 ≤ s.time) →
      let s2 : State := { s with fab := { s.fab with beatSeq := s.fab.beatSeq + 1, sentAt := s.time } }
      s.Runs .coordHeartbeatSend (s2.peers.foldl
        (fun u e => u.sendMgmt e.1 (Mgmt.beat (s.rd R.BCN_NODE_TERM 0) s.ownKey.1 s.ownKey.2 s.fab.beatSeq)) s2))
    ∧ (∀ term prio serial seq, mgmt →
      s.Runs (.coordHeartbeatReceive p term prio serial seq) (s1.hearBeat p i.pkt.src term prio serial seq))
    ∧ (s.flag R.BCN_NODE_COORD_V 0 = true → s.flag R.BCN_NODE_IS_COORD 0 = false → s.fab.beatAt + 5000000 ≤ s.time →
      let s2 := s.wrs 0 [(R.BCN_NODE_COORD_V, 0), (R.BCN_NODE_COORD, 0)]
      s.Runs .coordTimeout
        ({ s2 with fab := { s2.fab with coord := none, cand := none, wantId := false } } : State).settleFabric)
    ∧ (∀ serial pref reg path, mgmt → s1.flag R.BCN_NODE_IS_COORD 0 = true →
      s.Runs (.nodeIdRequest p serial pref reg path) (s1.grantId serial pref reg (some (p, path))))
    ∧ (∀ serial id q rest, mgmt → s.Runs (.nodeIdGrant p serial id (q :: rest)) (s1.sendMgmt q (.idReply serial id rest)))
    ∧ (∀ n, mgmt → s.Runs (.nodeIdGrant p s1.serial (some n) []) (s1.takeId (n % 4096)))
    ∧ (∀ t, s.fab.refused = some t → t + 100000000 ≤ s.time →
      s.Runs .nodeIdRetry ({ s with fab := { s.fab with refused := none, wantId := true } } : State).askId)
    ∧ (∀ id g t, KMap.find s.fab.grants id = some g → g.gone = some t → t + 1000000000 * s.rd R.BCN_TMO_ID_HOLD_S 0 ≤ s.time →
      s.Runs (.nodeIdHoldExpire id) { s with fab := { s.fab with grants := KMap.del s.fab.grants id } })

/-- R580, R582, R586, R588, R590: routes and windows: distances go to the peers when they changed or 100 ms have passed, and those
received are kept; a writer that reaches BCN_ROUTE writes an entry; GO of LNS_COMMIT switches the windows, and the commit is done
once the requests of the earlier epoch are; at 10 µs those left are refused; the write drain is done once its writes are answered.
-/
def Obligations.RoutesAndWindows : Prop :=
  ∀ (s : State),
    (s.fab.dirty = true ∨ s.fab.distAt + 100000000 ≤ s.time →
      let s1 : State := { s with fab := { s.fab with dirty := false, distAt := s.time } }
      s.Runs .routeUpdateSend (s1.peers.foldl (fun s e => [0, 1024, 2048, 3072].foldl (fun s first =>
        s.sendMgmt e.1 (.dist first (s1.distances s1.fab.dn first) (s1.distances s1.fab.any first))) s) s1))
    ∧ (∀ p i s1 first dn any, s.portUp p = true → s.takeIn p 3 = some (i, s1) →
      s.Runs (.routeUpdateReceive p first dn any) (s1.modFport p fun x => { x with
        dn := putDist x.dn first (dn.take 1024), any := putDist x.any first (any.take 1024) }).settleFabric)
    ∧ (∀ w d val, s.Reaches w → d < 4096 → s.Runs (.routeEntryWrite w d val) (s.wrRoute w d val))
    ∧ (∀ w, s.Reaches w → s.Runs (.lensCommit w) s.lensGo ∧ s.Runs (.lensWrDrain w) s.drainWrites)
    ∧ (s.flag R.LNS_STATUS_COMMIT_DONE 0 = false →
      (s.oldPending = 0 → s.Runs .lensCommitDone s.lensDone)
      ∧ (s.fab.commitAt + 10000 ≤ s.time → s.Runs .lensCommitForce s.forceOld.lensDone))
    ∧ (s.flag R.LNS_WR_DRAIN_DONE 0 = false → s.fab.drain = [] →
      s.Runs .lensWrDrainDone ((s.wr R.LNS_WR_DRAIN_DONE 0 1).latchLine 35))

/-- R634, R636, R638 to R640: Lumen: GO starts a snapshot or is refused; a period that has passed starts one; 200 ns later the
counters are taken; the end shows SEQ and T; a block clears at once; FREEZE_ALL and CLEAR_ALL act after 200 ns; a counter found
wrong sets PERR and is reported. -/
def Obligations.LumenCommands : Prop :=
  ∀ (s : State) (w : Writer), s.Reaches w →
    let busy := s.flag R.LUM_SNAP_CTL_BUSY 0
    let p := 1000 * s.rd R.LUM_SNAP_CTL_PERIOD_US 0
    let begun : State := (s.wr R.LUM_SNAP_CTL_BUSY 0 1).wr R.LUM_SNAP_CTL_REFUSED 0 0
    let start : State := { begun with lum := { begun.lum with snapAt := some (begun.time + 200) } }
    (s.Runs (.snapshotGo w) (if busy then s.wr R.LUM_SNAP_CTL_REFUSED 0 1 else start))
    ∧ (p ≠ 0 → s.lum.base + p ≤ s.time → busy = false → s.Runs .snapshotPeriodic start)
    ∧ (∀ a, s.lum.snapAt = some a → a ≤ s.time →
      s.Runs .snapshotTake ((List.range 568).foldl (fun s k => s.snapOne (k / 8) (k % 8))
        { s with lum := { s.lum with snapAt := none, taken := some a } }))
    ∧ (∀ a, s.lum.taken = some a →
      let s1 := ((s.wr R.LUM_SNAP_CTL_BUSY 0 0).bump R.LUM_SNAP_CTL_SEQ 0).wr R.LUM_SNAP_TIME_T 0 a
      let s2 : State := { s1 with lum := { s1.lum with taken := none, base := a } }
      s.Runs .snapshotDone (((s2.latchLine 51).fire 6 0xFF).count 68 0x02 1))
    ∧ (∀ b, b < 71 → s.Runs (.counterBlockClear w b) (s.clearBlock b))
    ∧ (∀ f, let s1 := s.setFlag R.LUM_GLOBAL_CTL_FREEZE_ALL 0 f
        s.Runs (.freezeAll w f) { s1 with lum := { s1.lum with freezeAt := some (s1.time + 200, f) } })
    ∧ s.Runs (.clearAll w) { s with lum := { s.lum with clearAt := some (s.time + 200) } }
    ∧ (∀ i, i < 568 → s.Runs (.counterParityCheck [i])
        (((s.wr R.LUM_VAL_PERR i 1).report (unitId 15 0) .parity i).count 68 0x03 1))

/-- R286, R300, R305, R309, R313: forwarding: the oldest frame with an action is decided: sent on to the traffic manager, dropped,
or excepted to firmware; the LPM drain ends; the flow table is enabled and its batches run to their end; a relocation performs the
next write of its chain. -/
def Obligations.ForwardingCommands : Prop :=
  ∀ (s : State) (w : Writer) (p : Nat), s.Reaches w →
    (∀ f r, (s.prism p).acted = f :: r →
      let s0 := s.setPrism p { s.prism p with acted := r }
      ∀ g d s1, forward s0 { f with h := s0.flowHash f } = (g, d, s1) →
        (d = .send → s.Runs (.forwardDecision p)
          { s1 with tm := { s1.tm with inq := KMap.setD s1.tm.inq p [] (KMap.getD s1.tm.inq p [] ++ [g]) } })
        ∧ (d = .drop → s.Runs (.forwardDecision p) (s1.freeFrame g))
        ∧ (d = .nhBad → s.Runs (.forwardDecision p) ((s1.sat R.FWD_CNT_NH_BAD 0 1).freeFrame g))
        ∧ (d = .ue → s.Runs (.forwardDecision p) ((s1.sat R.FWD_CNT_UE 0 1).except g 0x15))
        ∧ (∀ c, d = .except c → s.Runs (.forwardDecision p) (s1.except g c)))
    ∧ s.Runs (.lpmDrainGo w) { s.wr R.FWD_LPM_DRAIN_DONE 0 0 with fwd := { s.fwd with drain := true } }
    ∧ (s.fwd.drain = true → s.Runs .lpmDrainDone
        ((({ s with fwd := { s.fwd with drain := false } } : State).wr R.FWD_LPM_DRAIN_DONE 0 1).latchLine 29))
    ∧ (∀ val, s.Runs (.flowTableEnable w val) (s.wrFlowCfg (val ||| 1)) ∧ s.Runs (.flowBatchGo w val) (s.wrFlowCtl (val ||| 2 ^ 7)))
    ∧ (∀ k n, s.fwd.flowOp = some (k, n) → n ≤ k → s.fwd.flowChain = [] →
      s.Runs .flowBatchDone
        ((({ s with fwd := { s.fwd with flowOp := none } } : State).wr R.FWD_FLOW_CTL_BUSY 0 0).latchLine 28))
    ∧ (∀ st r, s.fwd.flowChain = st :: r →
      s.Runs (.cuckooRelocate none) (State.flowRun 65 (({ s with fwd := { s.fwd with flowChain := r } } : State).chainStep none st)))
    ∧ (∀ st r, (s.learnEng p).chain = st :: r → (s.learnEng p).cmdBusy = false →
      s.Runs (.cuckooRelocate (some p)) ((s.setLearn p { s.learnEng p with chain := r, cmdBusy := false }).chainStep (some p) st))

/-- R319, R322, R324, R326: the learn engines: the oldest record of a queue is applied; the ageing sweep runs each SWEEP_S and the
reconcile tick each RECON_MS; a command runs when it is oldest, and its end clears BUSY with a status. -/
def Obligations.LearnCommands : Prop :=
  ∀ (s : State) (p : Nat),
    let e := s.learnEng p
    (∀ key kind dest r, e.chain = [] → e.queue = .learn key kind dest :: r →
      s.Runs (.learnApply p) ((s.setLearn p { e with queue := r }).applyLearn p key kind dest))
    ∧ (p < 4 → e.sweepAt + 1000000000 * s.rd R.FWD_MAC_CFG_SWEEP_S p ≤ s.time → e.chain = [] →
      let s1 := s.setLearn p { e with sweepAt := s.time }
      s.Runs (.macAgeSweep p []) ((s1.macSlots p).foldl (fun s i => s.sweepSlot p i) s1))
    ∧ (p < 4 → e.reconAt + 1000000 * s.rd R.FWD_MAC_CFG_RECON_MS p ≤ s.time →
      s.Runs (.reconTick p) ((s.setLearn p { e with reconAt := s.time }).notify p s.time 6))
    ∧ (∀ w val, s.Reaches w → p < 4 → s.Runs (.macCmdGo w p val) (s.wrMacCmd p (val ||| 2 ^ 3)))
    ∧ (∀ o d r, e.chain = [] → e.queue = .cmd o d :: r →
      let s1 := s.setLearn p { e with queue := r }
      let s2 := s1.cCount (s1.ctab (some p)) (d % 2 ^ 64)
      (o = 0 → s.Runs (.macNop p) (s1.macDone p 0))
      ∧ (o = 1 → (bitsAt d 76 4 = 0 ∨ 3 < bitsAt d 76 4) → s.Runs (.macInsert p) (s1.macDone p 3))
      ∧ (∀ i, o = 1 → bitsAt d 76 4 ≠ 0 → bitsAt d 76 4 ≤ 3 → s2.cFind (s1.ctab (some p)) (d % 2 ^ 64) = some i →
        s.Runs (.macInsert p) (((s2.cWrite (some p) i (d % 2 ^ 64 + 2 ^ 64 + bitsAt d 65 2 * 2 ^ 65 + bitsAt d 76 4 * 2 ^ 76
          + bitsAt d 80 20 * 2 ^ 80 + s1.now8 * 2 ^ 100)).setHit p i false).macDone p 0))
      ∧ (∀ i, o = 2 → s2.cFind (s1.ctab (some p)) (d % 2 ^ 64) = some i →
        s.Runs (.macDelete p) (((s2.cWrite (some p) i 0).setHit p i false).macDone p 0))
      ∧ (∀ i, o = 3 → s2.cFind (s1.ctab (some p)) (d % 2 ^ 64) = some i →
        s.Runs (.clearFlap p) ((s2.cWrite (some p) i (putBits (s2.cEnt (s1.ctab (some p)) i) 67 1 0)).macDone p 0))
      ∧ (o = 4 → s.Runs (.flushDest p) (s1.flush p fun e => !bitAt e 66 && bitsAt e 76 24 == bitsAt d 76 24))
      ∧ (o = 5 → s.Runs (.flushFd p) (s1.flush p fun e => bitsAt e 48 16 == bitsAt d 48 16)))

/-- R243, R259, R261, R263, R266, R270, R271, R273, R275, R279: Prism: an arrival joins the input queue where there is room; the
oldest frame is parsed by its profile; its key is searched; suspect rows are rewritten and rows scrubbed; a batch holds the search,
is applied as a whole, and placement answers a row. -/
def Obligations.PrismCommands : Prop :=
  ∀ (s : State) (w : Writer) (p val : Nat), s.Reaches w → p < 4 →
    let x := s.prism p
    (∀ f, s.arrivals p = [f] → f.reparse = false → x.hold = false → x.inq.length < 4096 →
      let s1 := (s.setArrivals p (dropNth [f] 0)).setPrism p { x with inq := x.inq ++ [{ f with reparse := false }] }
      s.Runs (.prismInputEnqueue p 0)
        (s1.wr R.PSM_HOLD_STAT_MAX_FILL p (Nat.max (s1.rd R.PSM_HOLD_STAT_MAX_FILL p) (x.inq.length + 1))))
    ∧ (∀ f r, x.inq = f :: r → f.forced = none → x.hold = false →
      let n := x.val R.PRS_SRC_PROF_PROFILE (32 * p + f.src % 32)
      let s1 := s.setPrism p { x with inq := r }
      let v := parseWalk x p n f.data
      let key := buildKey x f n v
      (x.on R.PRS_PROF_EN (64 * p + n) = false → s.Runs (.prismParse p) ((s1.sat R.PRS_CNT_B_NOPROF p 1).freeFrame f))
      ∧ (x.on R.PRS_PROF_EN (64 * p + n) = true → v.trunc = false → v.lenc = false →
        s.Runs (.prismParse p) ((s1.count (12 + p) 0x01 1).modPrism p fun y => { y with parsed := y.parsed ++
          [{ f with prof := n, forced := none, hdrs := v.hdrs, key := key, pf := preFilter x p n key, win := none, act := 0
                    dest := none, rewrite := none, egress := 0 }] })))
    ∧ (∀ f r, x.parsed = f :: r →
      let s1 := s.modPrism p fun x => { x with parsed := r }
      let banks := (s1.prism p).val R.PSM_PROF_BANKS_BANKS (64 * p + f.prof)
      psmFind s1 p (s1.prism p) f.key f.pf banks [] = none →
      (∀ s2, s1.psmSearch p f.key f.pf banks = (.miss, s2) →
        s.Runs (.prismSearch p none false)
          (s2.dispose { f with act := (s1.prism p).val R.PSM_PROF_MISS_REC (64 * p + f.prof) } false)))
    ∧ (∀ f r b row u, x.parsed = f :: r →
      let s1 := s.modPrism p fun x => { x with parsed := r }
      psmFind s1 p (s1.prism p) f.key f.pf ((s1.prism p).val R.PSM_PROF_BANKS_BANKS (64 * p + f.prof)) [] = some u →
      ∀ s2, s1.psmSearch p f.key f.pf ((s1.prism p).val R.PSM_PROF_BANKS_BANKS (64 * p + f.prof)) = (.hit b row, s2) →
        s.Runs (.prismSearch p none false) (s2.dispose { f with act := ((s1.prism p).shd b row).act, win := some (b, row) } true))
    ∧ (∀ bank row, KMap.getD x.suspect (2048 * bank + row) false = true →
      s.Runs (.suspectRowRewrite p bank row)
        (s.setPrism p { rewriteRows (s.rd R.PSM_BANK_CFG_PHYS (32 * p + bank)) bank (entryRows x p bank row) x with
          suspect := KMap.del x.suspect (2048 * bank + row) }))
    ∧ (x.scrub ≠ 2047 →
      let s2 := ((List.range 32).filter fun b => !x.outOf.contains b).foldl (fun s b => s.scrubOne p x.scrub [] b) s
      s.Runs (.prismScrubRow p [] []) (s2.modPrism p fun y => { y with scrub := (x.scrub + 1) % 2048 }))
    ∧ s.Runs (.psmBatchGo w p val) (s.wrUpdCtl p (val ||| 2 ^ 9)) ∧ s.Runs (.psmPlaceGo w p val) (s.wrPlace p (val ||| 2 ^ 9))
    ∧ s.Runs (.psmReadback w p val) (s.wrRdsel p val)
    ∧ (x.batch.isSome = true → x.hold = false → (s.flag R.PSM_UPD_CTL_HOLD_GATE p = true → x.inq = []) →
      s.Runs (.psmHoldBegin p)
        (((s.setPrism p { x with hold := true, next := s.stagedState p }).sat R.PSM_HOLD_STAT_HOLDS p 1).wr
          R.PSM_UPD_CTL_STAGED p 0))
    ∧ (∀ n y, x.batch = some n → x.hold = true → x.parsed = [] →
      let x1 := { x with cfg := x.next, next := [], hold := false, batch := none }
      psmBatch (fun b => s.rd R.PSM_BANK_CFG_PHYS (32 * p + b)) (fun b => 2 ^ x1.val R.PSM_BANK_CFG_WIDTH (32 * p + b))
        (fun _ => 2048) (s.batchOps p n) 0 0 x1 = .inr y →
      s.Runs (.psmBatchApply p)
        (((s.setPrism p y).wrs p [(R.PSM_UPD_CTL_BUSY, 0), (R.PSM_UPD_CTL_ERR, 0), (R.PSM_UPD_CTL_ERR_OP, 0)]).latchLine (16 + p)))
    ∧ (x.placing = true →
      let b := s.rd R.PSM_PLACE_BANK p
      let row := psmWidth x p b * bandPlace x p b (s.rd R.PSM_PLACE_BAND p)
      row < 2048 →
      s.Runs (.psmPlaceDone p)
        ((((s.wrs p [(R.PSM_PLACE_ROW, row), (R.PSM_PLACE_FULL, 0)]).wr R.PSM_PLACE_DONE p 1).setPrism p
          { x with placing := false }).latchLine (20 + p)))

/-- R330, R334, R335, R347, R353, R354, R357, R358: the traffic manager: the oldest frame is metered and enters its queue; the
scheduler's choice goes out and is charged; shaped queues are released; records are read and written through TM_IND_CTL; the packet
commands free, copy, inject and reparse a held frame; a frame held HOLD_MS is freed and counted. -/
def Obligations.TrafficCommands : Prop :=
  ∀ (s : State) (w : Writer) (p val : Nat), s.Reaches w →
    (∀ f r c e s1, KMap.getD s.tm.inq p [] = f :: r → f.dest = some (.eth e) →
      ({ s with tm := { s.tm with inq := KMap.setD s.tm.inq p [] r } } : State).metered f false = (some c, s1) →
      s.Runs (.tmEnqueue p false false) (s1.admitFrame { f with colour := c } (some e) (bitsAt f.act 51 3) false).2)
    ∧ (∀ f r s1, KMap.getD s.tm.inq p [] = f :: r →
      ({ s with tm := { s.tm with inq := KMap.setD s.tm.inq p [] r } } : State).metered f false = (none, s1) →
      s.Runs (.tmEnqueue p false false) (s1.freeFrame f))
    ∧ (∀ o pk f r, outputCode o = true → s.ready 4 (entKey 0 o) = true →
      s.descend (s.rd R.TM_OMAP_LEN_ADJ o) 4 (entKey 0 o) = some pk →
      let s1 := pk.moves.foldl (fun s m => m.2.2.foldl (fun s d => s.setEnt d.1 { s.ent d.1 with deficit := d.2 })
        (s.setRing m.1 { s.ring m.1 with cur := m.2.1 })) s
      let e := s1.ent pk.leaf
      e.frames = f :: r → s.outputTakes o f.data.length = true →
      let s2 := pk.path.foldl (fun s k => s.charge pk.len k)
        (s1.setEnt pk.leaf { e with frames := r, fill := e.fill - cellsOf f.data.length })
      s.Runs (.tmDecision o none)
        (((s2.countSub 25 0x01 (outSub o) 1).countSub 25 0x02 (outSub o) f.data.length).handOver o f none))
    ∧ (∀ n, s.releaseSlots.head? = some n → 8 * Nat.max n s.tm.fineAt ≤ s.time →
      s.Runs .shaperRelease (s.releaseAt (Nat.max n s.tm.fineAt)))
    ∧ (∀ n, leastOf (s.tm.wheel.map OnWheel.coarseSlot) = some n → 65536 * n ≤ s.time →
      s.Runs .coarseSlotEnter ((s.tm.wheel.filter fun o => o.coarseSlot == some n).foldl (fun s o =>
        (s.unplace o.ent).place (o.ent / 2 ^ 20) o.ent ((s.ent o.ent).wait.getD s.time)) s))
    ∧ (∀ ue, s.Runs (.tmRecordRead w val ue) (s.wrIndCtl w (putBits (orBit val 22) 21 1 0) ue))
    ∧ s.Runs (.tmRecordWrite w val) (s.wrIndCtl w (orBit (orBit val 22) 21) false)
    ∧ (s.flag R.TM_IND_CTL_BUSY 0 = true → s.Runs .tmIndDone ((s.wr R.TM_IND_CTL_BUSY 0 0).latchLine 30))
    ∧ (s.flag R.TM_PKT_CMD_BUSY 0 = false →
      let begun := fun (op : Nat) => (s.wrReg w Reg.TM_PKT_CMD 0 (orBit (putBits val 32 3 op) 35)).wrs 0
        [(R.TM_PKT_CMD_BUSY, 1), (R.TM_PKT_CMD_STATUS, 0)]
      (bitsAt val 32 3 = 0 → s.Runs (.pktNop w val) ((begun 0).pktRun none))
      ∧ s.Runs (.pktFree w val) ((begun 1).pktRun none)
      ∧ (∀ g, s.Runs (.pktCopy w val g) ((begun 2).pktRun g))
      ∧ s.Runs (.pktInject w val) ((begun 3).pktRun none) ∧ s.Runs (.pktReparse w val) ((begun 4).pktRun none))
    ∧ (∀ st, s.tm.cmd = some (.done st) →
      s.Runs .pktCmdDone
        ((({ s with tm := { s.tm with cmd := none } } : State).wrs 0
          [(R.TM_PKT_CMD_STATUS, st), (R.TM_PKT_CMD_BUSY, 0)]).latchLine 31))
    ∧ (∀ h x, KMap.find s.pb.held h = some x → x.since + 1000000 * s.rd R.TM_PKT_CFG_HOLD_MS 0 ≤ s.time →
      s.Runs (.heldFrameExpire h) (((s.unhold h).sat R.TM_PKT_STAT_EXPIRED 0 1).freeFrame x.pkt))

/-- R27 to R29: the Ethernet ports: a link comes up and goes down with the status it reports; the configuration registers take a
write; a frame is received; a frame that waits is sent, padded and with its FCS, and its buffer is freed. -/
def Obligations.EthernetCommands : Prop :=
  ∀ (s : State) (w : Writer) (e val : Nat), s.Reaches w →
    let up := s.flag R.ETH_PORT_STAT_LINK_UP e
    (∀ hi, s.portOn e = true → up = false →
      s.Runs (.ethLinkUp e hi) ((s.wrs e [(R.ETH_PORT_STAT_LINK_UP, 1), (R.ETH_PORT_STAT_BLOCK_LOCK, 1), (R.ETH_PORT_STAT_AM_LOCK, 1),
        (R.ETH_PORT_STAT_LOCAL_FAULT, 0), (R.ETH_PORT_STAT_REMOTE_FAULT, 0), (R.ETH_PORT_STAT_HI_SER, b2n hi),
        (R.ETH_PORT_STAT_RATE, s.ethRate e)]).latchLine e).ltr)
    ∧ (∀ bl al lf rf, s.portOn e = true → up = true → (bl && al && !lf && !rf) = false →
      s.Runs (.ethLinkDown e bl al lf rf)
        ((s.linkFall e).wrs e [(R.ETH_PORT_STAT_BLOCK_LOCK, b2n bl), (R.ETH_PORT_STAT_AM_LOCK, b2n al),
          (R.ETH_PORT_STAT_LOCAL_FAULT, b2n lf), (R.ETH_PORT_STAT_REMOTE_FAULT, b2n rf)]))
    ∧ (e < 16 → s.Runs (.ethPortCfgWrite w e val) (s.wrPortCfg w e val))
    ∧ (e < 4 → s.Runs (.ethGrpModeWrite w e val) (s.wrGrpCfg e val))
    ∧ (∀ frame, s.portOn e = true → up = true → s.rd R.ETH_PORT_CFG_LOOPBACK e = 0 → s.Runs (.ethFrameReceive e frame) (s.ethTake e frame))
    ∧ (∀ f r, KMap.getD s.ethTx e [] = f :: r → s.portOn e = true → up = true →
      let sent := f.data ++ zeros (60 - f.data.length)
      let s1 : State := { s with ethTx := KMap.setD s.ethTx e [] r }
      s.Runs (.ethFrameTransmit e none)
        ((((s1.countEth e 0x04 1).countEth e 0x05 (sent.length + 4)).ethWire e (sent ++ leBytes 4 (ethFcs sent)) false).freeFrame f))

/-- R9, R15 to R17, R457: accesses to registers: a write of a register's width by a writer that reaches it is the register's write;
one that reaches no register, or of a wrong width, changes none; a request to a BAR that is shut is an Unsupported Request; the
Manager's BAR2 reaches the registers and the HBM aperture. -/
def Obligations.RegisterAccesses : Prop :=
  ∀ (s : State) (w : Writer) (off n val : Nat),
    (∀ d i b, regFind off = some (d, i, b) → s.mayWrite w off = true → widthOk d b n = true →
      s.Runs (.regWrite w off val n) (s.wrAccess w d i b n val))
    ∧ (∀ d i b, off % 8 = 0 → d.w ≠ 32 → regFind off = some (d, i, b) → b % 8 = 0 → s.mayWrite w off = true → widthOk d b 4 = true →
      s.Runs (.lowerHalfWrite w off val) (s.setHalf (halfKey d i (b / 8)) (some (w, val % 2 ^ 32))))
    ∧ (∀ d i b lo, off % 8 = 0 → d.w ≠ 32 → regFind (off + 4) = some (d, i, b) → b % 8 ≠ 0 → s.mayWrite w (off + 4) = true →
      widthOk d b 4 = true → KMap.find s.halves (halfKey d i (b / 8)) = some (w, lo) →
      s.Runs (.upperHalfWrite w off val)
        ((s.setHalf (halfKey d i (b / 8)) none).wrWordAt w d i (b / 8) (lo + val % 2 ^ 32 * 2 ^ 32) (2 ^ 64 - 1)))
    ∧ (∀ f, widthBad off n = true → s.mayRead (.fn f) off = true →
      s.Runs (.badWidthAccess (.fn f) off n true val) (s.badAccess f)
      ∧ s.Runs (.badWidthAccess (.fn f) off n false val) ((s.badAccess f).emit (.readData 0)))
    ∧ (∀ f bar write, s.barShut f = true →
      s.Runs (.barMemoryRequest f bar off n write val) (if write then ((s.aer f 5).emit (.unsupportedRequest f)).tlpIn (s.linkOf f)
        else ((s.aer f 5).emit (.unsupportedRequest f)).tlpBoth (s.linkOf f)))
    ∧ (s.barShut 0 = false → s.holds (.fn 0) .manager = true → off + n ≤ 0x400000000 →
      ∀ write,
      let r := if off < 0x100000000 then s.barReg 0 off n write val else s.barHbm (off - 0x100000000) n write val
      s.Runs (.barMemoryRequest 0 2 off n write val) (if write then r.tlpIn (s.linkOf 0) else r.tlpBoth (s.linkOf 0)))

/-- R666, R667, R712: the boot stages, each from the one before it: LHS_FW of a bank that verifies is measured, else recovery; the
keys and settings are applied; the device is ready; DEV_FW runs and is recorded; a recovery image that verifies fills both banks. -/
def Obligations.BootStages : Prop :=
  ∀ s : State,
    (s.pwr.boot = .powered →
      (∀ b o, s.bootImage 0 1 0 = some (b, o) → s.Runs .bootStage0 ((s.modSec fun x => { x with
        lhs := some (b, o), meas := KMap.put x.meas 1 (obHash o), lhsFirst := decide (s.counter (floorOf 1) < obFloor o) }).bootAt .loaded))
      ∧ (s.bootImage 0 1 0 = none → s.Runs .bootStage0 (s.bootAt .recovery)))
    ∧ (s.pwr.boot = .loaded →
      s.Runs .bootStage1 (((s.reloadKeys.loadHostCfg).applyBlob 4 3 1 3).applyBlob 6 4 2 4 |>.bootAt .applied))
    ∧ (s.pwr.boot = .applied →
      let s1 := s.firstReady
      let all := s1.rd R.PWR_RST_CAUSE_LAST 0 = 0 ∨ s1.rd R.PWR_RST_CAUSE_LAST 0 = 4
      let s2 := (List.range 2).foldl (fun s n => if all ∨ s.pwr.perst.contains n = true then s.applyPort n else s) s1
      let s3 := (s2.applyVfs (List.range 8)).bootAt .ready
      s.Runs .configReady ((List.range 6).foldl State.settlePll s3).settleCond)
    ∧ (∀ b o, s.pwr.boot = .ready → s.life ≠ 3 → s.bootImage 1 2 2 = some (b, o) →
      s.Runs .bootStage2
        (((s.bootAt .running).logAppend 0x01 0xF0 [(s.sec.lhs.map fun d => obSvn d.2).getD 0, obSvn o] false).runDev (b, o)))
    ∧ (∀ o, s.pwr.boot = .recovery → s.verifyAs 1 o = .ok →
      s.Runs (.recoveryImage o)
        ((s.modSec fun x => { x with flash := KMap.put (KMap.put x.flash 0 o) 1 o }).bootAt .powered))

/-- R375, R377 to R379, R382, R384 to R386, R391, R392, R396, R401: Glint: root slots and contexts are controlled by their
registers; a look-aside job starts on a cluster, has its tag judged and completes; inline frames are processed and go on or fail;
the DRBGs reseed while the entropy source is healthy. -/
def Obligations.GlintCommands : Prop :=
  ∀ (s : State) (w : Writer) (val : Nat), s.Reaches w →
    (∀ slot, slot < 16 → s.holds w .keys = false → s.Runs (.rootSlotDisable w slot val) (s.refuse w (Reg.GLT_ROOT.off slot)))
    ∧ (∀ slot, slot < 16 → s.holds w .keys = true →
      s.Runs (.rootSlotDisable w slot val) (s.setting w (Reg.GLT_ROOT.off slot) val fun s => s.wrRoot w slot val))
    ∧ s.Runs (.ctxTableEnable w val) (s.wrCtxBase val)
    ∧ (bitAt val 18 = true →
      (bitsAt val 16 2 = 1 → s.Runs (.ctxFreeze w val) (s.wrCtxCmd val))
      ∧ (bitsAt val 16 2 = 2 → s.Runs (.ctxRelease w val) (s.wrCtxCmd val))
      ∧ (bitsAt val 16 2 = 0 → s.Runs (.ctxCmdNop w val) (s.wrCtxCmd val)))
    ∧ (∀ n, s.glint.cmd = some (1, n) → KMap.getD s.glint.frozen n false = false → s.ctxBusy n = false →
      s.Runs .ctxFreezeDone (((s.writeBack n).modGlint fun g => { g with frozen := KMap.put g.frozen n true }).ctxEnd 0))
    ∧ (∀ n, s.glint.cmd = some (2, n) → KMap.getD s.glint.frozen n false = true →
      s.Runs .ctxFreezeDone ((s.modGlint fun g => { g with frozen := KMap.del g.frozen n }).ctxEnd 0))
    ∧ (∀ q x s1 c s2, s.handOn q (fun o => o == 8) = some (x, s1) → s1.chooseCluster = (some c, s2) →
      let a := (s2.jobIn c).addJob { s2.descJob q x with cluster := some c }
      s.Runs (.glintJob q) ((a.2.startJob a.1).pump a.1))
    ∧ (∀ n j c, KMap.find s.jobs n = some j → j.cluster = some c → j.opc = 8 → j.status = none → KMap.find s.glint.keys n = none →
      s.clHeld c = false → j.table = false → Nat.min 64 j.src.len ≤ s.avail n j → s.glint.stopped.contains c = false →
      s.Runs (.glintJobStart n) (s.jobBegin n j c))
    ∧ (∀ n j t, KMap.find s.jobs n = some j → j.stall = some t → j.status = none →
      t + 1000000 * s.rd R.GLT_CFG_CHAN_TMO_MS 0 ≤ s.time → s.Runs (.glintChanStall n) (s.failJob n 0x81))
    ∧ (∀ n j k, KMap.find s.jobs n = some j → KMap.find s.glint.keys n = some k → s.verdictDue n j = true →
      let h := jobHdr j.input
      let good := h.mac k.alg k.z (sliceB j.input 64 h.aadLen) ((j.input.drop (64 + h.aadLen)).take h.payLen) == h.tag.take h.tagLen
      (good = true → h.first = false → s.Runs (.glintTagVerdict n) ((s.setJob n { j with passed := true }).pump n))
      ∧ (good = false → s.Runs (.glintTagVerdict n) (s.tagFailed n j (algKind k.alg == .cmac) (j.cluster.getD 0))))
    ∧ (∀ n j q i, KMap.find (s.pump n).jobs n = some j → j.opc = 8 → j.torn = false → j.hold = none →
      (s.pump n).glintEnded n j = true → j.cluster = none → j.origin = .sq q i → j.scrub = none → j.status = none →
      let s1 := (s.pump n).modGlint fun g => { g with keys := KMap.del g.keys n }
      s.Runs (.glintJobComplete n) (((s1.forgetJob n).endJob n).complete q j.desc 0 j.done 0))
    ∧ (∀ p f r, KMap.getD s.toGlint p [] = f :: r → s.clHeld (s.home (bitsAt f.act 72 16)) = false →
      ((List.range 32).all fun k => s.glint.stopped.contains k || s.flag R.GLT_CL_STAT_OUT k) = false →
      s.flag R.GLT_CTX_BASE_EN 0 = false →
      let n := bitsAt f.act 72 16
      let c := s.home n
      let s1 := (({ s with toGlint := KMap.setD s.toGlint p [] r } : State).wakeBlock (117 + c)).countGlint c 0x06 1
      s.Runs (.glintInlineStart p) ((s1.modGlint fun g => { g with inl := g.inl ++ [⟨c, n, f, 0, [], some 0x23, false⟩] }).jobIn c))
    ∧ (∀ cl e, s.glint.inl.find? (fun e => e.cl == cl && !s.clHeld cl) = some e →
      let s1 := (s.modGlint fun g => { g with inl := g.inl.erase e }).jobOut cl
      (∀ r, e.reason = some r → s.Runs (.glintInlineVerdict cl) (s1.inlineFail e r))
      ∧ (∀ b b1, e.reason = none → s1.ctxRec e.ctx = some b → e.good = true → inlineAccept b e.seq = some b1 →
        let x := (s1.holdCtx e.ctx (ctxCount b1 96)).resizeFrame e.pkt e.data
        s.Runs (.glintInlineVerdict cl) (x.2.enterPrism { x.1 with
          recirc := e.pkt.recirc + 1
          forced := some ((s.prism e.pkt.pipe).val R.PRS_PROF_RECIRC_PROF (64 * e.pkt.pipe + e.pkt.prof % 64)) })))
    ∧ (s.flag R.GLT_RNG_STAT_ES_OK 0 = true →
      s.Runs (.drbgReseed none) ((s.wr R.GLT_RNG_STAT_SVC_FAIL 0 0).count 69 0x01 1)
      ∧ ∀ c, c < 32 → s.Runs (.drbgReseed (some c))
          ((s.modGlint fun g => { g with stopped := g.stopped.filter fun x => x != c }).count 69 0x01 1))
    ∧ (s.flag R.GLT_RNG_STAT_ES_FAIL 0 = false →
      let s1 := (s.wr R.GLT_RNG_STAT_ES_OK 0 0).sat R.GLT_RNG_STAT_FAILS 0 1
      s.Runs .entropyHealthFail ((((s1.wr R.GLT_RNG_STAT_ES_FAIL 0 1).latchLine 33).report 0xF800 .entropy 0).count 69 0x02 1))
    ∧ s.Runs .entropyHealthPass (s.wr R.GLT_RNG_STAT_ES_OK 0 1)

/-- R497 to R499, R502, R505, R509, R514, R516, R517, R519, R520, R522, R523, R525: the queue manager: records are enabled and
doorbells rung; links fetch by deficit; a good descriptor passes; each kind of descriptor is handed on: NOP, send, receive posting,
a request to firmware; a received frame is delivered into a posted buffer. -/
def Obligations.QueueCommands : Prop :=
  ∀ (s : State) (w : Writer) (q val : Nat), s.Reaches w → s.filtered w = none →
    s.Runs (.qmEnable w val) (s.wrQmCfg val)
    ∧ (q < 65536 → s.Runs (.sqEnable w q val) (s.wrSqWord q 0 val)) ∧ (q < 16384 → s.Runs (.cqEnable w q val) (s.wrCqWord q 0 val))
    ∧ (∀ f i, s.barShut f = false → s.localSq f i = some q → s.Runs (.sqDoorbell f i val) ((s.ringSq q val).tlpIn (s.linkOf f)))
    ∧ (∀ f i, s.barShut f = false → s.localCq f i = some q →
      s.Runs (.cqHeadDoorbell f i val) ((s.ringCq q val).tlpIn (s.linkOf f))
      ∧ s.Runs (.cqOvfClr f i) ((s.wr R.QM_CQ_OVERFLOW q 0).tlpIn (s.linkOf f)))
    ∧ (∀ link reads, s.nextSq link = some q → s.Runs (.fetchVisit link reads) (s.visit link q reads))
    ∧ (∀ x t, (s.sqRun q).fetched.find? (fun x => !x.passed) = some x →
      (∀ st, x.bad = some st → s.Runs (.descriptorCheck q t) (s.rejectDesc q x fun s => s.completeUnread q st))
      ∧ (x.bad = none → descGood x.bytes (s.rd R.QM_SQ_KIND q) = false →
        s.Runs (.descriptorCheck q t) (s.rejectDesc q x fun s => s.complete q x.bytes CplStat.malformed.code 0 0))
      ∧ (x.bad = none → descGood x.bytes (s.rd R.QM_SQ_KIND q) = true → leVal (sliceB x.bytes 0 1) = 1 →
        leVal (sliceB x.bytes 4 1) = 0 →
        s.Runs (.descriptorCheck q t) (s.putFetched q ((s.sqRun q).fetched.map fun y =>
          if y = x then { y with passed := true, frags := [(leVal (sliceB x.bytes 8 8), descLen x.bytes)] } else y))))
    ∧ (∀ x s1, s.handOn q (fun o => o == 0) = some (x, s1) → s.ordered q = false →
      s.Runs (.descNop q) (s1.complete q x.bytes 0 0 0))
    ∧ (∀ x s1, s.handOn q (fun o => o == 1) = some (x, s1) →
      let a := s1.addJob (s1.descJob q x)
      s.Runs (.ethSend q) ((a.2.startJob a.1).pump a.1))
    ∧ (∀ n j i g s1, KMap.find s.jobs n = some j → j.origin = .sq q i → j.opc = 1 → j.torn = false → s.oldestSq q = some n →
      j.status = none → j.src.len ≤ s.avail n j → s.flag R.QM_SQ_PAIR_V q = false →
      let port := s.hostPort (s.rd R.QM_SQ_FUNC q)
      s.newFrame { Pkt.fresh with
        pipe := Config.hostPipe port % 4, src := 16 + port, data := j.input.take j.src.len, locKind := 0, locDest := 0 } =
          some (g, s1) →
      s.Runs (.ethSendComplete n) (((s1.endJob n).enterPrism g).complete q j.desc 0 j.src.len 0))
    ∧ (∀ x s1, s.handOn q (fun o => o == 2) = some (x, s1) →
      s.Runs (.rxPost q) ((s1.setSqRun q { s1.sqRun q with posted := (s1.sqRun q).posted ++ [x] }).returnRx q))
    ∧ (∀ x s1, s.handOn q isFwOpc = some (x, s1) → s.flag R.LTN_CH_CFG_ENABLE (s.rd R.QM_SQ_CHAN q) = true →
      s.chanRoom (s.rd R.QM_SQ_CHAN q) = true →
      s.Runs (.fwRequest q)
        ((s1.setSqRun q { s1.sqRun q with waiting := false, fwOut := (s1.sqRun q).fwOut + 1 }).hwCommit (s.rd R.QM_SQ_CHAN q)
          (segWords (x.bytes.take 22 ++ leBytes 2 (s.rd R.QM_SQ_GEN q) ++ x.bytes.drop 24))))
    ∧ (∀ f fr x xr, KMap.getD s.tm.rxq q [] = f :: fr → (s.sqRun q).posted = x :: xr →
      let s1 : State := { s with tm := { s.tm with rxq := KMap.setD s.tm.rxq q [] fr } }
      (descLen x.bytes < f.data.length → s.Runs (.rxFrameDeliver q none) ((s1.sat R.QM_SQ_RX_OVERSIZE q 1).freeFrame f))
      ∧ (f.data.length ≤ descLen x.bytes →
        let s2 := s1.setSqRun q { s1.sqRun q with posted := xr }
        let a := s2.addJob { s2.descJob q x with
          origin := .rx q x.idx, src := .none_, dst := .host (cutRanges x.frags f.data.length), output := f.data
          badFrom := none, aux := rxAux f, frame := some f.handle }
        s.Runs (.rxFrameDeliver q none) ((a.2.startJob a.1).settleRx a.1 q)))
    ∧ s.Runs (.fwCompletionPost w val) (s.wrFwCpl val)
    ∧ (s.flag R.QM_CQ_EN q = true → s.Runs (.spillMove q) (s.moveSpill q))
    ∧ (∀ t, (s.cqRun q).first = some t → s.flag R.QM_CQ_EN q = true → s.flag R.QM_CQ_IRQ_EN q = true →
      s.rd R.QM_CQ_COAL_US q ≠ 0 → t + 1000 * s.rd R.QM_CQ_COAL_US q ≤ s.time → s.Runs (.coalTimerExpire q) (s.cqMessage q))

/-- R540, R541, R549, R550: virtual functions: notices are committed to firmware; a function is quiesced and released; mirrors
record writes and are harvested, with a read that flushes or without. -/
def Obligations.FunctionControl : Prop :=
  ∀ (s : State) (w : Writer) (m val : Nat), s.Reaches w → s.filtered w = none →
    (∀ x t r, s.hif.notices = (x, t) :: r →
      let chan := s.rd R.HIF_NOTICE_CFG_CHAN 0
      let s1 := ({ s with hif := { s.hif with notices := r } } : State).noticeCount
      (s.flag R.LTN_CH_CFG_ENABLE chan = false → s.Runs .funcNoticeCommit s1.noticeLost)
      ∧ (s.flag R.LTN_CH_CFG_ENABLE chan = true → s.chanRoom chan = true →
        s.Runs .funcNoticeCommit (s1.hwCommit chan [x, t])))
    ∧ (m < 4096 → (∀ rx, s.Runs (.quiesceSet w m rx) (s.quiesce m rx)) ∧ s.Runs (.quiesceClear w m) (s.unquiesce m))
    ∧ (m < 64 → s.Runs (.mirrorEnable w m val) (s.wrMirCfg m val) ∧ s.Runs (.harvest w m) (s.harvest m))
    ∧ (∀ n j, (s.mir m).job = some n → KMap.find s.jobs n = some j → s.flag R.HIF_MIR_CTL_BUSY m = true → j.status = none →
      1 ≤ s.avail n j → s.Runs (.harvestDone m) (s.harvestEnd m 0))
    ∧ ((s.mir m).job = none → s.flag R.HIF_MIR_CTL_BUSY m = true → (s.mir m).began + 2000 ≤ s.time →
      s.Runs (.harvestNoFlush m) (s.harvestEnd m 2))

/-- R168, R170, R172, R178, R208, R221, R224 to R226, R231, R474, R475: memory and translation: rings are enabled and their
transfers run; Xlf responses and the time-out of a hold; patrol scrubbing; TLB invalidation; the address translation of the host
with its completions, page requests and invalidations; the completion of a host read and its time-out. -/
def Obligations.TranslationCommands : Prop :=
  ∀ (s : State) (w : Writer) (val : Nat) (pg : HPage), s.Reaches w →
    (∀ cl r, cl < 12 → r < 256 → s.Runs (.dmaRingEnable w cl r val) (s.wrDmaRing (ringIx cl r) val))
    ∧ (∀ cl r seq n j, s.ringJob cl r seq = some (n, j) → j.opc = 0xFE → j.order = false → j.started = false → j.fn = none →
      s.Runs (.dmaTransferStart cl r seq) ((s.startJob n).pump n))
    ∧ (∀ cl r seq n j, s.ringJob cl r seq = some (n, j) → j.opc = 0xFE → j.started = true → s.moved n j = true →
      s.Runs (.dmaTransferComplete cl r seq) (s.finishRing n (j.status.getD 0) j.done))
    ∧ s.Runs (.xlfResponse w val) (s.wrXlf val)
    ∧ (∀ cl h a till b, KMap.find s.ltn.holds (64 * cl + h) = some (a, till, b) → h < 64 → till ≤ s.time →
      s.Runs (.xlfHoldTimeout cl h) (s.failHold cl h))
    ∧ (∀ addr, region s.part addr = .mac → s.flag R.MEM_SCRUB_CTL_SRAM_EN 0 = true →
      s.Runs (.patrolScrub addr val) (s.scrubWord addr (val % 2 ^ 80)))
    ∧ s.Runs (.tlbiGo w val) (s.wrTlbi w val)
    ∧ (∀ scope asid arg, s.ltn.tlbi = some (scope, 0, asid, arg) →
      s.Runs .tlbiDone ((({ s with ltn := { s.ltn with tlbi := none } } : State).wr R.MEM_TLBI_CTL_BUSY 0 0).latchLine 48))
    ∧ (∀ q, s.treq pg = some q → q.wait = .transReq → q.stale = false →
      s.Runs (.atsTranslationCompletion pg .failed)
        ((((s.delTreq pg).failPage pg CplStat.atsFault.code).afterPage pg).tlpIn (s.linkOf pg.fn))
      ∧ ∀ size base, s.Runs (.atsTranslationCompletion pg (.granted size base true true))
          (((({ s with hif := { s.hif with atc := atcAdd s.hif.atc (atcEntry pg size base true true) } } : State).delTreq pg).afterPage
            pg).tlpIn (s.linkOf pg.fn)))
    ∧ (∀ q, s.treq pg = some q → q.wait = .pageSlot → s.mayIssue pg.fn = true →
      (s.hif.treqs.filter fun r => r.wait == .pageReq && s.priOf r.pg.fn == s.priOf pg.fn).length < (s.fcfg (s.priOf pg.fn)).priAlloc →
      s.Runs (.pageRequestIssue pg)
        (((s.putTreq { q with wait := .pageReq, since := s.time }).sendTlp (s.linkOf pg.fn) (.pageRequest pg q.needW)).countHost pg.fn
          0x08 1))
    ∧ (∀ q, s.treq pg = some q → q.wait = .pageReq →
      s.Runs (.prgResponse pg .success) ((s.askAgain q true).tlpIn (s.linkOf pg.fn))
      ∧ s.Runs (.prgResponse pg .invalidRequest)
        ((((s.delTreq pg).failPage pg CplStat.pageUnresolved.code).afterPage pg).tlpIn (s.linkOf pg.fn))
      ∧ (q.since + 1000000 * s.rd R.MEM_PRI_TMO_TMO_MS 0 ≤ s.time →
        s.Runs (.pageRequestTimeout pg) (((s.delTreq pg).failPage pg CplStat.pageUnresolved.code).afterPage pg)))
    ∧ (∀ pf alloc, pf < 8 → s.fnExists pf = true → s.cfgOpen pf = true →
      s.Runs (.priEnable pf alloc) 
        ((s.setFcfg pf { s.fcfg pf with priEn := true, priStop := false, priAlloc := alloc }).tlpBoth (s.linkOf pf)))
    ∧ (∀ fn tag page size, s.flag R.HIF_FN_STAT_FLR_BUSY fn = true →
      s.Runs (.atsInvalidateRequest fn tag none page size)
        ((s.sendTlp (s.linkOf fn) (.invalidateDone fn tag)).tlpIn (s.linkOf fn)))
    ∧ (∀ fn tag v, s.hif.invals.find? (fun v => v.fn == fn && v.tag == tag) = some v →
      (v.reads.all fun t => (KMap.find s.hif.reads t).isNone) = true →
      s.Runs (.invalidationCompletion fn tag)
        (({ s with hif := { s.hif with invals := s.hif.invals.filter fun x => !(x == v) } } : State).sendTlp (s.linkOf fn)
          (.invalidateDone fn tag)))
    ∧ (∀ tag r data, KMap.find s.hif.reads tag = some r →
      let s1 := s.dropRead tag
      (r.dead = .no → s.Runs (.hostReadCompletion tag true false data)
        (((((s1.modJob r.job fun j => { j with input := placeAt j.input r.off (sliceB data 0 r.len) }).countHost r.fn 0x04 r.len).settleJob
          r.job |>.kick).settleFn r.fn).tlpIn (s.linkOf r.fn)))
      ∧ (r.dead = .bme → ∀ ok ep, s.Runs (.hostReadCompletion tag ok ep data)
        (((s1.sat R.HIF_FN_STAT_BME_LOST r.fn 1).settleFn r.fn).tlpIn (s.linkOf r.fn)))
      ∧ (r.dead = .no → r.since + s.cplTimeout r.fn ≤ s.time →
        let s2 : State := { s with hif := { s.hif with
          reads := KMap.put s.hif.reads tag { r with dead := .late }
          invals := s.hif.invals.map fun (v : Inval) => { v with reads := v.reads.filter fun t => t != tag } } }
        s.Runs (.completionTimeout tag)
          ((((s2.aer r.fn 2).modJob r.job fun j => j.fail CplStat.dmaReadFault.code).settleJob r.job).settleFn r.fn)))

/-- R448, R450, R466 to R468, R470, R477, R478, R480, R483 to R486, R488, R490, R708, R713: the host interface: resets of a port, a
link and a function; enabling of virtual functions, bus mastering and address translation; the interrupt vectors; power states and
wake-up; link power states. Settings reach a function that exists and is open. -/
def Obligations.HostInterfaceCommands : Prop :=
  ∀ (s : State) (fn : Nat), s.fnExists fn = true → s.cfgOpen fn = true →
    let c := s.fcfg fn
    (∀ n, n < 2 → s.pwr.perst.contains n = true →
      let s1 := (s.applyPort n).modPwr fun x => { x with perst := x.perst.filter fun k => k != n }
      s1.hif.wake = false → s.Runs (.perstDeassert n) s1)
    ∧ (∀ n, n < 2 → s.pwr.perst.contains n = false →
      let s1 := (portLinks n).foldl (fun s l => (s.resetLink l 4).linkDrop l) s
      let s2 := ((s1.applyPort n).applyVfs ((List.range 8).filter fun p => (s.pfLink p).1 / 2 == n)).modPwr fun x =>
        { x with perst := addOnce n x.perst }
      (s2.allPerst = false → s.Runs (.perstAssert n) s2))
    ∧ (∀ l, s.linkExists l = true → s.flag R.HIF_LINK_STAT_UP l = true → s.Runs (.hotReset l) ((s.resetLink l 3).linkDrop l))
    ∧ (∀ l, l < 4 → s.flag R.HIF_LINK_STAT_UP l = true →
      s.Runs (.pcieLinkDown l) (((s.resetLink l 5).linkDrop l).sat R.HIF_LINK_STAT_DOWN_CNT l 1)
      ∧ s.Runs (.pmeTurnOff l) ((s.sendTlp l (.pmeToAck l)).tlpIn l))
    ∧ (∀ l rate, s.mayTrain l = true → s.flag R.HIF_LINK_STAT_UP l = false → pcieWidth (Nat.min 16 (if (s.portCfg (l / 2)).1 = 1 then 8 else 16)) ≠ 0 →
      let s1 := (s.wrs l [(R.HIF_LINK_STAT_RATE, Nat.min (Nat.min rate ((s.portCfg (l / 2)).2.1 + 2)) 4),
        (R.HIF_LINK_STAT_WIDTH, pcieWidth (Nat.min 16 (if (s.portCfg (l / 2)).1 = 1 then 8 else 16))),
        (R.HIF_LINK_STAT_FLIT, 0)]).setUp l true
      s1.hif.pmeOwed = false → s.Runs (.pcieLinkUp l rate 16 false) s1)
    ∧ (8 ≤ fn → s.Runs (.flrStart fn)
        (((s.existing [fn]).foldl (fun s f => s.wr R.HIF_FN_STAT_FLR_BUSY f 1) ((s.notice 0 0 fn).resetFns [fn])).tlpBoth
          (s.linkOf fn)))
    ∧ (s.flag R.HIF_FN_STAT_FLR_BUSY fn = true → 8 ≤ fn →
      s.Runs (.flrDone fn) ((((s.listed R.HIF_FN_STAT_FLR_BUSY).filter fun f => [fn].contains f).foldl
        (fun s f => s.wr R.HIF_FN_STAT_FLR_BUSY f 0) s).notice 1 0 fn))
    ∧ (∀ n, fn < 8 → c.vfEn = true → s.Runs (.vfEnableClear fn n false)
        ((((s.notice 2 2 fn).setFcfg fn { c with vfEn := false }).resetFns
          (((s.notice 2 2 fn).setFcfg fn { c with vfEn := false }).vfsOf fn)).tlpBoth (s.linkOf fn)))
    ∧ (c.bme = true → s.Runs (.bmeClear fn) ((s.dropBme fn).tlpBoth (s.linkOf fn)))
    ∧ (c.bme = false → s.Runs (.bmeSet fn) ((s.gainBme fn).tlpBoth (s.linkOf fn)))
    ∧ (let s1 := s.setFcfg fn { c with atsEn := false }
       s.Runs (.atsEnableClear fn)
         (({ s1 with hif := { s1.hif with atc := s1.hif.atc.filter fun e => e.pg.fn != fn } } : State).kick.tlpBoth (s.linkOf fn)))
    ∧ (∀ v a d, s.barShut fn = false →
      s.Runs (.msixTableWrite fn v a d) ((s.wrMsix fn v a d).tlpIn (s.linkOf fn))
      ∧ s.Runs (.msixUnmask fn v) ((s.maskVec fn v false).tlpIn (s.linkOf fn)))
    ∧ (∀ b, fn < 8 → s.Runs (.interruptDisableWrite fn b) (((s.setFcfg fn { c with intxDis := b }).intx fn).tlpBoth
      (s.linkOf fn)))
    ∧ (s.rd R.HIF_FN_STAT_DSTATE fn ≠ 3 → s.Runs (.d3hotEntry fn) (((s.wr R.HIF_FN_STAT_DSTATE fn 3).notice 8 0 fn).tlpBoth
      (s.linkOf fn)))
    ∧ (s.rd R.HIF_FN_STAT_DSTATE fn ≠ 0 →
      s.Runs (.d0Entry fn) ((((((s.wr R.HIF_FN_STAT_DSTATE fn 0).moveSpills fn).kick).flushMsgs fn).notice 9 0 fn |>.settleFn fn).tlpBoth
        (s.linkOf fn)))
    ∧ (s.rd R.HIF_FN_STAT_DSTATE fn = 3 → c.pmeEn = true → c.pmeStat = false → s.wakeDue fn = true →
      s.Runs (.pmeSend fn) ((s.setFcfg fn { c with pmeStat := true }).sendTlp (s.linkOf fn) (.pme fn)))
    ∧ (∀ src, s.pwr.boot = .isolated → s.flag R.HIF_WAKE_CFG_WAKE_EN 0 = true → s.wakeOn src = true → s.hif.wake = false →
      s.Runs (.wakeEvent src) (({ s with hif := { s.hif with wake := true, pmeOwed := true } } : State).emit (.wakePin true)))
    ∧ (∀ l p, s.flag R.HIF_LINK_STAT_UP l = true → s.fn0 l = some p → (s.fcfg p).aspmL1 = true → s.hif.reads = [] → s.hif.treqs = [] →
      s.linkPm l ≠ .l1 → s.Runs (.aspmL1Entry l) ((s.setPm l .l1).emit (.enterL1 l)))
    ∧ (∀ l, s.flag R.HIF_LINK_STAT_UP l = true → s.flag R.HIF_LINK_STAT_FLIT l = true →
      (s.linkPm l = .l0pHalf → s.Runs (.l0pWidthChange l true) ((s.setPm l .l0).emit (.l0pWidth l true)))
      ∧ (s.linkPm l = .l0 → s.Runs (.l0pWidthChange l false) ((s.setPm l .l0pHalf).emit (.l0pWidth l false))))
    ∧ (∀ master p, s.fn0 (s.rd R.PWR_TB_CFG_PTM_LINK 0) = some p → (s.fcfg p).ptmEn = true →
      (∀ o l b, (((s.wr R.PWR_TB_OFS_OFFSET 0 o).modPwr fun x => { x with ofs := l }).setFlag R.PWR_TB_STAT_LOCKED 0 b).flag R.PWR_TB_CFG_STEER_EN 0 = false) →
      s.Runs (.ptmMeasure master)
        (let o := toSigned 64 ((master : Int) - s.time)
         let l := (o :: s.pwr.ofs).take 10
         (((s.wr R.PWR_TB_OFS_OFFSET 0 o).modPwr fun x => { x with ofs := l }).setFlag R.PWR_TB_STAT_LOCKED 0
           (decide (l.length = 10) && decide (spread l < 1000))).tlpBoth (s.rd R.PWR_TB_CFG_PTM_LINK 0)))

/-- R598, R600, R603, R614, R617 to R620, R624, R626: Lighthouse's fault handling: a report of a unit and kind that the tables name
is judged; the log is popped by its time; a fenced unit is gated; tests are asked for, begun and ended; lanes are recalibrated; fade
readings are taken each hour, or at once. -/
def Obligations.FaultAndTestCommands : Prop :=
  ∀ (s : State) (w : Writer) (u val : Nat), s.Reaches w →
    let st := s.rd R.LHS_TEST_STAT_STATE 0
    let idle := s.lhs.test = none ∧ s.testHeld = false
    (∀ kind loc tries ok, unitListed u = true → (1 ≤ kind ∧ kind ≤ 0x10) ∨ kind = 0x14 →
      s.Runs (.faultReport u kind loc tries ok)
        (({ s with reports := dropFirst (fun (r : Report) => r.unit == u && r.kind == kind && r.loc % 2 ^ 32 == loc % 2 ^ 32)
                    s.reports } : State).judge u kind (loc % 2 ^ 32) tries ok))
    ∧ (∀ r rest, s.holds w .safety = true → s.lhs.flog = r :: rest → bitAt val 16 = true → bitsAt val 0 16 = r.time % 65536 →
      s.Runs (.faultLogPop w val) (s.setting w (Reg.LHS_FLT_POP.off 0) val fun s =>
        s.modLhs fun x => { x with flog := if x.flog.head? = some r then rest else x.flog.drop 1 }))
    ∧ (s.holds w .safety = false → s.Runs (.faultLogPop w val) (s.refuse w (Reg.LHS_FLT_POP.off 0)))
    ∧ (unitListed u = true → unitTy u ≤ 2 → s.rd R.LHS_UNIT_STAT_ROLE u ≠ 0 →
      s.Runs (.fencedRequestDrop u) (((s.countFenced.sat R.LHS_FENCE_CNT_DROPPED 0 1).recordFree u FKind.fenced.code 0).gateDead u))
    ∧ (∀ d, KMap.find s.lhs.dead u = some d → d.since + 1000000 ≤ s.time → s.lhs.swq.contains u = false →
      s.Runs (.fencedUnitGate u) (s.gateDead u))
    ∧ s.Runs .lhsMismatch (s.record unitDevice FKind.lhsMismatch.code .transient 0 0)
    ∧ (st = 2 → s.Runs (.testRequest w val) ((s.wrReg w Reg.LHS_TEST_REQ 0 val).wr R.LHS_TEST_STAT_RESULT 0 4))
    ∧ (let s1 := s.wrReg w Reg.LHS_TEST_REQ 0 val
       let v := s1.rd R.LHS_TEST_REQ_UNIT 0
       st = 0 → unitListed v = true → unitTy v ≤ 2 → s1.rd R.LHS_UNIT_STAT_ROLE v = 0 →
       let s2 := (s1.wr R.LHS_TEST_STAT_STATE 0 1).modLhs fun x => { x with
         req := some ⟨v, s1.rd R.LHS_TEST_REQ_DEADLINE_S 0, s1.time⟩ }
       s2.lhs.test = none → s2.testHeld = false → s.Runs (.testRequest w val) (s2.takeRequest v))
    ∧ (unitListed u = true → unitTy u ≤ 2 → s.flag R.LHS_TEST_SCHED_EN 0 = true →
      KMap.getD s.lhs.lastTest u 0 + s.rd R.LHS_TEST_SCHED_PERIOD_H 0 * hourNs ≤ s.time → s.rd R.LHS_UNIT_STAT_ROLE u = 0 → st = 0 →
      idle → s.lhs.swq.contains u = false → s.spareFree u = true → s.Runs (.scheduledTest u) (s.testBegin u .schedule))
    ∧ (∀ q, s.lhs.req = some q → idle → s.Runs .testSpareFree (s.takeRequest q.unit))
    ∧ (∀ q, s.lhs.req = some q → q.asked + q.deadline * 1000000000 ≤ s.time → idle → s.spareFree q.unit = true →
      s.Runs .testDeadline (s.takeRequest q.unit))
    ∧ (∀ r pass, s.lhs.test = some r → r.running = true → unitTy r.unit = 1 → st ≠ 2 → r.why = .request →
      s.Runs (.testDone pass)
        (((((s.modLhs fun x => { x with test := none, lastTest := KMap.put x.lastTest r.unit s.time }).testOutcome r pass).testEnd
          (if pass then 0 else 1)).testDead)))
    ∧ (unitListed u = true → 5 ≤ unitTy u → unitTy u ≤ 7 → s.lhs.test = none →
      s.Runs (.laneRecalibrate u true true) (s.modLhs fun x => { x with lastTest := KMap.put x.lastTest u s.time }))
    ∧ (∀ i sl ro vr, i < 40 → KMap.getD s.lhs.fadeAt i 0 + hourNs ≤ s.time → s.fadeReady = true →
      s.Runs (.fadeReading i sl ro vr) (s.fade i sl ro vr))
    ∧ (∀ rd ro vr, s.Runs (.fadeRun w val rd ro vr) ((List.range 40).foldl
        (fun s i => if s.fadeReady then s.fade i (rd.getD i []) (ro.getD i 0) vr else s) (s.wrLocked w Reg.LHS_FADE_CFG 0 val)))
    ∧ (∀ i, i < 40 → s.holds w .maker = true →
      s.Runs (.planReset w i) (s.setting w (Reg.LHS_PLAN.off i) (2 ^ 30) fun s =>
        let p := s.otpPlan i
        let s1 := (s.wrs i [(R.LHS_PLAN_VSET_MV, p.1), (R.LHS_PLAN_FMAX, p.2.2), (R.LHS_PLAN_STATE, 0)]).settleVid
        (s1.tellClock i (s.rd R.LHS_PLAN_FMAX i)).settleCond))

/-- R696 to R698, R704, R707, R710, R712, R714, R720, R726 to R728, R734: power: a block goes dim, goes dark and wakes as its rule
says; FLOOR takes a write; a lost PLL lock resets the device; power-on reset, its release and the main supply; a failed rail; a soft
reset; temperature, throttling and the trip; the tap's reset. -/
def Obligations.PowerCommands : Prop :=
  ∀ (s : State) (w : Writer) (b val : Nat), s.Reaches w → b < blockCount →
    let pow := s.rd R.PWR_BLK_STAT_POWER b
    let steps := s.rd R.PWR_ENV_STAT_STEPS 0
    (pow = 0 → s.rd R.PWR_BLK_CFG_FLOOR b ≤ 1 → s.blockIdle b = true →
      s.Runs (.blockDim b) ((s.setPower b 1).modPwr fun x => { x with dimAt := KMap.put x.dimAt b s.time }))
    ∧ (∀ n, s.darkAfter b = some n → pow = 1 → s.rd R.PWR_BLK_CFG_FLOOR b = 0 → KMap.getD s.pwr.dimAt b 0 + n ≤ s.time →
      s.mayDark b = true → s.Runs (.blockDark b) ((s.setPower b 2).loseDark b))
    ∧ (s.islandsOn = true → b < 311 → s.Runs (.blockWake b) (s.wakeBlock b))
    ∧ (let s1 := s.wrReg w Reg.PWR_BLK_CFG b val
       s1.rd R.PWR_BLK_CFG_FLOOR b + s1.rd R.PWR_BLK_STAT_POWER b ≤ 2 → s.Runs (.pwrFloorWrite w b val) s1)
    ∧ (∀ p, p < 6 → bitAt (s.rd R.PWR_PLL_STAT_RUNNING 0) p = true →
      s.Runs (.pllLockLoss p) ((s.wrs 0 [(R.PWR_PLL_STAT_LOSS, orBit (s.rd R.PWR_PLL_STAT_LOSS 0) p),
        (R.PWR_PLL_STAT_LOCKED, clearMask (s.rd R.PWR_PLL_STAT_LOCKED 0) (1 <<< p))]).envLost.softReset 3))
    ∧ (∃ n, exec .powerOnReset s = .next (s.after n) ∧ n.regs = State.reset.regs ∧ n.mem = [] ∧ n.poison = [] ∧ n.pwr.boot = .held
        ∧ n.sec.otp = s.sec.otp ∧ n.sec.log = s.sec.log ∧ n.sec.flash = s.sec.flash ∧ n.sec.store = s.sec.store)
    ∧ (∀ gpio, s.pwr.boot = .held → ∃ n, exec (.porRelease gpio) s = .next (s.after n))
    ∧ (s.pwr.mainPg = false → s.pwr.boot = .rom →
      s.Runs .mainPgRise (((s.modPwr fun x => { x with mainPg := true }).powerUp).modPwr fun x => { x with boot := .powered }))
    ∧ (s.pwr.mainPg = true → s.Runs .mainPgFall s.isolate.blocksOff)
    ∧ (∀ r, 6 ≤ r → r < 8 → s.Runs (.railFault r) (s.wr R.PWR_ENV_STAT_RAIL 0 (orBit (s.rd R.PWR_ENV_STAT_RAIL 0) r)).envLost)
    ∧ (s.holds w .manager = true → s.pwr.boot = .running →
      s.Runs (.deviceSoftReset w) (s.softReset (if w = .lighthouse then 3 else 2)))
    ∧ (∀ l : List Int, l.length = 40 → (hottest l).1 ≤ 105 →
      s.Runs (.tempSample l) (s.wrs 0 [(R.PWR_ENV_STAT_TJ_C, toSigned 8 (hottest l).1), (R.PWR_ENV_STAT_HOT_ISLAND, (hottest l).2)]))
    ∧ ((s.rd R.PWR_THERM_CFG_THROTTLE_C 0 : Int) ≤ s.tj → steps < 12 → (steps = 0 ∨ s.pwr.stepAt + 20000000 ≤ s.time) →
      s.Runs .throttleStep (s.setSteps (steps + 1)))
    ∧ (s.tj < (s.rd R.PWR_THERM_CFG_THROTTLE_C 0 : Int) - 5 → 0 < steps → s.pwr.stepAt + 200000000 ≤ s.time →
      s.Runs .throttleRelease (s.setSteps (steps - 1)))
    ∧ (s.flag R.PWR_ENV_STAT_TRIP 0 = false → s.Runs .thermtrip ((s.wr R.PWR_ENV_STAT_TRIP 0 1).emit .thermTrip))
    ∧ (∀ v t, s.lhs.vrWait = some (v, t) → t + 100000 ≤ s.time →
      s.Runs .vrTimeout ((((s.modLhs fun x => { x with vrWait := none }).wr R.PWR_VID_VR_TMO 0 1).settleVid).envLost))
    ∧ s.Runs .trstAssert (s.modPwr fun x => { x with tapReset := true })

/-- R615, R670, R677, R679, R682 to R685: security: a signed command of a role is run and answered; the key commands load, import
and erase root slots; the log is sealed; firmware is staged, activated, tried, confirmed or returned. Key and firmware commands act
for a writer with the right. -/
def Obligations.SecurityCommands : Prop :=
  ∀ (s : State) (w : Writer) (val : Nat) (o : Bytes) (fails : List Nat), s.Reaches w → s.lhsRuns = true →
    let keyed := fun (op : Nat) => s.wrReg w Reg.LHS_KEY_CMD 0 (putBits val 4 3 op)
    let key := fun (c : Instr) (op : Nat) (k : State → State) =>
      s.flag R.LHS_KEY_CMD_BUSY 0 = false → (keyed op).holds w .keys = true → (keyed op).lhsRuns = true → (keyed op).canLog false = true →
        s.Runs c ((keyed op).setting w (Reg.LHS_KEY_CMD.off 0) (putBits val 4 3 op) k)
    let fw := fun (op : Nat) => s.wrFwCtl w (putBits val 0 2 op)
    let goes := fun (c : Instr) (op : Nat) (states : List Nat) (n : State → State) =>
      (fw op).holds w .manager = true → (fw op).lhsRuns = true → states.contains ((fw op).rd R.LHS_FW_STAT_STATE 0) = true →
        s.Runs c (n ((fw op).wr R.LHS_FW_CTL_REFUSED 0 0))
    let st := s.rd R.LHS_FW_STAT_STATE 0
    (let s1 := (s.wrReg w Reg.LHS_MBOX_CTL 0 val).wr R.LHS_MBOX_CTL_REFUSED 0 0
     let r := s1.runCommand (s1.mbox 0 (s1.rd R.LHS_MBOX_CTL_LEN 0)) none fails
     s.Runs (.roleCommand none w val o fails)
       ((r.2.wrs 0 [(R.LHS_MBOX_CTL_RESULT, r.1.1.mbox), (R.LHS_MBOX_CTL_OP_INDEX, r.1.2)]).latchLine 52))
    ∧ (let r := s.runCommand o (some true) fails
       s.Runs (.roleCommand (some true) w val o fails) (r.2.emit (.response 4 0x7E (leBytes 1 r.1.1.mbox ++ leBytes 1 r.1.2))))
    ∧ key (.keyNop w val) 0 (fun s => s.keyEnd 0)
    ∧ key (.keyGenerate w val) 1
        (fun s => s.keyLoad w fun s => if s.flag R.GLT_RNG_STAT_SVC_FAIL 0 then .inl 2 else .inr (s.drbg 32))
    ∧ key (.keyDeriveDevice w val) 2 (fun s => s.deriveRoot w) ∧ key (.keyImport w val) 3 (fun s => s.importKey w)
    ∧ key (.keyErase w val) 4 (fun s => s.eraseCmd w)
    ∧ (∀ n, s.sec.keyJob = some n →
      s.Runs .keyCmdDone ((((s.wr R.LHS_KEY_CMD_BUSY 0 0).wr R.LHS_KEY_CMD_STATUS 0 n).modSec fun x => { x with keyJob := none }).latchLine 53))
    ∧ (let tail := leBytes 8 s.headSeq ++ s.sec.logLink
       let sig := sliceB (Config.slhSign (ascii "ELVUM-SEAL" ++ leBytes 8 s.serial ++ tail)) 0 49856
       s.Runs (.logSeal w) ((s.putMbox 0 (sig ++ tail)).logAppend 0x0E (actorOf w) [s.headSeq] false))
    ∧ goes (.fwNop w val) 0 [0, 2] id
    ∧ (∀ ok, goes (.fwStage w val ok) 1 [0, 2] fun s => s.stageFw w ok)
    ∧ goes (.fwActivate w val) 2 [0, 2] State.activateFw ∧ goes (.fwConfirm w val) 3 [0, 2, 5] (fun s => s.confirmFw w)
    ∧ (accessorOf w = some 0 → st = 3 →
      (s.lhs.swq = [] → s.Runs (.fwYield w) (s.beginSwitch 4 0))
      ∧ (s.sec.deadline ≤ s.time → s.lhs.swq = [] → s.Runs .fwYieldTimeout ((s.wrFwact 1).beginSwitch 4 8))
      ∧ (s.sec.fwHeld = true → s.Runs (.fwOpen w) (s.modSec fun x => { x with fwHeld := false })))
    ∧ (∀ u l c, st ≠ 4 → st ≠ 6 → s.Runs (.switchOver u l c) (s.switchOver u l c).afterSwitch)
    ∧ (∀ d, st = 4 → s.ringsEmpty = true → s.rd R.NVM_FWACT_STATE 0 ≠ 1 → s.sec.act = some d →
      s.Runs .fwTrialStart (((s.resetLantern.runDev d).wr R.LHS_FW_STAT_STATE 0 5).modSec fun x => { x with
        act := none, deadline := s.time + s.rd R.LHS_FW_CTL_CONFIRM_S 0 * 1000000000 }))
    ∧ (st = 5 → s.sec.deadline ≤ s.time →
      let s1 := (s.wrFwact 1).modSec fun x => { x with act := x.prev }
      s1.canLog true = false →
      s.Runs .fwConfirmTimeout (((s1.wr R.LHS_FW_STAT_STATE 0 6).modSec fun x => { x with fwHeld := true }).closeLantern))

/-- R689 to R691: an SPDM request that comes over a transport that is up is answered on it; CHUNK_GET delivers what is left of a
large response; CHUNK_SEND of a first part keeps it. -/
def Obligations.SpdmCommands : Prop :=
  ∀ (s : State) (tr : Nat) (m : Bytes) (busy : Bool), s.spdmUp tr = true →
    let code := obNat m 1 1
    let c := s.conn tr
    let answers := fun (i : Instr) (k : Nat) (b : Bool) => code = k →
      s.Runs i ((s.spdmAnswer tr m b).2.deliver tr (s.spdmAnswer tr m b).1)
    answers (.spdmGetVersion tr m) 0x84 false ∧ answers (.spdmGetCapabilities tr m) 0xE1 false
    ∧ answers (.spdmNegotiateAlgorithms tr m) 0xE3 false ∧ answers (.spdmGetDigests tr m) 0x81 false
    ∧ answers (.spdmGetCertificate tr m) 0x82 false ∧ answers (.spdmChallenge tr m busy) 0x83 busy
    ∧ answers (.spdmGetMeasurements tr m busy) 0xE0 busy ∧ answers (.spdmVendorDefinedRequest tr m) 0xFE false
    ∧ (code = 0x85 → 2 ≤ c.stage → obNat m 4 2 = 0 → bitAt (obNat m 2 1) 0 = false →
      let data := (m.drop 16).take (obNat m 8 4)
      obNat m 12 4 ≤ spdmMax → data.length ≤ obNat m 12 4 →
      s.Runs (.spdmChunkSend tr m busy)
        ((s.setConn tr { c with inBuf := data, inSize := obNat m 12 4, inNext := 1, inHnd := obNat m 3 1 }).deliver tr
          (spdmMsg 0x05 0 (obNat m 3 1) (leBytes 2 0))))
    ∧ (code = 0x86 → c.out ≠ [] → obNat m 3 1 = c.outHnd → obNat m 4 2 = c.outNext → c.outNext ≠ 0 →
      c.out.length ≤ c.outAt + Nat.min (spdmPart - 12) (c.out.length - c.outAt) →
      s.Runs (.spdmChunkGet tr m)
        ((s.setConn tr { c with out := [], outAt := 0, outNext := 0 }).deliver tr
          (spdmMsg 0x06 1 c.outHnd (leBytes 2 c.outNext ++ zeros 2 ++ leBytes 4 (Nat.min (spdmPart - 12) (c.out.length - c.outAt))
            ++ (c.out.drop c.outAt).take (Nat.min (spdmPart - 12) (c.out.length - c.outAt))))))

/-- R412, R417, R420, R423, R435, R438 to R440, R443, R444: the NVMe controllers: enabling, doorbells, arbitration, CC.EN and the
shutdowns, the entry of a power state, and the pause for a firmware activation. A register of a controller is reached through an
open BAR while it is active. -/
def Obligations.NvmeControllers : Prop :=
  ∀ (s : State) (w : Writer) (fn val : Nat), s.Reaches w → s.barShut fn = false → s.flag R.NVM_CTRL_CFG_ACTIVE fn = true →
    let c := s.nctl fn
    s.Runs (.nvmEnable w val) (s.wrNvmCfg val) ∧ s.Runs (.nvmDone w val) (s.wrNvmDone val)
    ∧ (∀ id, s.Runs (.nvmeSqDoorbell fn id val) ((s.ringNvmeSq fn id val).tlpIn (s.linkOf fn))
      ∧ s.Runs (.nvmeCqDoorbell fn id val) ((s.ringNvmeCq fn id val).tlpIn (s.linkOf fn)))
    ∧ (∀ reads, s.nvmeRoom = true → s.ctlReady s.nvm.visit = true → s.nvm.taken < s.rd R.NVM_CTRL_CFG_WEIGHT s.nvm.visit →
      let r := s.arbitrate s.nvm.visit reads
      s.Runs (.nvmeArbitrate reads) (r.2.modNvm fun n => { n with visit := s.nvm.visit, taken := n.taken + r.1 }))
    ∧ (∀ p, c.want = some p → s.slotsOf fn = [] → s.nvm.sqs = [] →
      s.Runs (.nvmePowerStateEntered fn) (c.waits.foldl (fun s n => s.finishSlot n (0, 0, 0) 0)
        (s.setNctl fn { c with ps := p, opPs := if p < 2 then p else c.opPs, want := none, waits := [] })))
    ∧ (bitAt val 0 = true → s.Runs (.nvmeCcEnable fn val) ((s.ctlStart fn val).tlpIn (s.linkOf fn)))
    ∧ (bitAt val 0 = false → c.en = true →
      s.Runs (.nvmeCcDisable fn val)
        (((s.ctlStop fn).modNctl fn fun c => { c with cc := val, shst := 0, shut := .none_, flushed := false }).tlpIn (s.linkOf fn)))
    ∧ (c.rdy = true → c.en = false → s.quietCtl fn = true → s.Runs (.nvmeRdyClear fn) (s.setNctl fn { c with rdy := false, late := [] }))
    ∧ (bitsAt val 14 2 = 1 → c.en = true → c.shut = .none_ →
      s.Runs (.nvmeShutdownNormal fn val) (((s.setNctl fn { c with cc := val, shst := 1, shut := .normal }).shutFlush fn).tlpIn (s.linkOf fn)))
    ∧ (bitsAt val 14 2 = 2 → c.en = true → c.shut ≠ .abrupt →
      s.Runs (.nvmeShutdownAbrupt fn val)
        (((s.ctlStop fn).modNctl fn fun c => { c with cc := val, shst := 1, shut := .abrupt }).tlpIn (s.linkOf fn)))
    ∧ (c.shst = 1 →
      (c.shut = .abrupt → s.quietCtl fn = true → s.Runs (.nvmeShutdownComplete fn) (s.setNctl fn { c with shst := 2 }))
      ∧ (c.shut = .normal → c.flushed = true → ((s.slotsOf fn).all fun e => e.2.posted) = true →
        s.Runs (.nvmeShutdownComplete fn) (s.setNctl fn { c with shst := 2 })))
    ∧ s.Runs (.nvmeFwactPause w) (s.wrFwact 1) ∧ s.Runs (.nvmeFwactResume w) (s.wrFwact 2)
    ∧ (s.rd R.NVM_FWACT_STATE 0 = 1 → s.nvm.paused + 200000000 ≤ s.time → s.Runs .nvmeFwactDrainTimeout s.abortForFw)

/-- R409, R410, R416, R418, R419, R422, R429, R433: an NVMe command is checked, moves its data, is handed to its service and
completes; each command in its own way: reads and writes stage data, Flush and Write Zeroes name their units, the others go to the
service as they are. -/
def Obligations.NvmeCommandFlow : Prop :=
  ∀ (s : State) (n : Nat) (reads : List ReadResult),
    let as := fun (p : NSlot → Bool) (x : NSlot) => s.checkedAs n p = some x
    (∀ x e sep, s.nslot n = some x → x.phase = .fetched → s.checkFails n x sep = some e → e ≠ (0, 0x03) →
      s.Runs (.nvmeCommandCheck n sep reads) (s.failSlot n e.1 e.2))
    ∧ (∀ x z sep, s.nslot n = some x → x.phase = .fetched → s.checkFails n x sep = none →
      let s1 := (s.setNslot n { x with
        phase := if s.plainService x then .ready else .checked, sep := sep, walk := s.walkStart x sep, buf := s.shrunk x sep }).walkRun
          n reads
      s1.nslot n = some z → z.walk.bad = none → s.Runs (.nvmeCommandCheck n sep reads) s1)
    ∧ (∀ x, as (fun x => s.isIo x 1) x → s.Runs (.nvmeWrite n reads) (s.stageIn n reads))
    ∧ (∀ x, as (fun x => s.isIo x 9) x → s.Runs (.nvmeDatasetMgmt n reads) (s.stageIn n reads))
    ∧ (∀ x, as (fun x => s.isIo x 8) x →
      s.Runs (.nvmeWriteZeroes n) (s.setNslot n { x with phase := .ready, units := [x.unitRange x.slba x.blocks] }))
    ∧ (∀ x q, as (fun x => s.isIo x 0) x → x.sq = some q →
      s.Runs (.nvmeFlush n) (((List.range 28).foldl (fun t k =>
        t.draw.2.setByte (s.slotRec n + 4 + k) (BitVec.ofNat 8 t.draw.1)) s).setNslot n { x with phase := .ready, seqs := s.flushSeqs x }))
    ∧ (∀ x, as (fun x => s.isAdm x 6) x → s.Runs (.nvmeIdentify n) (s.setNslot n { x with phase := .ready }))
    ∧ (∀ x, as (fun x => s.isAdm x 2) x → s.Runs (.nvmeGetLogPage n) (s.setNslot n { x with phase := .ready }))
    ∧ (∀ x, as (fun x => s.isAdm x 0x0C) x → s.Runs (.nvmeAsyncEventRequest n) (s.setNslot n { x with phase := .ready }))
    ∧ (∀ x, s.nvm.msgs = [] → s.nslot n = some x → x.phase = .ready → s.heldByWrite n x = false → s.svcOpen (s.svcOf x) = true →
      s.chanRoom (s.rd R.NVM_SVC_CHAN_CHAN (s.svcOf x)) = true →
      s.Runs (.nvmeHandoff n) ((s.hwCommit (s.rd R.NVM_SVC_CHAN_CHAN (s.svcOf x)) (s.commandWords n x)).setNslot n { x with phase := .handed }))
    ∧ (∀ x, s.nvm.msgs = [] → s.nslot n = some x → x.phase = .ready → s.heldByWrite n x = false → s.svcOpen (s.svcOf x) = false →
      s.Runs (.nvmeHandoff n) (s.finishSlot n (0, 0x06, 1) 0))
    ∧ (∀ x y bad s1, s.nslot n = some x → x.phase = .answered → s.isAdm x 8 = false → s.moveOut n reads bad = (true, s1) →
      s1.nslot n = some y → s.Runs (.nvmeComplete n reads bad) ((s1.countRead y).finishSlot n y.res y.dw0))
    ∧ (∀ x bad, s.nslot n = some x → s.isIo x 2 = true →
      (x.phase = .checked → s.Runs (.nvmeRead n reads bad) (s.setNslot n { x with phase := .ready }))
      ∧ (x.phase = .answered → s.Runs (.nvmeRead n reads bad) (s.moveOut n reads bad).2))

/-- R407, R409, R420, R425, R435, R436: the admin commands that the device performs itself: queues are created and deleted, a
command is aborted, features are set and returned. -/
def Obligations.NvmeAdminCommands : Prop :=
  ∀ (s : State) (n : Nat) (x : NSlot),
    let c := s.nctl x.fn
    let v := x.dw 11
    let as := fun (p : NSlot → Bool) => s.checkedAs n p = some x
    let fits := fun (lim : Nat) => 0 < x.dw 10 % 65536 ∧ x.dw 10 % 65536 ≤ lim ∧ 2 ≤ bitsAt (x.dw 10) 16 16 + 1
      ∧ bitsAt (x.dw 10) 16 16 + 1 ≤ 4096 ∧ bitAt v 0 = true ∧ leVal (sliceB x.cmd 24 8) % c.page = 0
    let sets := fun (i : Instr) (fid : Nat) (y : NCtl) => as (fun z => s.isFeat z 9 fid) →
      s.Runs i ((s.setNctl x.fn y).finishSlot n (0, 0, 0) 0)
    let gets := fun (i : Instr) (fid dw0 : Nat) => as (fun z => s.isFeat z 0x0A fid) →
      s.Runs i ((s.setNctl x.fn c).finishSlot n (0, 0, 0) dw0)
    (∀ q cq e s1, as (fun z => s.isAdm z 1) → fits c.nsq → s.findSq x.fn (x.dw 10 % 65536) = none → bitsAt v 16 16 ≠ 0 →
      s.findCq x.fn (bitsAt v 16 16) = some (cq, e) → s.poolSq = (some q, s1) →
      s.Runs (.nvmeCreateIoSq n) ((s1.addSq q x.fn (x.dw 10 % 65536) (leVal (sliceB x.cmd 24 8)) (bitsAt (x.dw 10) 16 16 + 1) cq
        (bitsAt v 1 2)).finishSlot n (0, 0, 0) 0))
    ∧ (∀ q s1, as (fun z => s.isAdm z 5) → fits c.ncq → s.findCq x.fn (x.dw 10 % 65536) = none →
      bitsAt v 16 16 ≤ s.rd R.HIF_FN_ACT_VEC_M1 x.fn → s.poolCq = (some q, s1) →
      s.Runs (.nvmeCreateIoCq n) ((s1.addCq q x.fn (x.dw 10 % 65536) (leVal (sliceB x.cmd 24 8)) (bitsAt (x.dw 10) 16 16 + 1)
        (bitsAt v 16 16) (bitAt v 1)).finishSlot n (0, 0, 0) 0))
    ∧ (∀ q e, as (fun z => s.isAdm z 0) → x.dw 10 % 65536 ≠ 0 → s.findSq x.fn (x.dw 10 % 65536) = some (q, e) →
      (s.nvm.slots.any fun y => y.2.sq == some q && !y.2.posted) = false →
      s.Runs (.nvmeDeleteIoSq n) ((s.modNvm fun v => { v with sqs := KMap.del v.sqs q }).finishSlot n (0, 0, 0) 0))
    ∧ (∀ q e, as (fun z => s.isAdm z 4) → x.dw 10 % 65536 ≠ 0 → s.findCq x.fn (x.dw 10 % 65536) = some (q, e) →
      (s.nvm.sqs.any fun y => y.2.cq == q) = false → e.spilled = [] → s.jobs = [] →
      s.Runs (.nvmeDeleteIoCq n) ((s.modNvm fun v => { v with cqs := KMap.del v.cqs q }).finishSlot n (0, 0, 0) 0))
    ∧ (∀ reads, as (fun z => s.isAdm z 8) → ((s.slotsOf x.fn).filter fun e => s.isAdm e.2 8 && !e.2.posted).length ≤ 8 →
      s.findSq x.fn (x.dw 10 % 65536) = none →
      s.Runs (.nvmeAbort n reads) (((s.setNslot n { x with phase := .answered, dw0 := 1 }).count 31 0x05 1).abortReply n))
    ∧ sets (.nvmeSetArbitration n) 1
        { c with ab := bitsAt v 0 3, lpw := bitsAt v 8 8, mpw := bitsAt v 16 8, hpw := bitsAt v 24 8 }.refill
    ∧ gets (.nvmeGetArbitration n) 1 (c.ab + c.lpw * 2 ^ 8 + c.mpw * 2 ^ 16 + c.hpw * 2 ^ 24)
    ∧ (as (fun z => s.isFeat z 9 2) → bitsAt v 0 5 ≤ 2 → c.waits.contains n = false →
      s.Runs (.nvmeSetPowerMgmt n) (s.modNctl x.fn fun c => { c with want := some (bitsAt v 0 5), waits := c.waits ++ [n] }))
    ∧ gets (.nvmeGetPowerMgmt n) 2 (c.want.getD c.ps)
    ∧ (as (fun z => s.isFeat z 9 7) → bitsAt v 0 16 ≠ 0xFFFF → bitsAt v 16 16 ≠ 0xFFFF →
      (s.nvm.cqs.any fun e => e.2.fn == x.fn && e.2.id != 0) = false →
      let a := Nat.min (bitsAt v 0 16) (s.rd R.NVM_CTRL_CFG_MAXQ x.fn)
      let b := Nat.min (bitsAt v 16 16) (s.rd R.NVM_CTRL_CFG_MAXQ x.fn)
      s.Runs (.nvmeSetNumQueues n) ((s.modNctl x.fn fun c => { c with nsq := a + 1, ncq := b + 1 }).finishSlot n (0, 0, 0) (a + b * 2 ^ 16)))
    ∧ gets (.nvmeGetNumQueues n) 7 ((c.nsq - 1) + (c.ncq - 1) * 2 ^ 16)
    ∧ sets (.nvmeSetIntCoalescing n) 8 { c with thr := bitsAt v 0 8, tim := bitsAt v 8 8 }
    ∧ gets (.nvmeGetIntCoalescing n) 8 (c.thr + c.tim * 2 ^ 8)
    ∧ (bitsAt v 0 16 ≤ s.rd R.HIF_FN_ACT_VEC_M1 x.fn →
      sets (.nvmeSetIntVectorCfg n) 9
        { c with cd := (c.cd.filter fun k => k != bitsAt v 0 16) ++ (if bitAt v 16 then [bitsAt v 0 16] else []) }
      ∧ gets (.nvmeGetIntVectorCfg n) 9 (bitsAt v 0 16 + b2n (c.cd.contains (bitsAt v 0 16)) * 2 ^ 16))

/-- The step of a block: with command `c` at the front of the queue, a step is `c` on the state with the rest of the queue; a command put in
front runs first (the model's own, log entry 1). -/
def Obligations.StepRunsFrontCommand : Prop :=
  ∀ (c : Instr) (s : State) (rest : List Instr),
    (s.pending = c :: rest → step s = exec c { s with pending := rest }) ∧ step (s.withFront c) = exec c s

/-- R705, R706, and the model's own (log entry 1): on an empty queue a step is one cycle of REFCLK_AON. The timebase advances by 40 ns
corrected by RATE_PPB, in 10^-9 ns; while power-on reset stands nothing changes. -/
def Obligations.EmptyQueueTicks : Prop :=
  ∀ s : State, s.pending = [] →
    ∃ n, step s = .next n ∧ n.pending = [] ∧ (s.pwr.boot = .held → n = s) ∧ (s.pwr.boot ≠ .held →
      (n.time : Int) * 1000000000 + n.frac
          = s.time * 1000000000 + s.frac + 40 * 1000000000 + 40 * signedOf 24 (s.rd R.PWR_TB_STAT_RATE_PPB 0)
        ∧ n.frac < 1000000000)

/-- Every command answers a next state at every state; none changes the ordering code (R1) or the queue, and none takes time: the timebase
is as before, or 0 while power-on reset stands (R705; the model's own, log entry 1). -/
def Obligations.CommandsAlwaysAnswer : Prop :=
  ∀ (c : Instr) (s : State), ∃ n, exec c s = .next n ∧ n.part = s.part ∧ n.pending = s.pending
    ∧ (n.pwr.boot ≠ .held → n.time = s.time ∧ n.frac = s.frac) ∧ (n.pwr.boot = .held → n.time = 0 ∧ n.frac = 0)

/-- The queue drains: as many steps as commands wait empty it, and no step of them stops (the model's own, log entry 1). -/
def Obligations.QueueDrains : Prop :=
  ∀ s : State, ∃ n, Sys2Proof.core.run s.pending.length s = .next n ∧ n.pending = [] ∧ n.part = s.part

/-- R1, R705: every step keeps the invariant: the ordering code, a fraction of a nanosecond owed below one, and a timebase of 0 while
power-on reset stands. -/
def Obligations.InvariantKept : Prop :=
  ∀ (p : Part) (s n : State), s.Inv p → step s = .next n → n.Inv p

/-- R1, R705: the invariant holds after reset, of an A28 (the model's own choice of part, log entry 11). -/
def Obligations.InvariantAtReset : Prop := State.reset.Inv .a28

/-- R18, R69, R205, R709: after power-on reset every register field reads its Reset value, every byte of memory reads 0 and none is
poisoned; every thread is OFF; no message, job or command waits; power-on reset stands. General registers and system registers without a
Reset value read 0 (the model's own, log entry 13). -/
def Obligations.StateAtReset : Prop :=
  (∀ f i, State.reset.rd f i = f.rst.at i) ∧ (∀ a, State.reset.byte a = 0 ∧ State.reset.bad a = false)
    ∧ (∀ t, (State.reset.thr t).st = .off ∧ (∀ r, (State.reset.thr t).greg r = 0) ∧ (State.reset.thr t).pc = 0)
    ∧ (∀ c, State.reset.slots c = []) ∧ State.reset.jobs = [] ∧ State.reset.pending = [] ∧ State.reset.time = 0
    ∧ State.reset.pwr.boot = .held

/-- R7, R205, R709: a byte string written to the internal memory is read back, every other byte reads as before, and the memory keeps
its canonical form. A word written whole loses its poison. -/
def Obligations.MemoryReadAfterWrite : Prop :=
  ∀ (s : State) (a : Nat) (bs : Bytes),
    (s.setBytes a bs).bytes a bs.length = bs
    ∧ (∀ x, (x < a ∨ a + bs.length ≤ x) → (s.setBytes a bs).byte x = s.byte x)
    ∧ (∀ x, a ≤ 8 * (x / 8) → 8 * (x / 8) + 8 ≤ a + bs.length → (s.setBytes a bs).bad x = false)
    ∧ (∀ x, (8 * (x / 8) < a ∨ a + bs.length < 8 * (x / 8) + 8) → (s.setBytes a bs).bad x = s.bad x)
    ∧ (Memory.wf s.mem = true → Memory.wf (s.setBytes a bs).mem = true)

/-- R144: division raises no fault. With b = 0, DIVU and DIVS return all ones, and REMU and REMS return a. DIVS of -2^63 by -1 returns
-2^63, and REMS returns 0. -/
def Obligations.DivisionCorners : Prop :=
  ∀ (s : State) (t : Nat), s.Ready t → ∀ rd ra rb : Reg5,
    let a := (s.thr t).greg ra
    let b := (s.thr t).greg rb
    let gives := fun (c : Instr) (v : Word) => s.Runs c (s.result t rd v)
    (∀ c ∈ [Instr.divu t rd ra rb, .divs t rd ra rb, .remu t rd ra rb, .rems t rd ra rb], ∃ v, gives c v)
    ∧ (b = 0 → gives (.divu t rd ra rb) (BitVec.allOnes 64) ∧ gives (.divs t rd ra rb) (BitVec.allOnes 64)
      ∧ gives (.remu t rd ra rb) a ∧ gives (.rems t rd ra rb) a)
    ∧ (a = BitVec.intMin 64 → b = -1 → gives (.divs t rd ra rb) (BitVec.intMin 64) ∧ gives (.rems t rd ra rb) 0)

/-- R146: every load, store and atomic must be naturally aligned to its width; else MISALIGNED is raised and no part of the access is
performed: no byte, no poison bit and no general register of the thread changes. -/
def Obligations.MisalignedAccess : Prop :=
  ∀ (s : State) (t : Nat), s.Ready t → ∀ (rd ra rb : Reg5) (imm : BitVec 16) (w32 : Bool),
    let va := effAddr (s.thr t) ra imm
    let at_ := ((s.thr t).greg ra).toNat
    let raises := fun (acc a n : Nat) (c : Instr) => a % n ≠ 0 →
      let m := s.raiseAt t .misaligned (memInfo a acc 0)
      s.Runs c m ∧ m.mem = s.mem ∧ m.poison = s.poison ∧ ∀ r, (m.thr t).greg r = (s.thr t).greg r
    raises 0 va 1 (.ldbu t rd ra imm) ∧ raises 0 va 1 (.ldb t rd ra imm) ∧ raises 1 va 1 (.stb t rd ra imm)
    ∧ raises 0 va 2 (.ldhu t rd ra imm) ∧ raises 0 va 2 (.ldh t rd ra imm) ∧ raises 1 va 2 (.sth t rd ra imm)
    ∧ raises 0 va 4 (.ldwu t rd ra imm) ∧ raises 0 va 4 (.ldw t rd ra imm) ∧ raises 1 va 4 (.stw t rd ra imm)
    ∧ raises 0 va 8 (.ldd t rd ra imm) ∧ raises 1 va 8 (.std t rd ra imm)
    ∧ (∀ c ∈ [Instr.swap t rd ra rb w32, .cas t rd ra rb w32, .fadd t rd ra rb w32, .fand t rd ra rb w32, .fOr t rd ra rb w32,
        .fxor t rd ra rb w32, .fmin t rd ra rb w32, .fmax t rd ra rb w32, .fminu t rd ra rb w32, .fmaxu t rd ra rb w32],
      raises 3 at_ (if w32 then 4 else 8) c)

/-- R192: a block instruction that starts with DONE > LEN, or with ACC other than 0 for an operation other than BCRC, raises
PROGRESS_BAD, and nothing is read or written. -/
def Obligations.ProgressBad : Prop :=
  ∀ (s : State) (t : Nat), s.Ready t → ∀ rd ra rb rc : Reg5,
    let o := (s.thr t).blkOps ra rb rc
    let m := s.raiseAt t .progressBad (s.thr t).prg.toNat
    (m.mem = s.mem ∧ m.poison = s.poison ∧ ∀ r, (m.thr t).greg r = (s.thr t).greg r)
    ∧ ((o.n < o.done ∨ o.acc ≠ 0) → s.Runs (.bcopy t rd ra rb rc) m ∧ s.Runs (.bfill t rd ra rb rc) m ∧ s.Runs (.bcmp t rd ra rb rc) m)
    ∧ (o.n < o.done → s.Runs (.bcrc t rd ra rb rc) m)

/-- R103, R99: CHDISCARD empties the thread's staging buffer; CHWR appends one word to it. No other thread that does not wait, and no
channel, sees anything of it. -/
def Obligations.StagingBuffer : Prop :=
  ∀ (s : State) (t : Nat), s.ReadyChan t → ∀ (rd ra : Reg5) (n : State),
    let unseen := (∀ u, u ≠ t → (s.thr u).st ≠ .wait → n.thr u = s.thr u) ∧ (∀ c, n.slots c = s.slots c)
    (exec (.chdiscard t rd) s = .next n → (n.thr t).stage = [] ∧ unseen)
    ∧ (exec (.chwr t rd ra) s = .next n →
      ((s.thr t).stage.length < 8 → (n.thr t).stage = (s.thr t).stage ++ [(s.thr t).greg ra])
      ∧ (8 ≤ (s.thr t).stage.length → (n.thr t).stage = (s.thr t).stage) ∧ unseen)

/-- R134: at PL0 the restricted instructions raise PRIV with their own word and have no other effect: SRW, ERET, IEN, IDIS, TLBI, SRR of
a register outside R132, TLOOK, CRYPT, DMAQ and DMAACK without the grant of UPERM, CTRRD of a block that is not open. A load, store or
atomic whose physical address lies in the register space or the SRAM window raises PRIV_ACCESS. -/
def Obligations.PrivilegeChecks : Prop :=
  ∀ (s : State) (t : Nat), s.Ready t → (s.thr t).pl1 = false → ∀ (rd ra rb rc : Reg5) (reg : BitVec 12) (scope : BitVec 2),
    let th := s.thr t
    let priv := fun (c : Instr) (word : Nat) => s.Runs c (s.raiseAt t .priv word)
    let a := (th.greg ra).toNat
    (reg.toNat ∈ sysRegs → priv (.srw t ra reg) (wordI 0x30 0 ra (1 <<< 12 + reg.toNat))
      ∧ (reg.toNat ∉ [0x10, 0x11, 0x12, 7] → priv (.srr t rd reg) (wordI 0x30 rd 0 reg.toNat)))
    ∧ priv (.eret t) (wordI 0x30 0 0 (3 <<< 12)) ∧ priv (.ien t) (wordI 0x30 0 0 (5 <<< 12))
    ∧ priv (.idis t) (wordI 0x30 0 0 (6 <<< 12))
    ∧ (scope ≠ 3 → priv (.tlbi t ra scope) (wordI 0x30 0 ra (7 <<< 12 + scope.toNat)))
    ∧ (bitAt th.uperm 0 = false → priv (.tlookLpm4 t rd ra rc) (wordQ 0x2B rd ra 0 rc 0)
      ∧ priv (.tlookLpm6 t rd ra rb rc) (wordQ 0x2B rd ra rb rc 1) ∧ priv (.tlookMac t rd ra rc) (wordQ 0x2B rd ra 0 rc 2)
      ∧ priv (.tlookFlow t rd ra rc) (wordQ 0x2B rd ra 0 rc 3) ∧ priv (.tlookPsm t rd ra rc) (wordQ 0x2B rd ra 0 rc 4))
    ∧ (bitAt th.uperm 1 = false → priv (.aesenc t rd ra rb rc) (wordQ 0x2D rd ra rb rc 0)
      ∧ priv (.aesdec t rd ra rb rc) (wordQ 0x2D rd ra rb rc 1) ∧ priv (.cryptJob t rd ra rb rc) (wordQ 0x2D rd ra rb rc 2)
      ∧ priv (.cryptRand t rd) (wordQ 0x2D rd 0 0 0 3))
    ∧ (bitAt th.uperm 2 = false → priv (.dmaq t rd ra rb rc) (wordQ 0x2C rd ra rb rc 0)
      ∧ priv (.dmaack t rd ra rb) (wordQ 0x2C rd ra rb 0 1))
    ∧ (bitsAt a 0 7 < 71 → s.flag R.LUM_BLK_CTL_USER (bitsAt a 0 7) = false → priv (.ctrrd t rd ra) (wordR 0x2E rd ra 0 0))
    ∧ (∀ (imm : BitVec 16) (w32 : Bool) (pa : Nat) (s1 : State),
      region s1.part pa ∈ [.regSpace, .trie, .pktBuf, .l2, .sysCache, .mac] → (s1.thr t).pl1 = false →
      let va := effAddr th ra imm
      let denied := fun (k : AKind) (a n : Nat) (c : Instr) => a % n = 0 → s.translate t a k = (.pa pa, s1) →
        s.Runs c (s1.raiseAt t .privAccess (memInfo a k.code 0))
      denied .load va 1 (.ldbu t rd ra imm) ∧ denied .load va 1 (.ldb t rd ra imm) ∧ denied .load va 2 (.ldhu t rd ra imm)
      ∧ denied .load va 2 (.ldh t rd ra imm) ∧ denied .load va 4 (.ldwu t rd ra imm) ∧ denied .load va 4 (.ldw t rd ra imm)
      ∧ denied .load va 8 (.ldd t rd ra imm) ∧ denied .store va 1 (.stb t rd ra imm) ∧ denied .store va 2 (.sth t rd ra imm)
      ∧ denied .store va 4 (.stw t rd ra imm) ∧ denied .store va 8 (.std t rd ra imm)
      ∧ (∀ c ∈ [Instr.swap t rd ra rb w32, .cas t rd ra rb w32, .fadd t rd ra rb w32, .fand t rd ra rb w32, .fOr t rd ra rb w32,
          .fxor t rd ra rb w32, .fmin t rd ra rb w32, .fmax t rd ra rb w32, .fminu t rd ra rb w32, .fmaxu t rd ra rb w32],
        denied .atomic a (if w32 then 4 else 8) c))

/-- R129, R140, R143, R156, R177, R190: the frame of the instructions that only compute or branch: the ALU group and its immediate forms,
MUL and DIV, branches, calls, NOPS and the fences. RD changes, or nothing where the instruction has none; PC, PRG, the counters and what
an event of a counter sets (`State.FrameOf`); all memory stays. -/
def Obligations.RegisterInstructionFrame : Prop :=
  ∀ (s : State) (t : Nat), s.Ready t →
    ∀ (rd ra rb : Reg5) (imm off : BitVec 16) (hw kind : BitVec 2) (am : BitVec 6) (far : BitVec 21) (n : State),
    (∀ c ∈ [Instr.add t rd ra rb, .sub t rd ra rb, .and t rd ra rb, .or t rd ra rb, .xor t rd ra rb, .andn t rd ra rb,
        .shl t rd ra rb, .shr t rd ra rb, .sra t rd ra rb, .ror t rd ra rb, .clt t rd ra rb, .cltu t rd ra rb, .min t rd ra rb,
        .max t rd ra rb, .minu t rd ra rb, .maxu t rd ra rb, .addw t rd ra rb, .subw t rd ra rb, .clz t rd ra, .ctz t rd ra,
        .popc t rd ra, .bswap t rd ra, .ext t rd ra rb, .ins t rd ra rb, .addi t rd ra imm, .andi t rd ra imm, .ori t rd ra imm,
        .xori t rd ra imm, .clti t rd ra imm, .cltiu t rd ra imm, .shifti t rd ra kind am, .immz t rd hw imm, .immk t rd hw imm,
        .mul t rd ra rb, .mulhu t rd ra rb, .mulhs t rd ra rb, .mulw t rd ra rb, .divu t rd ra rb, .divs t rd ra rb,
        .remu t rd ra rb, .rems t rd ra rb, .call t rd far, .callr t rd ra imm],
      exec c s = .next n → s.FrameOf t (some rd) n)
    ∧ (∀ c ∈ [Instr.beq t ra rb off, .bne t ra rb off, .blt t ra rb off, .bge t ra rb off, .bltu t ra rb off, .bgeu t ra rb off,
        .nops t, .fence t, .ifence t],
      exec c s = .next n → s.FrameOf t none n)

/-- R145, R146, R153, R205, R292: what loads, stores and atomics leave of the memory. A load that the device's own memory or register
space answers changes no byte. A store or an atomic of `n` bytes changes only the bytes at its physical address, which it sets to the
value stored; in the trie window no byte outside the 16-byte entry it lies in changes (translation keeps an address's alignment). -/
def Obligations.LoadStoreFrame : Prop :=
  ∀ (s : State) (t : Nat), s.Ready t → ∀ (rd ra rb : Reg5) (imm : BitVec 16) (w32 : Bool) (pa : Nat) (s1 n : State),
    let va := effAddr (s.thr t) ra imm
    let a := ((s.thr t).greg ra).toNat
    let v := ((s.thr t).greg rd).toNat
    let keeps := ∀ x, n.byte x = s.byte x
    let loads := fun (k : Nat) (c : Instr) => va % k = 0 → exec c s = .next n → keeps
    let outside := fun (k : Nat) =>
      (region s1.part pa ∈ [.hbm, .pktBuf, .mac] → ∀ x, (x < pa ∨ pa + k ≤ x) → n.byte x = s.byte x)
      ∧ (region s1.part pa = .trie → pa % k = 0 → ∀ x, (x < 16 * (pa / 16) ∨ 16 * (pa / 16) + 16 ≤ x) → n.byte x = s.byte x)
    let stores := fun (k : Nat) (c : Instr) => va % k = 0 → exec c s = .next n →
      outside k ∧ (region s1.part pa ∈ [.hbm, .pktBuf, .mac] → n.bytes pa k = leBytes k (v % 2 ^ (8 * k)))
    (s.reachMem t va .load false = (.pa pa, s1) → region s1.part pa ≠ .lens →
      loads 1 (.ldbu t rd ra imm) ∧ loads 1 (.ldb t rd ra imm) ∧ loads 2 (.ldhu t rd ra imm) ∧ loads 2 (.ldh t rd ra imm)
      ∧ loads 4 (.ldwu t rd ra imm) ∧ loads 4 (.ldw t rd ra imm) ∧ loads 8 (.ldd t rd ra imm))
    ∧ (s.reachMem t va .store false = (.pa pa, s1) →
      stores 1 (.stb t rd ra imm) ∧ stores 2 (.sth t rd ra imm) ∧ stores 4 (.stw t rd ra imm) ∧ stores 8 (.std t rd ra imm))
    ∧ (s.reachMem t a .atomic false = (.pa pa, s1) → a % (if w32 then 4 else 8) = 0 →
      ∀ c ∈ [Instr.swap t rd ra rb w32, .cas t rd ra rb w32, .fadd t rd ra rb w32, .fand t rd ra rb w32, .fOr t rd ra rb w32,
        .fxor t rd ra rb w32, .fmin t rd ra rb w32, .fmax t rd ra rb w32, .fminu t rd ra rb w32, .fmaxu t rd ra rb w32],
      exec c s = .next n → outside (if w32 then 4 else 8))

/-- R40, R43, R45: a command that stores nothing leaves memory alone: every byte of memory and every poison mark is as before. The list holds
every instruction that computes, branches or submits nothing, and the commands of every other family that move no data. -/
def Obligations.MemoryUntouched : Prop :=
  ∀ (c : Instr) (s n : State), storesNothing c = true → exec c s = .next n →
    n.mem = s.mem ∧ n.poison = s.poison ∧ ∀ a, n.byte a = s.byte a
end

