-- ==== Sys2Proof/Laws/KMap.lean ====
section
/-!
SUPPORT. The sparse arrays: what a lookup answers after a write, and that every write keeps the canonical order.
-/

namespace Sys2Proof.KMap

variable {α : Type}

theorem find_put_self (m : KMap α) (k : Nat) (v : α) : find (put m k v) k = some v := by
  induction m with
  | nil => simp [put, find]
  | cons e r ih =>
    obtain ⟨k', v'⟩ := e
    by_cases h1 : k < k'
    · simp [put, find, h1]
    · by_cases h2 : k' = k
      · simp [put, find, h2]
      · simp [put, find, h1, h2, ih]

theorem find_put_ne (m : KMap α) {k j : Nat} (v : α) (h : j ≠ k) : find (put m k v) j = find m j := by
  have h' : ¬ k = j := fun e => h e.symm
  induction m with
  | nil => simp [put, find, h']
  | cons e r ih =>
    obtain ⟨k', v'⟩ := e
    by_cases h1 : k < k'
    · simp [put, find, h1, h']
    · by_cases h2 : k' = k
      · subst h2
        simp [put, find, h']
      · simp only [put, h1, h2, if_false, find, ih]

theorem find_del_self (m : KMap α) (k : Nat) : find (del m k) k = none := by
  induction m with
  | nil => rfl
  | cons e r ih =>
    obtain ⟨k', v'⟩ := e
    by_cases h : k' = k
    · simp [del, h, ih]
    · simp [del, find, h, ih]

theorem find_del_ne (m : KMap α) {k j : Nat} (h : j ≠ k) : find (del m k) j = find m j := by
  induction m with
  | nil => rfl
  | cons e r ih =>
    obtain ⟨k', v'⟩ := e
    by_cases h1 : k' = k
    · subst h1
      have h' : ¬ k' = j := fun e => h e.symm
      simp [del, find, h', ih]
    · simp only [del, h1, if_false, find, ih]

/-- A write is read back. -/
@[simp] theorem getD_setD_self [DecidableEq α] (m : KMap α) (k : Nat) (d v : α) : getD (setD m k d v) k d = v := by
  unfold setD getD
  by_cases h : v = d
  · rw [if_pos h, find_del_self]
    exact h.symm
  · rw [if_neg h, find_put_self]

/-- A write leaves every other key as it was. -/
theorem getD_setD_ne [DecidableEq α] (m : KMap α) {k j : Nat} (d v d' : α) (h : j ≠ k) :
    getD (setD m k d v) j d' = getD m j d' := by
  unfold setD getD
  by_cases e : v = d
  · rw [if_pos e, find_del_ne _ h]
  · rw [if_neg e, find_put_ne _ _ h]

theorem risesFrom_mono {a b : Nat} (h : a ≤ b) : ∀ {m : KMap α}, risesFrom b m = true → risesFrom a m = true
  | [], _ => rfl
  | (k, v) :: r, hr => by
    simp only [risesFrom, Bool.and_eq_true, decide_eq_true_eq] at hr ⊢
    exact ⟨Nat.lt_of_le_of_lt h hr.1, hr.2⟩

theorem risesFrom_put : ∀ {m : KMap α} {b k : Nat} (v : α), b < k → risesFrom b m = true → risesFrom b (put m k v) = true
  | [], b, k, v, h, _ => by simp [put, risesFrom, h]
  | (k', v') :: r, b, k, v, h, hr => by
    simp only [risesFrom, Bool.and_eq_true, decide_eq_true_eq] at hr
    by_cases h1 : k < k'
    · simp [put, risesFrom, h1, h, hr.2]
    · by_cases h2 : k' = k
      · subst h2
        simp [put, risesFrom, hr.1, hr.2]
      · have h3 : k' < k := Nat.lt_of_le_of_ne (Nat.not_lt.1 h1) h2
        simp [put, risesFrom, h1, h2, hr.1, risesFrom_put v h3 hr.2]

theorem risesFrom_del : ∀ {m : KMap α} {b : Nat} (k : Nat), risesFrom b m = true → risesFrom b (del m k) = true
  | [], _, _, _ => rfl
  | (k', v') :: r, b, k, hr => by
    simp only [risesFrom, Bool.and_eq_true, decide_eq_true_eq] at hr
    by_cases h : k' = k
    · subst h
      simp only [del, if_true]
      exact risesFrom_del k' (risesFrom_mono (Nat.le_of_lt hr.1) hr.2)
    · simp [del, h, risesFrom, hr.1, risesFrom_del k hr.2]

theorem sorted_of_risesFrom : ∀ {m : KMap α} {b : Nat}, risesFrom b m = true → sorted m = true
  | [], _, _ => rfl
  | (k, v) :: r, b, h => by
    simp only [risesFrom, Bool.and_eq_true, decide_eq_true_eq] at h
    exact h.2

theorem sorted_put (m : KMap α) (k : Nat) (v : α) (h : sorted m = true) : sorted (put m k v) = true := by
  match m, h with
  | [], _ => rfl
  | (k', v') :: r, h =>
    simp only [sorted] at h
    by_cases h1 : k < k'
    · simp [put, sorted, risesFrom, h1, h]
    · by_cases h2 : k' = k
      · subst h2
        simpa [put, sorted] using h
      · have h3 : k' < k := Nat.lt_of_le_of_ne (Nat.not_lt.1 h1) h2
        simp [put, sorted, h1, h2, risesFrom_put v h3 h]

theorem sorted_del (m : KMap α) (k : Nat) (h : sorted m = true) : sorted (del m k) = true := by
  match m, h with
  | [], _ => rfl
  | (k', v') :: r, h =>
    simp only [sorted] at h
    by_cases h1 : k' = k
    · subst h1
      simp only [del, if_true]
      exact sorted_of_risesFrom (risesFrom_del k' h)
    · simp [del, sorted, h1, risesFrom_del k h]

theorem all_put (p : Nat × α → Bool) (m : KMap α) (k : Nat) (v : α) (hp : p (k, v) = true) (h : m.all p = true) :
    (put m k v).all p = true := by
  induction m with
  | nil => simp [put, hp]
  | cons e r ih =>
    obtain ⟨k', v'⟩ := e
    simp only [List.all_cons, Bool.and_eq_true] at h
    unfold put
    split
    · simp only [List.all_cons, Bool.and_eq_true]
      exact ⟨hp, h.1, h.2⟩
    · split
      · simp only [List.all_cons, Bool.and_eq_true]
        exact ⟨hp, h.2⟩
      · simp only [List.all_cons, Bool.and_eq_true]
        exact ⟨h.1, ih h.2⟩

theorem all_del (p : Nat × α → Bool) (m : KMap α) (k : Nat) (h : m.all p = true) : (del m k).all p = true := by
  induction m with
  | nil => rfl
  | cons e r ih =>
    obtain ⟨k', v'⟩ := e
    simp only [List.all_cons, Bool.and_eq_true] at h
    unfold del
    split
    · exact ih h.2
    · simp only [List.all_cons, Bool.and_eq_true]
      exact ⟨h.1, ih h.2⟩

end Sys2Proof.KMap
end

