-- ==== Sys2Proof/Laws/State.lean ====
section
/-!
SUPPORT. What each update of the state leaves in each of its fields: one lemma per field per update, so that no proof unfolds a
record update.
-/

namespace Sys2Proof.Machine.State

@[simp] theorem wr_regs (s : State) (f : Fld) (i v : Nat) : (s.wr f i v).regs = KMap.setD s.regs (f.key i) (f.rst.at i) (v % 2 ^ f.w) := (rfl)
@[simp] theorem wr_halves (s : State) (f : Fld) (i v : Nat) : (s.wr f i v).halves = s.halves := (rfl)
@[simp] theorem wr_time (s : State) (f : Fld) (i v : Nat) : (s.wr f i v).time = s.time := (rfl)
@[simp] theorem wr_frac (s : State) (f : Fld) (i v : Nat) : (s.wr f i v).frac = s.frac := (rfl)
@[simp] theorem wr_part (s : State) (f : Fld) (i v : Nat) : (s.wr f i v).part = s.part := (rfl)
@[simp] theorem wr_mem (s : State) (f : Fld) (i v : Nat) : (s.wr f i v).mem = s.mem := (rfl)
@[simp] theorem wr_poison (s : State) (f : Fld) (i v : Nat) : (s.wr f i v).poison = s.poison := (rfl)
@[simp] theorem wr_ltn (s : State) (f : Fld) (i v : Nat) : (s.wr f i v).ltn = s.ltn := (rfl)
@[simp] theorem wr_jobs (s : State) (f : Fld) (i v : Nat) : (s.wr f i v).jobs = s.jobs := (rfl)
@[simp] theorem wr_nextJob (s : State) (f : Fld) (i v : Nat) : (s.wr f i v).nextJob = s.nextJob := (rfl)
@[simp] theorem wr_hif (s : State) (f : Fld) (i v : Nat) : (s.wr f i v).hif = s.hif := (rfl)
@[simp] theorem wr_qm (s : State) (f : Fld) (i v : Nat) : (s.wr f i v).qm = s.qm := (rfl)
@[simp] theorem wr_ethTx (s : State) (f : Fld) (i v : Nat) : (s.wr f i v).ethTx = s.ethTx := (rfl)
@[simp] theorem wr_reports (s : State) (f : Fld) (i v : Nat) : (s.wr f i v).reports = s.reports := (rfl)
@[simp] theorem wr_sec (s : State) (f : Fld) (i v : Nat) : (s.wr f i v).sec = s.sec := (rfl)
@[simp] theorem wr_lum (s : State) (f : Fld) (i v : Nat) : (s.wr f i v).lum = s.lum := (rfl)
@[simp] theorem wr_pb (s : State) (f : Fld) (i v : Nat) : (s.wr f i v).pb = s.pb := (rfl)
@[simp] theorem wr_prisms (s : State) (f : Fld) (i v : Nat) : (s.wr f i v).prisms = s.prisms := (rfl)
@[simp] theorem wr_fwd (s : State) (f : Fld) (i v : Nat) : (s.wr f i v).fwd = s.fwd := (rfl)
@[simp] theorem wr_tm (s : State) (f : Fld) (i v : Nat) : (s.wr f i v).tm = s.tm := (rfl)
@[simp] theorem wr_toGlint (s : State) (f : Fld) (i v : Nat) : (s.wr f i v).toGlint = s.toGlint := (rfl)
@[simp] theorem wr_fab (s : State) (f : Fld) (i v : Nat) : (s.wr f i v).fab = s.fab := (rfl)
@[simp] theorem wr_glint (s : State) (f : Fld) (i v : Nat) : (s.wr f i v).glint = s.glint := (rfl)
@[simp] theorem wr_nvm (s : State) (f : Fld) (i v : Nat) : (s.wr f i v).nvm = s.nvm := (rfl)
@[simp] theorem wr_lhs (s : State) (f : Fld) (i v : Nat) : (s.wr f i v).lhs = s.lhs := (rfl)
@[simp] theorem wr_pwr (s : State) (f : Fld) (i v : Nat) : (s.wr f i v).pwr = s.pwr := (rfl)
@[simp] theorem wr_free (s : State) (f : Fld) (i v : Nat) : (s.wr f i v).free = s.free := (rfl)
@[simp] theorem wr_drawn (s : State) (f : Fld) (i v : Nat) : (s.wr f i v).drawn = s.drawn := (rfl)
@[simp] theorem wr_out (s : State) (f : Fld) (i v : Nat) : (s.wr f i v).out = s.out := (rfl)
@[simp] theorem wr_pending (s : State) (f : Fld) (i v : Nat) : (s.wr f i v).pending = s.pending := (rfl)

@[simp] theorem setThr_regs (s : State) (t : Nat) (th : Thread) : (s.setThr t th).regs = s.regs := (rfl)
@[simp] theorem setThr_halves (s : State) (t : Nat) (th : Thread) : (s.setThr t th).halves = s.halves := (rfl)
@[simp] theorem setThr_time (s : State) (t : Nat) (th : Thread) : (s.setThr t th).time = s.time := (rfl)
@[simp] theorem setThr_frac (s : State) (t : Nat) (th : Thread) : (s.setThr t th).frac = s.frac := (rfl)
@[simp] theorem setThr_part (s : State) (t : Nat) (th : Thread) : (s.setThr t th).part = s.part := (rfl)
@[simp] theorem setThr_mem (s : State) (t : Nat) (th : Thread) : (s.setThr t th).mem = s.mem := (rfl)
@[simp] theorem setThr_poison (s : State) (t : Nat) (th : Thread) : (s.setThr t th).poison = s.poison := (rfl)
@[simp] theorem setThr_ltn (s : State) (t : Nat) (th : Thread) : (s.setThr t th).ltn = { s.ltn with threads := KMap.setD s.ltn.threads t Thread.fresh th } := (rfl)
@[simp] theorem setThr_jobs (s : State) (t : Nat) (th : Thread) : (s.setThr t th).jobs = s.jobs := (rfl)
@[simp] theorem setThr_nextJob (s : State) (t : Nat) (th : Thread) : (s.setThr t th).nextJob = s.nextJob := (rfl)
@[simp] theorem setThr_hif (s : State) (t : Nat) (th : Thread) : (s.setThr t th).hif = s.hif := (rfl)
@[simp] theorem setThr_qm (s : State) (t : Nat) (th : Thread) : (s.setThr t th).qm = s.qm := (rfl)
@[simp] theorem setThr_ethTx (s : State) (t : Nat) (th : Thread) : (s.setThr t th).ethTx = s.ethTx := (rfl)
@[simp] theorem setThr_reports (s : State) (t : Nat) (th : Thread) : (s.setThr t th).reports = s.reports := (rfl)
@[simp] theorem setThr_sec (s : State) (t : Nat) (th : Thread) : (s.setThr t th).sec = s.sec := (rfl)
@[simp] theorem setThr_lum (s : State) (t : Nat) (th : Thread) : (s.setThr t th).lum = s.lum := (rfl)
@[simp] theorem setThr_pb (s : State) (t : Nat) (th : Thread) : (s.setThr t th).pb = s.pb := (rfl)
@[simp] theorem setThr_prisms (s : State) (t : Nat) (th : Thread) : (s.setThr t th).prisms = s.prisms := (rfl)
@[simp] theorem setThr_fwd (s : State) (t : Nat) (th : Thread) : (s.setThr t th).fwd = s.fwd := (rfl)
@[simp] theorem setThr_tm (s : State) (t : Nat) (th : Thread) : (s.setThr t th).tm = s.tm := (rfl)
@[simp] theorem setThr_toGlint (s : State) (t : Nat) (th : Thread) : (s.setThr t th).toGlint = s.toGlint := (rfl)
@[simp] theorem setThr_fab (s : State) (t : Nat) (th : Thread) : (s.setThr t th).fab = s.fab := (rfl)
@[simp] theorem setThr_glint (s : State) (t : Nat) (th : Thread) : (s.setThr t th).glint = s.glint := (rfl)
@[simp] theorem setThr_nvm (s : State) (t : Nat) (th : Thread) : (s.setThr t th).nvm = s.nvm := (rfl)
@[simp] theorem setThr_lhs (s : State) (t : Nat) (th : Thread) : (s.setThr t th).lhs = s.lhs := (rfl)
@[simp] theorem setThr_pwr (s : State) (t : Nat) (th : Thread) : (s.setThr t th).pwr = s.pwr := (rfl)
@[simp] theorem setThr_free (s : State) (t : Nat) (th : Thread) : (s.setThr t th).free = s.free := (rfl)
@[simp] theorem setThr_drawn (s : State) (t : Nat) (th : Thread) : (s.setThr t th).drawn = s.drawn := (rfl)
@[simp] theorem setThr_out (s : State) (t : Nat) (th : Thread) : (s.setThr t th).out = s.out := (rfl)
@[simp] theorem setThr_pending (s : State) (t : Nat) (th : Thread) : (s.setThr t th).pending = s.pending := (rfl)

@[simp] theorem setCore_regs (s : State) (c : Nat) (k : Core) : (s.setCore c k).regs = s.regs := (rfl)
@[simp] theorem setCore_halves (s : State) (c : Nat) (k : Core) : (s.setCore c k).halves = s.halves := (rfl)
@[simp] theorem setCore_time (s : State) (c : Nat) (k : Core) : (s.setCore c k).time = s.time := (rfl)
@[simp] theorem setCore_frac (s : State) (c : Nat) (k : Core) : (s.setCore c k).frac = s.frac := (rfl)
@[simp] theorem setCore_part (s : State) (c : Nat) (k : Core) : (s.setCore c k).part = s.part := (rfl)
@[simp] theorem setCore_mem (s : State) (c : Nat) (k : Core) : (s.setCore c k).mem = s.mem := (rfl)
@[simp] theorem setCore_poison (s : State) (c : Nat) (k : Core) : (s.setCore c k).poison = s.poison := (rfl)
@[simp] theorem setCore_ltn (s : State) (c : Nat) (k : Core) : (s.setCore c k).ltn = { s.ltn with cores := KMap.setD s.ltn.cores c Core.fresh k } := (rfl)
@[simp] theorem setCore_jobs (s : State) (c : Nat) (k : Core) : (s.setCore c k).jobs = s.jobs := (rfl)
@[simp] theorem setCore_nextJob (s : State) (c : Nat) (k : Core) : (s.setCore c k).nextJob = s.nextJob := (rfl)
@[simp] theorem setCore_hif (s : State) (c : Nat) (k : Core) : (s.setCore c k).hif = s.hif := (rfl)
@[simp] theorem setCore_qm (s : State) (c : Nat) (k : Core) : (s.setCore c k).qm = s.qm := (rfl)
@[simp] theorem setCore_ethTx (s : State) (c : Nat) (k : Core) : (s.setCore c k).ethTx = s.ethTx := (rfl)
@[simp] theorem setCore_reports (s : State) (c : Nat) (k : Core) : (s.setCore c k).reports = s.reports := (rfl)
@[simp] theorem setCore_sec (s : State) (c : Nat) (k : Core) : (s.setCore c k).sec = s.sec := (rfl)
@[simp] theorem setCore_lum (s : State) (c : Nat) (k : Core) : (s.setCore c k).lum = s.lum := (rfl)
@[simp] theorem setCore_pb (s : State) (c : Nat) (k : Core) : (s.setCore c k).pb = s.pb := (rfl)
@[simp] theorem setCore_prisms (s : State) (c : Nat) (k : Core) : (s.setCore c k).prisms = s.prisms := (rfl)
@[simp] theorem setCore_fwd (s : State) (c : Nat) (k : Core) : (s.setCore c k).fwd = s.fwd := (rfl)
@[simp] theorem setCore_tm (s : State) (c : Nat) (k : Core) : (s.setCore c k).tm = s.tm := (rfl)
@[simp] theorem setCore_toGlint (s : State) (c : Nat) (k : Core) : (s.setCore c k).toGlint = s.toGlint := (rfl)
@[simp] theorem setCore_fab (s : State) (c : Nat) (k : Core) : (s.setCore c k).fab = s.fab := (rfl)
@[simp] theorem setCore_glint (s : State) (c : Nat) (k : Core) : (s.setCore c k).glint = s.glint := (rfl)
@[simp] theorem setCore_nvm (s : State) (c : Nat) (k : Core) : (s.setCore c k).nvm = s.nvm := (rfl)
@[simp] theorem setCore_lhs (s : State) (c : Nat) (k : Core) : (s.setCore c k).lhs = s.lhs := (rfl)
@[simp] theorem setCore_pwr (s : State) (c : Nat) (k : Core) : (s.setCore c k).pwr = s.pwr := (rfl)
@[simp] theorem setCore_free (s : State) (c : Nat) (k : Core) : (s.setCore c k).free = s.free := (rfl)
@[simp] theorem setCore_drawn (s : State) (c : Nat) (k : Core) : (s.setCore c k).drawn = s.drawn := (rfl)
@[simp] theorem setCore_out (s : State) (c : Nat) (k : Core) : (s.setCore c k).out = s.out := (rfl)
@[simp] theorem setCore_pending (s : State) (c : Nat) (k : Core) : (s.setCore c k).pending = s.pending := (rfl)

@[simp] theorem setSlots_regs (s : State) (c : Nat) (l : List Slot) : (s.setSlots c l).regs = s.regs := (rfl)
@[simp] theorem setSlots_halves (s : State) (c : Nat) (l : List Slot) : (s.setSlots c l).halves = s.halves := (rfl)
@[simp] theorem setSlots_time (s : State) (c : Nat) (l : List Slot) : (s.setSlots c l).time = s.time := (rfl)
@[simp] theorem setSlots_frac (s : State) (c : Nat) (l : List Slot) : (s.setSlots c l).frac = s.frac := (rfl)
@[simp] theorem setSlots_part (s : State) (c : Nat) (l : List Slot) : (s.setSlots c l).part = s.part := (rfl)
@[simp] theorem setSlots_mem (s : State) (c : Nat) (l : List Slot) : (s.setSlots c l).mem = s.mem := (rfl)
@[simp] theorem setSlots_poison (s : State) (c : Nat) (l : List Slot) : (s.setSlots c l).poison = s.poison := (rfl)
@[simp] theorem setSlots_ltn (s : State) (c : Nat) (l : List Slot) : (s.setSlots c l).ltn = { s.ltn with chans := KMap.setD s.ltn.chans c [] l } := (rfl)
@[simp] theorem setSlots_jobs (s : State) (c : Nat) (l : List Slot) : (s.setSlots c l).jobs = s.jobs := (rfl)
@[simp] theorem setSlots_nextJob (s : State) (c : Nat) (l : List Slot) : (s.setSlots c l).nextJob = s.nextJob := (rfl)
@[simp] theorem setSlots_hif (s : State) (c : Nat) (l : List Slot) : (s.setSlots c l).hif = s.hif := (rfl)
@[simp] theorem setSlots_qm (s : State) (c : Nat) (l : List Slot) : (s.setSlots c l).qm = s.qm := (rfl)
@[simp] theorem setSlots_ethTx (s : State) (c : Nat) (l : List Slot) : (s.setSlots c l).ethTx = s.ethTx := (rfl)
@[simp] theorem setSlots_reports (s : State) (c : Nat) (l : List Slot) : (s.setSlots c l).reports = s.reports := (rfl)
@[simp] theorem setSlots_sec (s : State) (c : Nat) (l : List Slot) : (s.setSlots c l).sec = s.sec := (rfl)
@[simp] theorem setSlots_lum (s : State) (c : Nat) (l : List Slot) : (s.setSlots c l).lum = s.lum := (rfl)
@[simp] theorem setSlots_pb (s : State) (c : Nat) (l : List Slot) : (s.setSlots c l).pb = s.pb := (rfl)
@[simp] theorem setSlots_prisms (s : State) (c : Nat) (l : List Slot) : (s.setSlots c l).prisms = s.prisms := (rfl)
@[simp] theorem setSlots_fwd (s : State) (c : Nat) (l : List Slot) : (s.setSlots c l).fwd = s.fwd := (rfl)
@[simp] theorem setSlots_tm (s : State) (c : Nat) (l : List Slot) : (s.setSlots c l).tm = s.tm := (rfl)
@[simp] theorem setSlots_toGlint (s : State) (c : Nat) (l : List Slot) : (s.setSlots c l).toGlint = s.toGlint := (rfl)
@[simp] theorem setSlots_fab (s : State) (c : Nat) (l : List Slot) : (s.setSlots c l).fab = s.fab := (rfl)
@[simp] theorem setSlots_glint (s : State) (c : Nat) (l : List Slot) : (s.setSlots c l).glint = s.glint := (rfl)
@[simp] theorem setSlots_nvm (s : State) (c : Nat) (l : List Slot) : (s.setSlots c l).nvm = s.nvm := (rfl)
@[simp] theorem setSlots_lhs (s : State) (c : Nat) (l : List Slot) : (s.setSlots c l).lhs = s.lhs := (rfl)
@[simp] theorem setSlots_pwr (s : State) (c : Nat) (l : List Slot) : (s.setSlots c l).pwr = s.pwr := (rfl)
@[simp] theorem setSlots_free (s : State) (c : Nat) (l : List Slot) : (s.setSlots c l).free = s.free := (rfl)
@[simp] theorem setSlots_drawn (s : State) (c : Nat) (l : List Slot) : (s.setSlots c l).drawn = s.drawn := (rfl)
@[simp] theorem setSlots_out (s : State) (c : Nat) (l : List Slot) : (s.setSlots c l).out = s.out := (rfl)
@[simp] theorem setSlots_pending (s : State) (c : Nat) (l : List Slot) : (s.setSlots c l).pending = s.pending := (rfl)

@[simp] theorem setByte_regs (s : State) (a : Nat) (b : Byte) : (s.setByte a b).regs = s.regs := (rfl)
@[simp] theorem setByte_halves (s : State) (a : Nat) (b : Byte) : (s.setByte a b).halves = s.halves := (rfl)
@[simp] theorem setByte_time (s : State) (a : Nat) (b : Byte) : (s.setByte a b).time = s.time := (rfl)
@[simp] theorem setByte_frac (s : State) (a : Nat) (b : Byte) : (s.setByte a b).frac = s.frac := (rfl)
@[simp] theorem setByte_part (s : State) (a : Nat) (b : Byte) : (s.setByte a b).part = s.part := (rfl)
@[simp] theorem setByte_mem (s : State) (a : Nat) (b : Byte) : (s.setByte a b).mem = KMap.setD s.mem a 0 b := (rfl)
@[simp] theorem setByte_poison (s : State) (a : Nat) (b : Byte) : (s.setByte a b).poison = s.poison := (rfl)
@[simp] theorem setByte_ltn (s : State) (a : Nat) (b : Byte) : (s.setByte a b).ltn = s.ltn := (rfl)
@[simp] theorem setByte_jobs (s : State) (a : Nat) (b : Byte) : (s.setByte a b).jobs = s.jobs := (rfl)
@[simp] theorem setByte_nextJob (s : State) (a : Nat) (b : Byte) : (s.setByte a b).nextJob = s.nextJob := (rfl)
@[simp] theorem setByte_hif (s : State) (a : Nat) (b : Byte) : (s.setByte a b).hif = s.hif := (rfl)
@[simp] theorem setByte_qm (s : State) (a : Nat) (b : Byte) : (s.setByte a b).qm = s.qm := (rfl)
@[simp] theorem setByte_ethTx (s : State) (a : Nat) (b : Byte) : (s.setByte a b).ethTx = s.ethTx := (rfl)
@[simp] theorem setByte_reports (s : State) (a : Nat) (b : Byte) : (s.setByte a b).reports = s.reports := (rfl)
@[simp] theorem setByte_sec (s : State) (a : Nat) (b : Byte) : (s.setByte a b).sec = s.sec := (rfl)
@[simp] theorem setByte_lum (s : State) (a : Nat) (b : Byte) : (s.setByte a b).lum = s.lum := (rfl)
@[simp] theorem setByte_pb (s : State) (a : Nat) (b : Byte) : (s.setByte a b).pb = s.pb := (rfl)
@[simp] theorem setByte_prisms (s : State) (a : Nat) (b : Byte) : (s.setByte a b).prisms = s.prisms := (rfl)
@[simp] theorem setByte_fwd (s : State) (a : Nat) (b : Byte) : (s.setByte a b).fwd = s.fwd := (rfl)
@[simp] theorem setByte_tm (s : State) (a : Nat) (b : Byte) : (s.setByte a b).tm = s.tm := (rfl)
@[simp] theorem setByte_toGlint (s : State) (a : Nat) (b : Byte) : (s.setByte a b).toGlint = s.toGlint := (rfl)
@[simp] theorem setByte_fab (s : State) (a : Nat) (b : Byte) : (s.setByte a b).fab = s.fab := (rfl)
@[simp] theorem setByte_glint (s : State) (a : Nat) (b : Byte) : (s.setByte a b).glint = s.glint := (rfl)
@[simp] theorem setByte_nvm (s : State) (a : Nat) (b : Byte) : (s.setByte a b).nvm = s.nvm := (rfl)
@[simp] theorem setByte_lhs (s : State) (a : Nat) (b : Byte) : (s.setByte a b).lhs = s.lhs := (rfl)
@[simp] theorem setByte_pwr (s : State) (a : Nat) (b : Byte) : (s.setByte a b).pwr = s.pwr := (rfl)
@[simp] theorem setByte_free (s : State) (a : Nat) (b : Byte) : (s.setByte a b).free = s.free := (rfl)
@[simp] theorem setByte_drawn (s : State) (a : Nat) (b : Byte) : (s.setByte a b).drawn = s.drawn := (rfl)
@[simp] theorem setByte_out (s : State) (a : Nat) (b : Byte) : (s.setByte a b).out = s.out := (rfl)
@[simp] theorem setByte_pending (s : State) (a : Nat) (b : Byte) : (s.setByte a b).pending = s.pending := (rfl)

@[simp] theorem setBad_regs (s : State) (a : Nat) (p : Bool) : (s.setBad a p).regs = s.regs := (rfl)
@[simp] theorem setBad_halves (s : State) (a : Nat) (p : Bool) : (s.setBad a p).halves = s.halves := (rfl)
@[simp] theorem setBad_time (s : State) (a : Nat) (p : Bool) : (s.setBad a p).time = s.time := (rfl)
@[simp] theorem setBad_frac (s : State) (a : Nat) (p : Bool) : (s.setBad a p).frac = s.frac := (rfl)
@[simp] theorem setBad_part (s : State) (a : Nat) (p : Bool) : (s.setBad a p).part = s.part := (rfl)
@[simp] theorem setBad_mem (s : State) (a : Nat) (p : Bool) : (s.setBad a p).mem = s.mem := (rfl)
@[simp] theorem setBad_poison (s : State) (a : Nat) (p : Bool) : (s.setBad a p).poison = KMap.setD s.poison (a / 8) false p := (rfl)
@[simp] theorem setBad_ltn (s : State) (a : Nat) (p : Bool) : (s.setBad a p).ltn = s.ltn := (rfl)
@[simp] theorem setBad_jobs (s : State) (a : Nat) (p : Bool) : (s.setBad a p).jobs = s.jobs := (rfl)
@[simp] theorem setBad_nextJob (s : State) (a : Nat) (p : Bool) : (s.setBad a p).nextJob = s.nextJob := (rfl)
@[simp] theorem setBad_hif (s : State) (a : Nat) (p : Bool) : (s.setBad a p).hif = s.hif := (rfl)
@[simp] theorem setBad_qm (s : State) (a : Nat) (p : Bool) : (s.setBad a p).qm = s.qm := (rfl)
@[simp] theorem setBad_ethTx (s : State) (a : Nat) (p : Bool) : (s.setBad a p).ethTx = s.ethTx := (rfl)
@[simp] theorem setBad_reports (s : State) (a : Nat) (p : Bool) : (s.setBad a p).reports = s.reports := (rfl)
@[simp] theorem setBad_sec (s : State) (a : Nat) (p : Bool) : (s.setBad a p).sec = s.sec := (rfl)
@[simp] theorem setBad_lum (s : State) (a : Nat) (p : Bool) : (s.setBad a p).lum = s.lum := (rfl)
@[simp] theorem setBad_pb (s : State) (a : Nat) (p : Bool) : (s.setBad a p).pb = s.pb := (rfl)
@[simp] theorem setBad_prisms (s : State) (a : Nat) (p : Bool) : (s.setBad a p).prisms = s.prisms := (rfl)
@[simp] theorem setBad_fwd (s : State) (a : Nat) (p : Bool) : (s.setBad a p).fwd = s.fwd := (rfl)
@[simp] theorem setBad_tm (s : State) (a : Nat) (p : Bool) : (s.setBad a p).tm = s.tm := (rfl)
@[simp] theorem setBad_toGlint (s : State) (a : Nat) (p : Bool) : (s.setBad a p).toGlint = s.toGlint := (rfl)
@[simp] theorem setBad_fab (s : State) (a : Nat) (p : Bool) : (s.setBad a p).fab = s.fab := (rfl)
@[simp] theorem setBad_glint (s : State) (a : Nat) (p : Bool) : (s.setBad a p).glint = s.glint := (rfl)
@[simp] theorem setBad_nvm (s : State) (a : Nat) (p : Bool) : (s.setBad a p).nvm = s.nvm := (rfl)
@[simp] theorem setBad_lhs (s : State) (a : Nat) (p : Bool) : (s.setBad a p).lhs = s.lhs := (rfl)
@[simp] theorem setBad_pwr (s : State) (a : Nat) (p : Bool) : (s.setBad a p).pwr = s.pwr := (rfl)
@[simp] theorem setBad_free (s : State) (a : Nat) (p : Bool) : (s.setBad a p).free = s.free := (rfl)
@[simp] theorem setBad_drawn (s : State) (a : Nat) (p : Bool) : (s.setBad a p).drawn = s.drawn := (rfl)
@[simp] theorem setBad_out (s : State) (a : Nat) (p : Bool) : (s.setBad a p).out = s.out := (rfl)
@[simp] theorem setBad_pending (s : State) (a : Nat) (p : Bool) : (s.setBad a p).pending = s.pending := (rfl)

@[simp] theorem emit_regs (s : State) (o : Out) : (s.emit o).regs = s.regs := (rfl)
@[simp] theorem emit_halves (s : State) (o : Out) : (s.emit o).halves = s.halves := (rfl)
@[simp] theorem emit_time (s : State) (o : Out) : (s.emit o).time = s.time := (rfl)
@[simp] theorem emit_frac (s : State) (o : Out) : (s.emit o).frac = s.frac := (rfl)
@[simp] theorem emit_part (s : State) (o : Out) : (s.emit o).part = s.part := (rfl)
@[simp] theorem emit_mem (s : State) (o : Out) : (s.emit o).mem = s.mem := (rfl)
@[simp] theorem emit_poison (s : State) (o : Out) : (s.emit o).poison = s.poison := (rfl)
@[simp] theorem emit_ltn (s : State) (o : Out) : (s.emit o).ltn = s.ltn := (rfl)
@[simp] theorem emit_jobs (s : State) (o : Out) : (s.emit o).jobs = s.jobs := (rfl)
@[simp] theorem emit_nextJob (s : State) (o : Out) : (s.emit o).nextJob = s.nextJob := (rfl)
@[simp] theorem emit_hif (s : State) (o : Out) : (s.emit o).hif = s.hif := (rfl)
@[simp] theorem emit_qm (s : State) (o : Out) : (s.emit o).qm = s.qm := (rfl)
@[simp] theorem emit_ethTx (s : State) (o : Out) : (s.emit o).ethTx = s.ethTx := (rfl)
@[simp] theorem emit_reports (s : State) (o : Out) : (s.emit o).reports = s.reports := (rfl)
@[simp] theorem emit_sec (s : State) (o : Out) : (s.emit o).sec = s.sec := (rfl)
@[simp] theorem emit_lum (s : State) (o : Out) : (s.emit o).lum = s.lum := (rfl)
@[simp] theorem emit_pb (s : State) (o : Out) : (s.emit o).pb = s.pb := (rfl)
@[simp] theorem emit_prisms (s : State) (o : Out) : (s.emit o).prisms = s.prisms := (rfl)
@[simp] theorem emit_fwd (s : State) (o : Out) : (s.emit o).fwd = s.fwd := (rfl)
@[simp] theorem emit_tm (s : State) (o : Out) : (s.emit o).tm = s.tm := (rfl)
@[simp] theorem emit_toGlint (s : State) (o : Out) : (s.emit o).toGlint = s.toGlint := (rfl)
@[simp] theorem emit_fab (s : State) (o : Out) : (s.emit o).fab = s.fab := (rfl)
@[simp] theorem emit_glint (s : State) (o : Out) : (s.emit o).glint = s.glint := (rfl)
@[simp] theorem emit_nvm (s : State) (o : Out) : (s.emit o).nvm = s.nvm := (rfl)
@[simp] theorem emit_lhs (s : State) (o : Out) : (s.emit o).lhs = s.lhs := (rfl)
@[simp] theorem emit_pwr (s : State) (o : Out) : (s.emit o).pwr = s.pwr := (rfl)
@[simp] theorem emit_free (s : State) (o : Out) : (s.emit o).free = s.free := (rfl)
@[simp] theorem emit_drawn (s : State) (o : Out) : (s.emit o).drawn = s.drawn := (rfl)
@[simp] theorem emit_out (s : State) (o : Out) : (s.emit o).out = s.out ++ [o] := (rfl)
@[simp] theorem emit_pending (s : State) (o : Out) : (s.emit o).pending = s.pending := (rfl)

@[simp] theorem report_regs (s : State) (u : Nat) (k : FKind) (l : Nat) : (s.report u k l).regs = s.regs := (rfl)
@[simp] theorem report_halves (s : State) (u : Nat) (k : FKind) (l : Nat) : (s.report u k l).halves = s.halves := (rfl)
@[simp] theorem report_time (s : State) (u : Nat) (k : FKind) (l : Nat) : (s.report u k l).time = s.time := (rfl)
@[simp] theorem report_frac (s : State) (u : Nat) (k : FKind) (l : Nat) : (s.report u k l).frac = s.frac := (rfl)
@[simp] theorem report_part (s : State) (u : Nat) (k : FKind) (l : Nat) : (s.report u k l).part = s.part := (rfl)
@[simp] theorem report_mem (s : State) (u : Nat) (k : FKind) (l : Nat) : (s.report u k l).mem = s.mem := (rfl)
@[simp] theorem report_poison (s : State) (u : Nat) (k : FKind) (l : Nat) : (s.report u k l).poison = s.poison := (rfl)
@[simp] theorem report_ltn (s : State) (u : Nat) (k : FKind) (l : Nat) : (s.report u k l).ltn = s.ltn := (rfl)
@[simp] theorem report_jobs (s : State) (u : Nat) (k : FKind) (l : Nat) : (s.report u k l).jobs = s.jobs := (rfl)
@[simp] theorem report_nextJob (s : State) (u : Nat) (k : FKind) (l : Nat) : (s.report u k l).nextJob = s.nextJob := (rfl)
@[simp] theorem report_hif (s : State) (u : Nat) (k : FKind) (l : Nat) : (s.report u k l).hif = s.hif := (rfl)
@[simp] theorem report_qm (s : State) (u : Nat) (k : FKind) (l : Nat) : (s.report u k l).qm = s.qm := (rfl)
@[simp] theorem report_ethTx (s : State) (u : Nat) (k : FKind) (l : Nat) : (s.report u k l).ethTx = s.ethTx := (rfl)
@[simp] theorem report_reports (s : State) (u : Nat) (k : FKind) (l : Nat) : (s.report u k l).reports = s.reports ++ [⟨u, k.code, l⟩] := (rfl)
@[simp] theorem report_sec (s : State) (u : Nat) (k : FKind) (l : Nat) : (s.report u k l).sec = s.sec := (rfl)
@[simp] theorem report_lum (s : State) (u : Nat) (k : FKind) (l : Nat) : (s.report u k l).lum = s.lum := (rfl)
@[simp] theorem report_pb (s : State) (u : Nat) (k : FKind) (l : Nat) : (s.report u k l).pb = s.pb := (rfl)
@[simp] theorem report_prisms (s : State) (u : Nat) (k : FKind) (l : Nat) : (s.report u k l).prisms = s.prisms := (rfl)
@[simp] theorem report_fwd (s : State) (u : Nat) (k : FKind) (l : Nat) : (s.report u k l).fwd = s.fwd := (rfl)
@[simp] theorem report_tm (s : State) (u : Nat) (k : FKind) (l : Nat) : (s.report u k l).tm = s.tm := (rfl)
@[simp] theorem report_toGlint (s : State) (u : Nat) (k : FKind) (l : Nat) : (s.report u k l).toGlint = s.toGlint := (rfl)
@[simp] theorem report_fab (s : State) (u : Nat) (k : FKind) (l : Nat) : (s.report u k l).fab = s.fab := (rfl)
@[simp] theorem report_glint (s : State) (u : Nat) (k : FKind) (l : Nat) : (s.report u k l).glint = s.glint := (rfl)
@[simp] theorem report_nvm (s : State) (u : Nat) (k : FKind) (l : Nat) : (s.report u k l).nvm = s.nvm := (rfl)
@[simp] theorem report_lhs (s : State) (u : Nat) (k : FKind) (l : Nat) : (s.report u k l).lhs = s.lhs := (rfl)
@[simp] theorem report_pwr (s : State) (u : Nat) (k : FKind) (l : Nat) : (s.report u k l).pwr = s.pwr := (rfl)
@[simp] theorem report_free (s : State) (u : Nat) (k : FKind) (l : Nat) : (s.report u k l).free = s.free := (rfl)
@[simp] theorem report_drawn (s : State) (u : Nat) (k : FKind) (l : Nat) : (s.report u k l).drawn = s.drawn := (rfl)
@[simp] theorem report_out (s : State) (u : Nat) (k : FKind) (l : Nat) : (s.report u k l).out = s.out := (rfl)
@[simp] theorem report_pending (s : State) (u : Nat) (k : FKind) (l : Nat) : (s.report u k l).pending = s.pending := (rfl)

@[simp] theorem draw_regs (s : State) : s.draw.2.regs = s.regs := (rfl)
@[simp] theorem draw_halves (s : State) : s.draw.2.halves = s.halves := (rfl)
@[simp] theorem draw_time (s : State) : s.draw.2.time = s.time := (rfl)
@[simp] theorem draw_frac (s : State) : s.draw.2.frac = s.frac := (rfl)
@[simp] theorem draw_part (s : State) : s.draw.2.part = s.part := (rfl)
@[simp] theorem draw_mem (s : State) : s.draw.2.mem = s.mem := (rfl)
@[simp] theorem draw_poison (s : State) : s.draw.2.poison = s.poison := (rfl)
@[simp] theorem draw_ltn (s : State) : s.draw.2.ltn = s.ltn := (rfl)
@[simp] theorem draw_jobs (s : State) : s.draw.2.jobs = s.jobs := (rfl)
@[simp] theorem draw_nextJob (s : State) : s.draw.2.nextJob = s.nextJob := (rfl)
@[simp] theorem draw_hif (s : State) : s.draw.2.hif = s.hif := (rfl)
@[simp] theorem draw_qm (s : State) : s.draw.2.qm = s.qm := (rfl)
@[simp] theorem draw_ethTx (s : State) : s.draw.2.ethTx = s.ethTx := (rfl)
@[simp] theorem draw_reports (s : State) : s.draw.2.reports = s.reports := (rfl)
@[simp] theorem draw_sec (s : State) : s.draw.2.sec = s.sec := (rfl)
@[simp] theorem draw_lum (s : State) : s.draw.2.lum = s.lum := (rfl)
@[simp] theorem draw_pb (s : State) : s.draw.2.pb = s.pb := (rfl)
@[simp] theorem draw_prisms (s : State) : s.draw.2.prisms = s.prisms := (rfl)
@[simp] theorem draw_fwd (s : State) : s.draw.2.fwd = s.fwd := (rfl)
@[simp] theorem draw_tm (s : State) : s.draw.2.tm = s.tm := (rfl)
@[simp] theorem draw_toGlint (s : State) : s.draw.2.toGlint = s.toGlint := (rfl)
@[simp] theorem draw_fab (s : State) : s.draw.2.fab = s.fab := (rfl)
@[simp] theorem draw_glint (s : State) : s.draw.2.glint = s.glint := (rfl)
@[simp] theorem draw_nvm (s : State) : s.draw.2.nvm = s.nvm := (rfl)
@[simp] theorem draw_lhs (s : State) : s.draw.2.lhs = s.lhs := (rfl)
@[simp] theorem draw_pwr (s : State) : s.draw.2.pwr = s.pwr := (rfl)
@[simp] theorem draw_free (s : State) : s.draw.2.free = s.free + 1 := (rfl)
@[simp] theorem draw_drawn (s : State) : s.draw.2.drawn = s.drawn := (rfl)
@[simp] theorem draw_out (s : State) : s.draw.2.out = s.out := (rfl)
@[simp] theorem draw_pending (s : State) : s.draw.2.pending = s.pending := (rfl)

@[simp] theorem drbg_regs (s : State) (n : Nat) : (s.drbg n).2.regs = s.regs := (rfl)
@[simp] theorem drbg_halves (s : State) (n : Nat) : (s.drbg n).2.halves = s.halves := (rfl)
@[simp] theorem drbg_time (s : State) (n : Nat) : (s.drbg n).2.time = s.time := (rfl)
@[simp] theorem drbg_frac (s : State) (n : Nat) : (s.drbg n).2.frac = s.frac := (rfl)
@[simp] theorem drbg_part (s : State) (n : Nat) : (s.drbg n).2.part = s.part := (rfl)
@[simp] theorem drbg_mem (s : State) (n : Nat) : (s.drbg n).2.mem = s.mem := (rfl)
@[simp] theorem drbg_poison (s : State) (n : Nat) : (s.drbg n).2.poison = s.poison := (rfl)
@[simp] theorem drbg_ltn (s : State) (n : Nat) : (s.drbg n).2.ltn = s.ltn := (rfl)
@[simp] theorem drbg_jobs (s : State) (n : Nat) : (s.drbg n).2.jobs = s.jobs := (rfl)
@[simp] theorem drbg_nextJob (s : State) (n : Nat) : (s.drbg n).2.nextJob = s.nextJob := (rfl)
@[simp] theorem drbg_hif (s : State) (n : Nat) : (s.drbg n).2.hif = s.hif := (rfl)
@[simp] theorem drbg_qm (s : State) (n : Nat) : (s.drbg n).2.qm = s.qm := (rfl)
@[simp] theorem drbg_ethTx (s : State) (n : Nat) : (s.drbg n).2.ethTx = s.ethTx := (rfl)
@[simp] theorem drbg_reports (s : State) (n : Nat) : (s.drbg n).2.reports = s.reports := (rfl)
@[simp] theorem drbg_sec (s : State) (n : Nat) : (s.drbg n).2.sec = s.sec := (rfl)
@[simp] theorem drbg_lum (s : State) (n : Nat) : (s.drbg n).2.lum = s.lum := (rfl)
@[simp] theorem drbg_pb (s : State) (n : Nat) : (s.drbg n).2.pb = s.pb := (rfl)
@[simp] theorem drbg_prisms (s : State) (n : Nat) : (s.drbg n).2.prisms = s.prisms := (rfl)
@[simp] theorem drbg_fwd (s : State) (n : Nat) : (s.drbg n).2.fwd = s.fwd := (rfl)
@[simp] theorem drbg_tm (s : State) (n : Nat) : (s.drbg n).2.tm = s.tm := (rfl)
@[simp] theorem drbg_toGlint (s : State) (n : Nat) : (s.drbg n).2.toGlint = s.toGlint := (rfl)
@[simp] theorem drbg_fab (s : State) (n : Nat) : (s.drbg n).2.fab = s.fab := (rfl)
@[simp] theorem drbg_glint (s : State) (n : Nat) : (s.drbg n).2.glint = s.glint := (rfl)
@[simp] theorem drbg_nvm (s : State) (n : Nat) : (s.drbg n).2.nvm = s.nvm := (rfl)
@[simp] theorem drbg_lhs (s : State) (n : Nat) : (s.drbg n).2.lhs = s.lhs := (rfl)
@[simp] theorem drbg_pwr (s : State) (n : Nat) : (s.drbg n).2.pwr = s.pwr := (rfl)
@[simp] theorem drbg_free (s : State) (n : Nat) : (s.drbg n).2.free = s.free := (rfl)
@[simp] theorem drbg_drawn (s : State) (n : Nat) : (s.drbg n).2.drawn = s.drawn + n := (rfl)
@[simp] theorem drbg_out (s : State) (n : Nat) : (s.drbg n).2.out = s.out := (rfl)
@[simp] theorem drbg_pending (s : State) (n : Nat) : (s.drbg n).2.pending = s.pending := (rfl)

@[simp] theorem after_regs (s n : State) : (s.after n).regs = n.regs := (rfl)
@[simp] theorem after_halves (s n : State) : (s.after n).halves = n.halves := (rfl)
@[simp] theorem after_time (s n : State) : (s.after n).time = if n.pwr.boot = .held then 0 else s.time := by
  simp [State.after]
@[simp] theorem after_frac (s n : State) : (s.after n).frac = if n.pwr.boot = .held then 0 else s.frac := by
  simp [State.after]
@[simp] theorem after_part (s n : State) : (s.after n).part = s.part := (rfl)
@[simp] theorem after_mem (s n : State) : (s.after n).mem = n.mem := (rfl)
@[simp] theorem after_poison (s n : State) : (s.after n).poison = n.poison := (rfl)
@[simp] theorem after_ltn (s n : State) : (s.after n).ltn = n.ltn := (rfl)
@[simp] theorem after_jobs (s n : State) : (s.after n).jobs = n.jobs := (rfl)
@[simp] theorem after_nextJob (s n : State) : (s.after n).nextJob = n.nextJob := (rfl)
@[simp] theorem after_hif (s n : State) : (s.after n).hif = n.hif := (rfl)
@[simp] theorem after_qm (s n : State) : (s.after n).qm = n.qm := (rfl)
@[simp] theorem after_ethTx (s n : State) : (s.after n).ethTx = n.ethTx := (rfl)
@[simp] theorem after_reports (s n : State) : (s.after n).reports = n.reports := (rfl)
@[simp] theorem after_sec (s n : State) : (s.after n).sec = n.sec := (rfl)
@[simp] theorem after_lum (s n : State) : (s.after n).lum = n.lum := (rfl)
@[simp] theorem after_pb (s n : State) : (s.after n).pb = n.pb := (rfl)
@[simp] theorem after_prisms (s n : State) : (s.after n).prisms = n.prisms := (rfl)
@[simp] theorem after_fwd (s n : State) : (s.after n).fwd = n.fwd := (rfl)
@[simp] theorem after_tm (s n : State) : (s.after n).tm = n.tm := (rfl)
@[simp] theorem after_toGlint (s n : State) : (s.after n).toGlint = n.toGlint := (rfl)
@[simp] theorem after_fab (s n : State) : (s.after n).fab = n.fab := (rfl)
@[simp] theorem after_glint (s n : State) : (s.after n).glint = n.glint := (rfl)
@[simp] theorem after_nvm (s n : State) : (s.after n).nvm = n.nvm := (rfl)
@[simp] theorem after_lhs (s n : State) : (s.after n).lhs = n.lhs := (rfl)
@[simp] theorem after_pwr (s n : State) : (s.after n).pwr = n.pwr := (rfl)
@[simp] theorem after_free (s n : State) : (s.after n).free = n.free := (rfl)
@[simp] theorem after_drawn (s n : State) : (s.after n).drawn = n.drawn := (rfl)
@[simp] theorem after_out (s n : State) : (s.after n).out = n.out := (rfl)
@[simp] theorem after_pending (s n : State) : (s.after n).pending = s.pending := (rfl)

end Sys2Proof.Machine.State
end

