-- ==== Sys2Proof/Laws/Frame.lean ====
section
/-!
SUPPORT. What the shared operations leave unchanged: registers, threads, the delivery of events, counting and retirement.
-/

namespace Sys2Proof.Machine

/-! ### Registers and threads -/

theorem Fld.key_ne {f g : Fld} {i j : Nat} (hi : i < 2 ^ 20) (hj : j < 2 ^ 20) (h : g.id ≠ f.id) : f.key i ≠ g.key j := by
  unfold Fld.key
  omega

@[simp] theorem State.rd_wr_self (s : State) (f : Fld) (i v : Nat) : (s.wr f i v).rd f i = v % 2 ^ f.w := by
  simp [State.rd]

theorem State.rd_wr_ne (s : State) {f g : Fld} {i j : Nat} (v : Nat) (hi : i < 2 ^ 20) (hj : j < 2 ^ 20) (h : g.id ≠ f.id) :
    (s.wr g j v).rd f i = s.rd f i := by
  simp only [State.rd, State.wr_regs]
  exact KMap.getD_setD_ne _ _ _ _ (Fld.key_ne hi hj h)

theorem State.rd_of_regs {s n : State} (h : n.regs = s.regs) (f : Fld) (i : Nat) : n.rd f i = s.rd f i := by
  rw [State.rd, State.rd, h]

theorem State.thr_of_threads {s n : State} (h : n.ltn.threads = s.ltn.threads) (t : Nat) : n.thr t = s.thr t := by
  rw [State.thr, State.thr, h]

@[simp] theorem State.thr_wr (s : State) (f : Fld) (i v t : Nat) : (s.wr f i v).thr t = s.thr t := rfl

@[simp] theorem State.thr_setCore (s : State) (c t : Nat) (k : Core) : (s.setCore c k).thr t = s.thr t := rfl

@[simp] theorem State.thr_setThr_self (s : State) (t : Nat) (th : Thread) : (s.setThr t th).thr t = th := by
  simp [State.thr]

theorem State.thr_setThr_ne (s : State) {t u : Nat} (th : Thread) (h : u ≠ t) : (s.setThr t th).thr u = s.thr u := by
  simp only [State.thr, State.setThr_ltn]
  exact KMap.getD_setD_ne _ _ _ _ h

/-! ### The relations of frames -/

theorem State.SameOutside.rfl' (s : State) : s.SameOutside s := rfl

theorem State.SameOutside.trans {s m n : State} (a : s.SameOutside m) (b : m.SameOutside n) : s.SameOutside n := by
  unfold State.SameOutside at *
  rw [← b] at a
  exact a

theorem State.SameOutside.mem {s n : State} (a : s.SameOutside n) : n.mem = s.mem := by
  rw [← a]

theorem State.SameOutside.poison {s n : State} (a : s.SameOutside n) : n.poison = s.poison := by
  rw [← a]

theorem State.SameOutside.part {s n : State} (a : s.SameOutside n) : n.part = s.part := by
  rw [← a]

theorem State.SameOutside.pending {s n : State} (a : s.SameOutside n) : n.pending = s.pending := by
  rw [← a]

theorem State.SameOutside.pwr {s n : State} (a : s.SameOutside n) : n.pwr = s.pwr := by
  rw [← a]

theorem State.KeepsFields.rfl' (s : State) (l : List Fld) : s.KeepsFields l s := fun _ _ _ _ => rfl

theorem State.KeepsFields.trans {s m n : State} {l : List Fld} (a : s.KeepsFields l m) (b : m.KeepsFields l n) :
    s.KeepsFields l n := fun f i hi h => (b f i hi h).trans (a f i hi h)

theorem State.KeepsFields.mono {s n : State} {l k : List Fld} (a : s.KeepsFields l n) (h : ∀ f ∈ l, f ∈ k) : s.KeepsFields k n :=
  fun f i hi g => a f i hi fun x hx => g x (h x hx)

theorem State.keeps_wr (s : State) {l : List Fld} {f : Fld} {i : Nat} (v : Nat) (hf : f ∈ l) (hi : i < 2 ^ 20) :
    s.KeepsFields l (s.wr f i v) := fun _ _ hj h => s.rd_wr_ne v hj hi (h f hf)

theorem State.Quiet.rfl' (s : State) : s.Quiet s :=
  ⟨rfl, rfl, rfl, rfl, fun _ _ => rfl, .rfl' s _⟩

theorem State.Quiet.trans {s m n : State} (a : s.Quiet m) (b : m.Quiet n) : s.Quiet n := by
  obtain ⟨a1, a2, a3, a4, a5, a6⟩ := a
  obtain ⟨b1, b2, b3, b4, b5, b6⟩ := b
  refine ⟨a1.trans b1, ?_, b3.trans a3, b4.trans a4, fun u h => ?_, a6.trans b6⟩
  · rw [← b2] at a2
    exact a2
  · have e := a5 u h
    exact (b5 u (by rw [e]; exact h)).trans e

/-- A list of quiet operations, one after another, is quiet. -/
theorem State.Quiet.foldl {α : Type} {f : State → α → State} {l : List α}
    (h : ∀ s : State, ∀ x ∈ l, s.Quiet (f s x)) : ∀ s : State, s.Quiet (l.foldl f s) := by
  induction l with
  | nil => exact fun s => .rfl' s
  | cons x r ih =>
    intro s
    exact (h s x (by simp)).trans (ih (fun s y hy => h s y (by simp [hy])) (f s x))

theorem State.quiet_wr (s : State) {f : Fld} {i : Nat} (v : Nat) (hf : f ∈ eventFields) (hi : i < 2 ^ 20) : s.Quiet (s.wr f i v) :=
  ⟨rfl, rfl, rfl, rfl, fun _ _ => rfl, s.keeps_wr v hf hi⟩

theorem State.quiet_wrs {l : List (Fld × Nat)} {i : Nat} (hl : ∀ p ∈ l, p.1 ∈ eventFields) (hi : i < 2 ^ 20) (s : State) :
    s.Quiet (s.wrs i l) :=
  State.Quiet.foldl (fun s p hp => s.quiet_wr p.2 (hl p hp) hi) s

/-! ### Events (R78, R84, R85, R114, R118) -/

theorem State.quiet_settleCore (s : State) {c : Nat} (h : c < 2 ^ 20) : s.Quiet (s.settleCore c) := by
  unfold State.settleCore
  split
  · exact s.quiet_wr _ (by simp [eventFields]) h
  · exact s.quiet_wrs (by simp [eventFields]) h

theorem State.quiet_settleGroup (s : State) {x : Nat} (h : x < 2 ^ 20) : s.Quiet (s.settleGroup x) := by
  unfold State.settleGroup
  split
  · exact s.quiet_wr _ (by simp [eventFields]) h
  · exact s.quiet_wrs (by simp [eventFields]) h

theorem State.quiet_settle (s : State) {t : Nat} (h : t < 2 ^ 20) : s.Quiet (s.settle t) := by
  unfold State.settle
  refine (s.quiet_settleCore (by unfold coreOf; omega)).trans (State.Quiet.foldl (fun s x hx => s.quiet_settleGroup ?_) _)
  simp only [List.mem_map, List.mem_range] at hx
  obtain ⟨g, hg, rfl⟩ := hx
  have : clusterOf t = t / 64 := rfl
  omega

theorem State.quiet_setThr_wait (s : State) {t : Nat} (th : Thread) (h : (s.thr t).st = .wait) : s.Quiet (s.setThr t th) :=
  ⟨rfl, rfl, rfl, rfl, fun _ hu => s.thr_setThr_ne th fun e => hu (e ▸ h), fun _ _ _ _ => rfl⟩

theorem State.quiet_resumeWait (s : State) {t : Nat} (h : t < 2 ^ 20) : s.Quiet (s.resumeWait t) := by
  unfold State.resumeWait
  dsimp only
  split
  · next g =>
    refine ((s.quiet_wr _ (by simp [eventFields]) h).trans (State.quiet_wr _ _ (by simp [eventFields]) h)).trans
      (State.quiet_setThr_wait _ _ ?_)
    exact g.1
  · exact .rfl' s

/-- What the arrival of events at one thread can do (R78). -/
theorem State.quiet_latchSet (s : State) {t : Nat} (m : Nat) (h : t < 2 ^ 20) : s.Quiet (s.latchSet t m) := by
  unfold State.latchSet
  split
  · exact ⟨rfl, rfl, rfl, rfl, fun _ _ => rfl, fun _ _ _ _ => rfl⟩
  · exact (((s.quiet_wr _ (by simp [eventFields]) h).trans (State.quiet_wr _ _ (by simp [eventFields]) h)).trans
      (State.quiet_resumeWait _ h)).trans (State.quiet_settle _ h)

theorem addOnce_mem {α : Type} [DecidableEq α] {x y : α} {l : List α} (h : y ∈ addOnce x l) : y = x ∨ y ∈ l := by
  unfold addOnce at h
  split at h
  · exact .inr h
  · simpa [or_comm] using h

theorem threadsOf_mem {l : List (Nat × Nat)} {t : Nat} (h : t ∈ threadsOf l) : ∃ e ∈ l, e.1 = t := by
  have key : ∀ (l : List (Nat × Nat)) (ts : List Nat), t ∈ l.foldl (fun ts e => addOnce e.1 ts) ts →
      t ∈ ts ∨ ∃ e ∈ l, e.1 = t := by
    intro l
    induction l with
    | nil => exact fun ts h => .inl h
    | cons e r ih =>
      intro ts h
      rcases ih _ h with g | ⟨x, hx, rfl⟩
      · rcases addOnce_mem g with rfl | g
        · exact .inr ⟨e, by simp, rfl⟩
        · exact .inl g
      · exact .inr ⟨x, by simp [hx], rfl⟩
  rcases key l [] h with g | g
  · cases g
  · exact g

theorem State.quiet_latchAll (s : State) {l : List (Nat × Nat)} (h : ∀ e ∈ l, e.1 < 2 ^ 20) : s.Quiet (s.latchAll l) := by
  unfold State.latchAll
  refine State.Quiet.foldl (fun s t ht => s.quiet_latchSet _ ?_) s
  obtain ⟨e, he, rfl⟩ := threadsOf_mem ht
  exact h e he

theorem State.boundTo_lt (s : State) {ty id : Nat} {e : Nat × Nat} (h : e ∈ s.boundTo ty id) : e.1 < 768 := by
  unfold State.boundTo at h
  simp only [List.mem_map, List.mem_filter, decide_eq_true_eq] at h
  obtain ⟨i, ⟨⟨x, ⟨_, hx⟩, rfl⟩, _⟩, rfl⟩ := h
  omega

/-- What a source that fires can do (R78, R80). -/
theorem State.quiet_fire (s : State) (ty id : Nat) : s.Quiet (s.fire ty id) :=
  s.quiet_latchAll fun _ he => Nat.lt_trans (s.boundTo_lt he) (by decide)

theorem State.quiet_fireChannel (s : State) (c : Nat) : s.Quiet (s.fireChannel c) :=
  s.quiet_latchAll fun _ he => Nat.lt_trans (s.boundTo_lt (List.mem_filter.1 he).1) (by decide)

/-! ### Counting (R629 to R633, R642) -/

theorem State.quiet_setSat (s : State) {b c : Nat} (h : 8 * b + c < 2 ^ 20) : s.Quiet (s.setSat b c) := by
  unfold State.setSat
  dsimp only
  split
  · exact .rfl' s
  · have q := s.quiet_wr (f := R.LUM_VAL_SAT) (i := ctrIx b c) 1 (by simp [eventFields]) h
    split
    · exact q.trans (State.quiet_fire _ _ _)
    · exact q

theorem State.quiet_addCtr (s : State) {b c : Nat} (n : Nat) (h : 8 * b + c + 1 < 2 ^ 20) : s.Quiet (s.addCtr b c n) := by
  have w : ∀ (s : State) (v : Nat), s.Quiet (s.wr R.LUM_VAL_VALUE (ctrIx b c) v) :=
    fun s v => s.quiet_wr v (by simp [eventFields]) (by unfold ctrIx; omega)
  have w' : ∀ (s : State) (v : Nat), s.Quiet (s.wr R.LUM_VAL_VALUE (ctrIx b (c + 1)) v) :=
    fun s v => s.quiet_wr v (by simp [eventFields]) (by unfold ctrIx; omega)
  have q : ∀ s : State, s.Quiet (s.setSat b c) := fun s => s.quiet_setSat (by omega)
  have q' : ∀ s : State, s.Quiet (s.setSat b (c + 1)) := fun s => s.quiet_setSat (by omega)
  unfold State.addCtr
  dsimp only
  split
  · exact .rfl' s
  split
  · split
    · exact (w s _).trans (q _)
    · exact w s _
  split
  · exact w s _
  split
  · exact ((w s _).trans (q _)).trans (q' _)
  split
  · exact (((w s _).trans (w' _ _)).trans (State.quiet_wr _ _ (by simp [eventFields]) (by omega))).trans (State.quiet_fire _ _ _)
  · exact (w s _).trans (w' _ _)

/-- What counting in a block can do (R629). -/
theorem State.quiet_countIf (s : State) {b : Nat} (n : Nat) (p : State → Nat → Bool) (h : b < 2 ^ 16) : s.Quiet (s.countIf b n p) := by
  unfold State.countIf
  refine State.Quiet.foldl (fun s c hc => ?_) s
  have hc' : c < 8 := List.mem_range.1 hc
  split
  · exact s.quiet_addCtr n (by omega)
  · exact .rfl' s

theorem State.quiet_count (s : State) {b : Nat} (e n : Nat) (h : b < 2 ^ 16) : s.Quiet (s.count b e n) :=
  s.quiet_countIf n _ h

theorem State.quiet_countSub (s : State) {b : Nat} (e i n : Nat) (h : b < 2 ^ 16) : s.Quiet (s.countSub b e i n) :=
  s.quiet_countIf n _ h

theorem State.quiet_countThr (s : State) {t : Nat} (e n : Nat) (h : t < 2 ^ 20) : s.Quiet (s.countThr t e n) :=
  s.quiet_countIf n _ (by unfold clusterOf; omega)

/-! ### Retirement (R122, R186, R190) -/

@[simp] theorem Thread.greg_setG_self (th : Thread) {r : Reg5} (v : Word) (h : r ≠ 0) : (th.setG r v).greg r = v := by
  have e : (th.g.set r v).get r = v := by
    change (th.g.set r v)[r.val] = v
    simp
  simp [Thread.setG, Thread.greg, h, e]

theorem Thread.greg_setG_ne (th : Thread) {r q : Reg5} (v : Word) (h : q ≠ r) : (th.setG r v).greg q = th.greg q := by
  unfold Thread.setG
  split
  · rfl
  · have e : r.val ≠ q.val := fun e => h (Fin.ext e.symm)
    have e2 : (th.g.set r v).get q = th.g.get q := by
      change (th.g.set r v)[q.val] = th.g[q.val]
      simp [e]
    simp [Thread.greg, e2]

/-- A thread in RUN on which no event acts: what the issue of an instruction starts from. -/
theorem State.Ready.lt {s : State} {t : Nat} (h : s.Ready t) : t < 768 := by
  have := h.1
  simp only [State.canIssue, Bool.and_eq_true, decide_eq_true_eq] at this
  exact this.1.1.1.1

theorem State.Ready.run {s : State} {t : Nat} (h : s.Ready t) : (s.thr t).st = .run := by
  have := h.1
  simp only [State.canIssue, Bool.and_eq_true, beq_iff_eq] at this
  exact this.1.1.1.2

/-- An instruction that issues runs its own effect. -/
theorem State.Ready.issue {s : State} {t : Nat} (h : s.Ready t) (k : State → State) : s.issue t k = k s := by
  unfold State.issue
  rw [if_pos h.1, h.2]

/-- What the end of a debug STEP can do (R122). -/
theorem State.haltThread_frame (s : State) {t : Nat} (cause : Nat) (h : t < 768) :
    let n := s.haltThread t cause
    s.SameOutside n ∧ { n.ltn with threads := s.ltn.threads, heldEv := s.ltn.heldEv, cores := s.ltn.cores } = s.ltn
      ∧ (∀ u, u ≠ t → (s.thr u).st ≠ .wait → n.thr u = s.thr u)
      ∧ n.thr t = { s.thr t with st := .halt, stepping := false, blk := none, lens := none, lensIn := [] }
      ∧ n.time = s.time ∧ n.frac = s.frac
      ∧ s.KeepsFields (eventFields ++ stepFields) n := by
  have h2 : t < 2 ^ 20 := by omega
  have hc : coreOf t < 2 ^ 20 := by unfold coreOf; omega
  unfold State.haltThread
  dsimp only
  generalize e1 : s.modThr t (fun th => { th with st := .halt, stepping := false, blk := none, lens := none, lensIn := [] }) = s1
  generalize e2 : (s1.wr R.LTN_THR_CTL_DBG_CAUSE t cause).wr R.LTN_THR_WAITMASK_MASK t 0 = s2
  generalize e3 : s2.wr R.LTN_DBG_CTL_HALT_REQ (coreOf t) _ = s3
  generalize e4 : (if slotOf t = 0 ∧ s3.flag R.LTN_DBG_CTL_HB_PAUSE_ON_HALT (coreOf t) = true then
    s3.modCore (coreOf t) (fun k => { k with hbStart := none }) else s3) = s4
  have k3 : s.KeepsFields (eventFields ++ stepFields) s3 := by
    have a1 : s.KeepsFields (eventFields ++ stepFields) s1 := by
      subst e1
      exact fun _ _ _ _ => rfl
    have a2 : s1.KeepsFields (eventFields ++ stepFields) s2 := by
      subst e2
      exact (s1.keeps_wr _ (by simp [eventFields, stepFields]) h2).trans (State.keeps_wr _ _ (by simp [eventFields]) h2)
    subst e3
    exact (a1.trans a2).trans (State.keeps_wr _ _ (by simp [eventFields, stepFields]) hc)
  have k4 : s3.SameOutside s4 ∧ { s4.ltn with cores := s3.ltn.cores } = s3.ltn ∧ s4.time = s3.time ∧ s4.frac = s3.frac
      ∧ s3.KeepsFields [] s4 := by
    subst e4
    split
    · exact ⟨rfl, rfl, rfl, rfl, fun _ _ _ _ => rfl⟩
    · exact ⟨rfl, rfl, rfl, rfl, fun _ _ _ _ => rfl⟩
  have o3 : s.SameOutside s3 ∧ { s3.ltn with threads := s.ltn.threads } = s.ltn ∧ s3.time = s.time ∧ s3.frac = s.frac
      ∧ s3.ltn.threads = KMap.setD s.ltn.threads t Thread.fresh
          { s.thr t with st := .halt, stepping := false, blk := none, lens := none, lensIn := [] } := by
    subst e3 e2 e1
    exact ⟨rfl, rfl, rfl, rfl, rfl⟩
  obtain ⟨o1, o2, o4, o5, o6⟩ := o3
  obtain ⟨p1, p2, p3, p4, p5⟩ := k4
  obtain ⟨q1, q2, q3, q4, q5, q6⟩ := s4.quiet_settle h2
  have t4 : ∀ u, s4.thr u = s3.thr u := fun u => State.thr_of_threads (by rw [← p2]) u
  have t3 : s3.thr t = { s.thr t with st := .halt, stepping := false, blk := none, lens := none, lensIn := [] } := by
    simp [State.thr, o6]
  have t3' : ∀ u, u ≠ t → s3.thr u = s.thr u := fun u hu => by
    rw [State.thr, o6]
    exact KMap.getD_setD_ne _ _ _ _ hu
  refine ⟨(o1.trans p1).trans q1, ?_, fun u hu hw => ?_, ?_, ?_, ?_, ?_⟩
  · have c : s3.ltn.cores = s.ltn.cores := by simpa using congrArg Ltn.cores o2
    have v : s3.ltn.heldEv = s.ltn.heldEv := by simpa using congrArg Ltn.heldEv o2
    have w : s4.ltn.heldEv = s3.ltn.heldEv := by simpa using congrArg Ltn.heldEv p2
    rw [← p2, ← q2] at o2
    simp only [c, w, v] at o2
    exact o2
  · have e : s4.thr u = s.thr u := (t4 u).trans (t3' u hu)
    exact (q5 u (by rw [e]; exact hw)).trans e
  · have e : s4.thr t = _ := (t4 t).trans t3
    exact (q5 t (by rw [e]; simp)).trans e
  · exact q3.trans (p3.trans o4)
  · exact q4.trans (p4.trans o5)
  · exact (k3.trans (p5.mono (by simp))).trans (q6.mono (by simp +contextual))

theorem State.SameOutside.after {s n : State} (a : s.SameOutside n) : s.SameOutside (s.after n) := by
  have e : n.part = s.part ∧ n.pending = s.pending := by
    rw [← a]
    exact ⟨rfl, rfl⟩
  unfold State.SameOutside at *
  unfold State.after
  rw [← e.1, ← e.2]
  exact a

theorem State.FrameOf.after {s n : State} {t : Nat} {d : Option Reg5} (a : s.FrameOf t d n) : s.FrameOf t d (s.after n) :=
  ⟨a.1.after, a.2.1, a.2.2.1, a.2.2.2.1, a.2.2.2.2.1, a.2.2.2.2.2.1, a.2.2.2.2.2.2⟩

/-- All that the retirement of an instruction can do, when it changes the thread's state by `f` (R190, R642). -/
theorem State.retireK_frame (s : State) {t : Nat} (ht : t < 768) (hr : (s.thr t).st = .run) (keep : Bool) (npc : Word) {f : Thread → Thread} {dest : Option Reg5}
    (hg : ∀ r, dest ≠ some r → (f (s.thr t)).greg r = (s.thr t).greg r)
    (hf : { f (s.thr t) with g := (s.thr t).g, prg := (s.thr t).prg } = s.thr t) :
    s.FrameOf t dest (s.retireK t keep npc f) := by
  have hw : (s.thr t).st ≠ .wait := by
    rw [hr]
    decide
  unfold State.retireK
  dsimp only
  generalize e1 : s.countThr t 0x02 1 = a
  have qa : s.Quiet a := e1 ▸ s.quiet_countThr _ _ (by omega)
  generalize e2 : a.setThr t { f (s.thr t) with pc := npc, prg := if keep then (f (s.thr t)).prg else 0 } = b
  obtain ⟨q1, q2, q3, q4, q5, q6⟩ := qa
  have b1 : s.SameOutside b := q1.trans (e2 ▸ rfl)
  have b2 : { b.ltn with threads := s.ltn.threads, heldEv := s.ltn.heldEv } = s.ltn := by
    rw [← e2]
    exact q2
  have b3 : ∀ u, u ≠ t → (s.thr u).st ≠ .wait → b.thr u = s.thr u := fun u hu hw => by
    rw [← e2, State.thr_setThr_ne _ _ hu]
    exact q5 u hw
  have b4 : b.thr t = { f (s.thr t) with pc := npc, prg := if keep then (f (s.thr t)).prg else 0 } := by
    rw [← e2, State.thr_setThr_self]
  have b5 : s.KeepsFields eventFields b := q6.trans (e2 ▸ fun _ _ _ _ => rfl)
  have bg : ∀ r, dest ≠ some r → (b.thr t).greg r = (s.thr t).greg r := fun r hr => by
    rw [b4]
    exact hg r hr
  have bf : { b.thr t with g := (s.thr t).g, pc := (s.thr t).pc, prg := (s.thr t).prg } = s.thr t := by
    rw [b4]
    conv => rhs; rw [← hf]
    have := congrArg Thread.pc hf
    simp only at this
    simp [this]
  cases hs : (s.thr t).stepping with
  | false =>
    rw [if_neg (by simp)]
    refine ⟨b1, ?_, fun _ => ?_, b3, bg, ⟨?_, fun _ => bf⟩, ?_⟩
    · have c : b.ltn.cores = s.ltn.cores := by simpa using congrArg Ltn.cores b2
      rw [← c]
      exact b2
    · simpa using congrArg Ltn.cores b2
    · have e := congrArg (fun th : Thread => { th with
        st := (s.thr t).st, stepping := (s.thr t).stepping, blk := (s.thr t).blk, lens := (s.thr t).lens
        lensIn := (s.thr t).lensIn }) bf
      exact e
    · rw [hs]
      exact b5.mono (by simp)
  | true =>
    rw [if_pos rfl]
    obtain ⟨p1, p2, p3, p4, p5, p6, p7⟩ := b.haltThread_frame 4 ht
    refine ⟨b1.trans p1, ?_, fun e => ?_, fun u hu hw => ?_, fun r hr => ?_, ⟨?_, fun e => ?_⟩, ?_⟩
    · have c : b.ltn.cores = s.ltn.cores := by simpa using congrArg Ltn.cores b2
      have v := b2
      rw [← p2] at v
      simp only [c] at v
      exact v
    · rw [hs] at e
      cases e
    · have e := b3 u hu hw
      exact (p3 u hu (by rw [e]; exact hw)).trans e
    · rw [p4]
      exact bg r hr
    · rw [p4]
      have e := congrArg (fun th : Thread => { th with
        st := (s.thr t).st, stepping := (s.thr t).stepping, blk := (s.thr t).blk, lens := (s.thr t).lens
        lensIn := (s.thr t).lensIn }) bf
      exact e
    · rw [hs] at e
      cases e
    · rw [hs]
      exact (b5.mono (by simp +contextual)).trans (by simpa using p7)

/-- RD and the counting of a retirement are all that an instruction with a result changes. -/
theorem State.result_frame (s : State) {t : Nat} (ht : t < 768) (hr : (s.thr t).st = .run) (rd : Reg5) (v : Word) :
    s.FrameOf t (some rd) (s.result t rd v) := by
  refine s.retireK_frame ht hr _ _ (fun r h => Thread.greg_setG_ne _ _ fun e => h (e ▸ rfl)) ?_
  unfold Thread.setG
  split <;> rfl

/-! ### Exceptions (R182, R183) -/

/-- What an operation of exception entry leaves alone: memory, poison and the general registers of its thread. -/
def State.Spares (s n : State) (t : Nat) : Prop :=
  n.mem = s.mem ∧ n.poison = s.poison ∧ (∀ r, (n.thr t).greg r = (s.thr t).greg r)

theorem State.Spares.trans {s m n : State} {t : Nat} (a : s.Spares m t) (b : m.Spares n t) : s.Spares n t :=
  ⟨b.1.trans a.1, b.2.1.trans a.2.1, fun r => (b.2.2 r).trans (a.2.2 r)⟩

theorem State.Quiet.spares {s n : State} {t : Nat} (q : s.Quiet n) (h : (s.thr t).st ≠ .wait) : s.Spares n t :=
  ⟨q.1.mem, q.1.poison, fun r => by rw [q.2.2.2.2.1 t h]⟩

/-- A nested fault stops the thread or its core, and no more (R111, R183). -/
theorem State.nestedFault_spares (s : State) {t : Nat} (cls : Cls) (ht : t < 768) : s.Spares (s.nestedFault t cls) t := by
  have h2 : t < 2 ^ 20 := by omega
  have hc : coreOf t * 8 < 2 ^ 20 := by unfold coreOf; omega
  unfold State.nestedFault
  dsimp only
  split
  · exact ⟨rfl, rfl, fun _ => rfl⟩
  · generalize e1 : s.modThr t _ = a
    have a1 : s.Spares a t ∧ (a.thr t).st = .faulted := by
      subst e1
      refine ⟨⟨rfl, rfl, fun r => ?_⟩, ?_⟩
      · rw [State.modThr, State.thr_setThr_self]
        rfl
      · rw [State.modThr, State.thr_setThr_self]
    obtain ⟨a1, a2⟩ := a1
    have b1 : a.Spares (a.wr R.LTN_THR_WAITMASK_MASK t 0) t := ⟨rfl, rfl, fun _ => rfl⟩
    unfold State.pushFault
    generalize e3 : a.wr R.LTN_THR_WAITMASK_MASK t 0 = b
    have b2 : (b.thr t).st = .faulted := by
      subst e3
      exact a2
    rw [e3] at b1
    dsimp only
    generalize e4 : (if (b.core (coreOf t)).fltq.length < 16 then b.modCore (coreOf t) _ else _) = c
    have c1 : b.Spares c t ∧ c.thr t = b.thr t := by
      subst e4
      split <;> exact ⟨⟨rfl, rfl, fun _ => rfl⟩, rfl⟩
    have w : (c.thr t).st ≠ .wait := by
      rw [c1.2, b2]
      decide
    have q := c.quiet_latchSet (t := 8 * coreOf t) (orBit 0 0) (by omega)
    have e : _ = c.thr t := q.2.2.2.2.1 t w
    exact (((a1.trans b1).trans c1.1).trans (q.spares w)).trans
      ((State.quiet_settle _ h2).spares (by rw [e]; exact w))

/-- Exception entry writes no memory and no general register (R182, R183). -/
theorem State.enter_spares (s : State) {t : Nat} (cls : Cls) (info : Nat) (ret : Word) (ht : t < 768) (hr : (s.thr t).st = .run) :
    s.Spares (s.enter t cls info ret) t := by
  have h2 : t < 2 ^ 20 := by omega
  have w : (s.thr t).st ≠ .wait := by
    rw [hr]
    decide
  have q0 := s.quiet_countThr 0x03 1 h2
  have t0 : (s.countThr t 0x03 1).thr t = s.thr t := q0.2.2.2.2.1 t w
  unfold State.enter
  dsimp only
  split
  · exact (q0.spares w).trans (State.nestedFault_spares _ _ ht)
  · generalize (if cls = Cls.interrupt then 0x0F else 0x0E) = ev
    have q1 := (s.countThr t 0x03 1).quiet_countThr ev 1 h2
    have t1 := (q1.2.2.2.2.1 t (by rw [t0]; exact w)).trans t0
    have s1 := (q0.trans q1).spares w
    generalize (s.countThr t 0x03 1).countThr t ev 1 = a at s1 t1
    generalize e2 : a.modThr t _ = b
    have b1 : a.Spares b t ∧ (b.thr t).st = .run := by
      subst e2
      refine ⟨⟨rfl, rfl, fun r => ?_⟩, ?_⟩
      · rw [State.modThr, State.thr_setThr_self]
        rfl
      · rw [State.modThr, State.thr_setThr_self]
    have c1 : b.Spares (b.wr R.LTN_THR_WAITMASK_MASK t 0) t := ⟨rfl, rfl, fun _ => rfl⟩
    have c2 : ((b.wr R.LTN_THR_WAITMASK_MASK t 0).thr t).st ≠ .wait := by
      rw [State.thr_wr, b1.2]
      decide
    have d := (s1.trans b1.1).trans c1
    split
    · obtain ⟨p1, -, -, p4, -⟩ := (b.wr R.LTN_THR_WAITMASK_MASK t 0).haltThread_frame 4 ht
      refine d.trans ⟨p1.mem, p1.poison, fun r => ?_⟩
      rw [p4]
      rfl
    · exact d.trans ((State.quiet_settle _ h2).spares c2)

end Sys2Proof.Machine
end

