-- ==== Sys2Proof/Laws/Memory.lean ====
section
/-!
SUPPORT. The memory: what a byte reads as after a write, that every write keeps the canonical form, and what translation and the
reach of an access leave unchanged.
-/

namespace Sys2Proof.Machine

/-! ### One byte -/

@[simp] theorem State.byte_setByte_self (s : State) (a : Nat) (b : Byte) : (s.setByte a b).byte a = b := by
  simp [State.byte]

theorem State.byte_setByte_ne (s : State) {a x : Nat} (b : Byte) (h : x ≠ a) : (s.setByte a b).byte x = s.byte x := by
  simp only [State.byte, State.setByte_mem]
  exact KMap.getD_setD_ne _ _ _ _ h

@[simp] theorem State.byte_setBad (s : State) (a x : Nat) (p : Bool) : (s.setBad a p).byte x = s.byte x := rfl

theorem State.byte_of_mem {s n : State} (h : n.mem = s.mem) (x : Nat) : n.byte x = s.byte x := by
  rw [State.byte, State.byte, h]

/-- A write keeps the canonical form of the memory. -/
theorem State.setByte_wf (s : State) (a : Nat) (b : Byte) (h : Memory.wf s.mem = true) : Memory.wf (s.setByte a b).mem = true := by
  unfold Memory.wf at *
  rw [Bool.and_eq_true] at h ⊢
  rw [State.setByte_mem]
  unfold KMap.setD
  by_cases e : b = 0
  · rw [if_pos e]
    exact ⟨KMap.sorted_del _ _ h.1, KMap.all_del _ _ _ h.2⟩
  · rw [if_neg e]
    exact ⟨KMap.sorted_put _ _ _ h.1, KMap.all_put _ _ _ _ (by simpa using e) h.2⟩

/-! ### Byte strings (R7, R205) -/

/-- A fold of operations that keep a part of the state keeps it. -/
theorem foldl_keeps {α β : Type} (g : State → β) {f : State → α → State} {l : List α} (h : ∀ s, ∀ x ∈ l, g (f s x) = g s) :
    ∀ s, g (l.foldl f s) = g s := by
  induction l with
  | nil => exact fun _ => rfl
  | cons x r ih => exact fun s => (ih (fun s y hy => h s y (by simp [hy])) (f s x)).trans (h s x (by simp))

theorem State.mem_countMerge (s : State) (a n : Nat) : (s.countMerge a n).mem = s.mem := by
  unfold State.countMerge
  dsimp only
  split <;> rfl

theorem State.mem_foldl_setBad (s : State) (n : Nat) (g : Nat → Nat) (p : Bool) :
    ((List.range n).foldl (fun s k => s.setBad (g k) p) s).mem = s.mem :=
  foldl_keeps (f := fun s k => s.setBad (g k) p) State.mem (fun _ _ _ => rfl) s

theorem State.byte_foldl_setByte (s : State) (a : Nat) (bs : Bytes) (x : Nat) : ∀ n,
    ((List.range n).foldl (fun s k => s.setByte (a + k) (bs.getD k 0)) s).byte x
      = if a ≤ x ∧ x < a + n then bs.getD (x - a) 0 else s.byte x
  | 0 => by
    rw [if_neg (by omega)]
    rfl
  | n + 1 => by
    rw [List.range_succ, List.foldl_append]
    simp only [List.foldl_cons, List.foldl_nil]
    by_cases e : x = a + n
    · subst e
      rw [State.byte_setByte_self, if_pos (by omega), Nat.add_sub_cancel_left]
    · rw [State.byte_setByte_ne _ _ e, State.byte_foldl_setByte s a bs x n]
      by_cases c : a ≤ x ∧ x < a + n
      · rw [if_pos c, if_pos (by omega)]
      · rw [if_neg c, if_neg (by omega)]

/-- What a byte reads as after a byte string is written. -/
theorem State.byte_setBytes (s : State) (a : Nat) (bs : Bytes) (x : Nat) :
    (s.setBytes a bs).byte x = if a ≤ x ∧ x < a + bs.length then bs.getD (x - a) 0 else s.byte x := by
  unfold State.setBytes
  rw [State.byte_of_mem (State.mem_foldl_setBad _ _ _ _), State.byte_foldl_setByte]
  split
  · rfl
  · exact State.byte_of_mem (State.mem_countMerge _ _ _) x

/-- The poison of the words of a range after each word of it is cleared. -/
theorem State.bad_foldl_setBad (s : State) (a x : Nat) : ∀ n,
    ((List.range n).foldl (fun s k => s.setBad (8 * (a + k)) false) s).bad x
      = if a ≤ x / 8 ∧ x / 8 < a + n then false else s.bad x
  | 0 => by
    rw [if_neg (by omega)]
    rfl
  | n + 1 => by
    rw [List.range_succ, List.foldl_append]
    simp only [List.foldl_cons, List.foldl_nil]
    have d : 8 * (a + n) / 8 = a + n := by omega
    by_cases e : x / 8 = a + n
    · rw [if_pos (by omega), State.bad, State.setBad_poison, d, e, KMap.getD_setD_self]
    · rw [State.bad, State.setBad_poison, d, KMap.getD_setD_ne _ _ _ _ e]
      have ih := State.bad_foldl_setBad s a x n
      rw [State.bad] at ih
      rw [ih]
      by_cases c : a ≤ x / 8 ∧ x / 8 < a + n
      · rw [if_pos c, if_pos (by omega)]
      · rw [if_neg c, if_neg (by omega)]

/-- A write clears the poison of the words that it writes whole (R205). -/
theorem State.bad_setBytes (s : State) (a : Nat) (bs : Bytes) (x : Nat) :
    (s.setBytes a bs).bad x = if a ≤ 8 * (x / 8) ∧ 8 * (x / 8) + 8 ≤ a + bs.length then false else s.bad x := by
  have k : ∀ (l : List Nat) (s : State), (l.foldl (fun s k => s.setByte (a + k) (bs.getD k 0)) s).poison = s.poison :=
    fun l s => foldl_keeps (f := fun s k => s.setByte (a + k) (bs.getD k 0)) State.poison (fun _ _ _ => rfl) s
  have m : (s.countMerge a bs.length).poison = s.poison := by
    unfold State.countMerge
    dsimp only
    split <;> rfl
  have e : ∀ n : State, n.poison = s.poison → n.bad x = s.bad x := fun n h => by rw [State.bad, State.bad, h]
  unfold State.setBytes
  dsimp only
  rw [State.bad_foldl_setBad, e _ ((k _ _).trans m)]
  by_cases c : a ≤ 8 * (x / 8) ∧ 8 * (x / 8) + 8 ≤ a + bs.length
  · rw [if_pos c, if_pos (by omega)]
  · rw [if_neg c, if_neg (by omega)]

theorem State.setBytes_wf (s : State) (a : Nat) (bs : Bytes) (h : Memory.wf s.mem = true) : Memory.wf (s.setBytes a bs).mem = true := by
  unfold State.setBytes
  dsimp only
  rw [State.mem_foldl_setBad]
  have k : ∀ (l : List Nat) (s : State), Memory.wf s.mem = true →
      Memory.wf (l.foldl (fun s k => s.setByte (a + k) (bs.getD k 0)) s).mem = true := by
    intro l
    induction l with
    | nil => exact fun _ h => h
    | cons x r ih => exact fun s h => ih _ (s.setByte_wf _ _ h)
  exact k _ _ (by rw [State.mem_countMerge]; exact h)

@[simp] theorem leBytes_length (n v : Nat) : (leBytes n v).length = n := by
  induction n generalizing v with
  | zero => rfl
  | succ n ih => simp [leBytes, ih]

/-! ### Translation (R147, R215 to R218) -/

/-- An access that is translated and checked leaves memory, poison and the ordering code as they are, and the state of its own
thread. -/
def State.Reached (s n : State) (t : Nat) : Prop :=
  n.mem = s.mem ∧ n.poison = s.poison ∧ n.part = s.part ∧ n.fwd = s.fwd ∧ n.pwr = s.pwr
    ∧ ((s.thr t).st ≠ .wait → n.thr t = s.thr t)

theorem State.Quiet.reached {s n : State} {t : Nat} (q : s.Quiet n) : s.Reached n t := by
  obtain ⟨q1, -, -, -, q5, -⟩ := q
  refine ⟨q1.mem, q1.poison, q1.part, ?_, q1.pwr, q5 t⟩
  rw [← q1]

theorem State.Reached.trans {s m n : State} {t : Nat} (a : s.Reached m t) (b : m.Reached n t) : s.Reached n t := by
  obtain ⟨a1, a2, a3, a4, a5, a6⟩ := a
  obtain ⟨b1, b2, b3, b4, b5, b6⟩ := b
  refine ⟨b1.trans a1, b2.trans a2, b3.trans a3, b4.trans a4, b5.trans a5, fun h => ?_⟩
  have e := a6 h
  exact (b6 (by rw [e]; exact h)).trans e

theorem translateWith_state (s : State) (cap : Nat) (l : List TlbEnt) (p a va : Nat) (k : AKind) (pl1 : Bool) :
    (translateWith s cap l p a va k pl1).2.2.2 = s ∨ (translateWith s cap l p a va k pl1).2.2.2 = s.draw.2 := by
  have g : ∀ s : State, (translateWith.go cap l p a va k pl1 s).2.2.2 = s := by
    intro s
    unfold translateWith.go
    split <;> rfl
  unfold translateWith
  dsimp only
  split
  · split
    · exact .inr rfl
    · exact .inr (g _)
  · exact .inl (g _)

theorem State.translate_reached (s : State) {t : Nat} (va : Nat) (k : AKind) (h : t < 2 ^ 20) :
    s.Reached (s.translate t va k).2 t := by
  have r : s.Reached s t := ⟨rfl, rfl, rfl, rfl, rfl, fun _ => rfl⟩
  unfold State.translate
  dsimp only
  split
  · exact r
  split
  · exact r
  generalize hx : translateWith s tlbMax (s.core (coreOf t)).tlb (s.thr t).ptbr.toNat (s.thr t).asid va k (s.thr t).pl1 = x
  have e : s.Reached (x.2.2.2.modCore (coreOf t) fun k => { k with tlb := x.2.1 }) t := by
    have d := translateWith_state s tlbMax (s.core (coreOf t)).tlb (s.thr t).ptbr.toNat (s.thr t).asid va k (s.thr t).pl1
    rw [hx] at d
    rcases d with d | d <;> rw [d] <;> exact ⟨rfl, rfl, rfl, rfl, rfl, fun _ => rfl⟩
  have c : s.Reached (if x.2.2.1 = true then (x.2.2.2.modCore (coreOf t) fun k => { k with tlb := x.2.1 }).countThr t 0x0A 1
      else x.2.2.2.modCore (coreOf t) fun k => { k with tlb := x.2.1 }) t := by
    split
    · exact e.trans (State.quiet_countThr _ _ _ h).reached
    · exact e
  split <;> exact c

theorem State.reach_reached (s : State) {t : Nat} (va : Nat) (k : AKind) (b : Bool) (h : t < 2 ^ 20) :
    s.Reached (s.reach t va k b).2 t := by
  have c := s.translate_reached va k h
  unfold State.reach
  split
  · next e =>
    rw [e] at c
    split <;> exact c
  · next e =>
    rw [e] at c
    exact c

/-- What the reach of one access leaves unchanged (R42, R148). -/
theorem State.reachMem_reached (s : State) {t : Nat} (va : Nat) (k : AKind) (b : Bool) (h : t < 2 ^ 20) :
    s.Reached (s.reachMem t va k b).2 t := by
  have c := s.reach_reached va k b h
  unfold State.reachMem
  split
  · next e =>
    rw [e] at c
    split <;> exact c
  · exact c

end Sys2Proof.Machine
end

