-- ==== Sys2Proof/Laws/Step.lean ====
section
/-!
SUPPORT. What a step can do: a command answers a next state that only its own effect shapes, and what a tick does to the clock.
-/

namespace Sys2Proof.Machine

/-- A command runs to `n` when its effect is `n`. -/
theorem runs_of {s m n : State} {c : Instr} (h : exec c s = .next (s.after m)) (e : m = n) : s.Runs c n := by
  subst e
  exact h

/-- Every command answers a next state that differs from its own effect at most as `State.after` says. -/
theorem exec_after (c : Instr) (s : State) : ∃ m, exec c s = .next (s.after m) := by
  cases c <;> exact ⟨_, rfl⟩

theorem signedOf_lt (w x : Nat) (h : 0 < w) : -(2 ^ (w - 1) : Int) ≤ signedOf w x ∧ signedOf w x < 2 ^ (w - 1) := by
  obtain ⟨k, rfl⟩ : ∃ k, w = k + 1 := ⟨w - 1, by omega⟩
  have e : (2 : Int) ^ (k + 1) = 2 * 2 ^ k := by rw [Int.pow_succ]; omega
  have e2 : 2 ^ (k + 1) = 2 * 2 ^ k := by rw [Nat.pow_succ]; omega
  have l : x % 2 ^ (k + 1) < 2 ^ (k + 1) := Nat.mod_lt _ (Nat.two_pow_pos _)
  have c : ((2 ^ k : Nat) : Int) = (2 : Int) ^ k := by norm_cast
  unfold signedOf
  simp only [Nat.add_sub_cancel]
  split
  · omega
  · omega

/-! ### The tick (R705) -/

theorem State.shedDone_same (s : State) :
    s.shedDone.part = s.part ∧ s.shedDone.pwr = s.pwr ∧ s.shedDone.time = s.time ∧ s.shedDone.frac = s.frac
      ∧ s.shedDone.pending = s.pending := by
  unfold State.shedDone
  split <;> exact ⟨rfl, rfl, rfl, rfl, rfl⟩

theorem State.clearCounters_same (s : State) :
    s.clearCounters.part = s.part ∧ s.clearCounters.pwr = s.pwr ∧ s.clearCounters.time = s.time ∧ s.clearCounters.frac = s.frac
      ∧ s.clearCounters.pending = s.pending := by
  have k : ∀ {β : Type} (g : State → β) (_ : ∀ (s : State) f i v, g (s.wr f i v) = g s), g s.clearCounters = g s := by
    intro β g h
    unfold State.clearCounters
    refine foldl_keeps g (fun s b _ => ?_) s
    unfold State.clearBlock
    refine foldl_keeps g (fun s c _ => ?_) s
    unfold State.wrs
    exact foldl_keeps g (fun s p _ => h s _ _ _) s
  exact ⟨k _ fun _ _ _ _ => rfl, k _ fun _ _ _ _ => rfl, k _ fun _ _ _ _ => rfl, k _ fun _ _ _ _ => rfl,
    k _ fun _ _ _ _ => rfl⟩

theorem State.lumenInstants_same (s : State) :
    s.lumenInstants.part = s.part ∧ s.lumenInstants.pwr = s.pwr ∧ s.lumenInstants.time = s.time ∧ s.lumenInstants.frac = s.frac
      ∧ s.lumenInstants.pending = s.pending := by
  have f : s.freezeDue.part = s.part ∧ s.freezeDue.pwr = s.pwr ∧ s.freezeDue.time = s.time ∧ s.freezeDue.frac = s.frac
      ∧ s.freezeDue.pending = s.pending := by
    unfold State.freezeDue
    split
    · split <;> exact ⟨rfl, rfl, rfl, rfl, rfl⟩
    · exact ⟨rfl, rfl, rfl, rfl, rfl⟩
  unfold State.lumenInstants
  generalize s.freezeDue = a at f
  unfold State.clearDue
  split
  · split
    · obtain ⟨a1, a2, a3, a4, a5⟩ := f
      obtain ⟨b1, b2, b3, b4, b5⟩ := a.clearCounters_same
      dsimp only
      exact ⟨b1.trans a1, b2.trans a2, b3.trans a3, b4.trans a4, b5.trans a5⟩
    · exact f
  · exact f

/-- A counter that goes on by a free amount leaves these as they are. -/
theorem State.openCount_same (s : State) {i : Nat} (hi : i < 568) :
    (s.openCount i).part = s.part ∧ (s.openCount i).pwr = s.pwr ∧ (s.openCount i).time = s.time ∧ (s.openCount i).frac = s.frac
      ∧ (s.openCount i).pending = s.pending := by
  unfold State.openCount
  dsimp only
  split
  · obtain ⟨q1, -, q3, q4, -, -⟩ := State.quiet_addCtr s.draw.2 (b := i / 8) (c := i % 8) (s.draw.1 % 65536) (by omega)
    exact ⟨q1.part, q1.pwr, q3, q4, q1.pending⟩
  · exact ⟨rfl, rfl, rfl, rfl, rfl⟩

theorem State.openFold_same (l : List Nat) (s : State) (h : ∀ i ∈ l, i < 568) :
    (l.foldl State.openCount s).part = s.part ∧ (l.foldl State.openCount s).pwr = s.pwr
      ∧ (l.foldl State.openCount s).time = s.time ∧ (l.foldl State.openCount s).frac = s.frac
      ∧ (l.foldl State.openCount s).pending = s.pending := by
  induction l generalizing s with
  | nil => exact ⟨rfl, rfl, rfl, rfl, rfl⟩
  | cons x r ih =>
    obtain ⟨a1, a2, a3, a4, a5⟩ := ih (s.openCount x) fun i hi => h i (.tail _ hi)
    obtain ⟨b1, b2, b3, b4, b5⟩ := s.openCount_same (h x (.head _))
    exact ⟨a1.trans b1, a2.trans b2, a3.trans b3, a4.trans b4, a5.trans b5⟩

theorem State.openCounts_same (s : State) :
    s.openCounts.part = s.part ∧ s.openCounts.pwr = s.pwr ∧ s.openCounts.time = s.time ∧ s.openCounts.frac = s.frac
      ∧ s.openCounts.pending = s.pending := by
  unfold State.openCounts
  exact State.openFold_same _ s fun _ hi => List.mem_range.1 hi

theorem State.quiet_countMicros (s : State) (k : Nat) : s.Quiet (s.countMicros k) := by
  unfold State.countMicros
  exact (s.quiet_count _ _ (by decide)).trans (State.quiet_count _ _ _ (by decide))

theorem State.quiet_advance (s : State) : State.Quiet { s with time := s.nextTime.1, frac := s.nextTime.2 } s.advance := by
  unfold State.advance
  exact (State.quiet_count _ _ _ (by decide)).trans (State.quiet_countMicros _ _)

/-- What a tick does to the clock and leaves of the rest. -/
theorem State.tick_time (s : State) :
    s.tick.part = s.part ∧ s.tick.pwr = s.pwr ∧ (s.pwr.boot = .held → s.tick = s) ∧ s.tick.pending = s.pending
      ∧ (s.pwr.boot ≠ .held → s.tick.time = s.nextTime.1 ∧ s.tick.frac = s.nextTime.2) := by
  have q := s.quiet_advance
  unfold State.tick
  split
  · next h => exact ⟨rfl, rfl, fun _ => rfl, rfl, fun g => absurd h g⟩
  · next h =>
    generalize s.advance = b at q
    obtain ⟨q1, -, q3, q4, -, -⟩ := q
    obtain ⟨c1, c2, c3, c4, c5⟩ := b.openCounts.lumenInstants.shedDone_same
    obtain ⟨d1, d2, d3, d4, d5⟩ := b.openCounts.lumenInstants_same
    obtain ⟨f1, f2, f3, f4, f5⟩ := b.openCounts_same
    have p : b.pending = s.pending := q1.pending
    exact ⟨((c1.trans d1).trans f1).trans q1.part, ((c2.trans d2).trans f2).trans q1.pwr, fun g => absurd g h,
      ((c5.trans d5).trans f5).trans p, fun _ => ⟨((c3.trans d3).trans f3).trans q3, ((c4.trans d4).trans f4).trans q4⟩⟩

end Sys2Proof.Machine
end

