-- ==== Sys2Proof/Laws/Lantern.lean ====
section
/-!
SUPPORT. What the operations that Lantern instructions share can do: computing, branching, loading and storing.
-/

namespace Sys2Proof.Machine

/-- A command of format R changes RD (R140, R143). -/
theorem State.alu_frame {s : State} {t : Nat} (h : s.Ready t) (rd ra rb : Reg5) (f : Word → Word → Word) :
    s.FrameOf t (some rd) (s.alu t rd ra rb f) := by
  unfold State.alu
  rw [h.issue]
  exact s.result_frame h.lt h.run rd _

/-- A command of one source changes RD (R138, R140). -/
theorem State.alu1_frame {s : State} {t : Nat} (h : s.Ready t) (rd ra : Reg5) (f : Word → Word) :
    s.FrameOf t (some rd) (s.alu1 t rd ra f) := by
  unfold State.alu1
  rw [h.issue]
  exact s.result_frame h.lt h.run rd _

/-- A call changes RD and the PC (R156). -/
theorem State.link_frame {s : State} {t : Nat} (h : s.Ready t) (rd : Reg5) (npc : Word) (v : Thread → Word) :
    s.FrameOf t (some rd) (s.retireK t false npc fun th => th.setG rd (v th)) := by
  refine s.retireK_frame h.lt h.run _ _ (fun r g => Thread.greg_setG_ne _ _ fun e => g (by rw [e])) ?_
  unfold Thread.setG
  split <;> rfl

/-- An instruction without a result changes no general register (R156, R190). -/
theorem State.jump_frame {s : State} {t : Nat} (h : s.Ready t) (npc : Word) : s.FrameOf t none (s.retireK t false npc id) :=
  s.retireK_frame h.lt h.run _ _ (fun _ _ => rfl) rfl

/-- A branch changes no general register (R156). -/
theorem State.branch_frame {s : State} {t : Nat} (h : s.Ready t) (ra rb : Reg5) (off : BitVec 16) (c : Cond) :
    s.FrameOf t none (s.branch t ra rb off c) := by
  unfold State.branch
  rw [h.issue]
  exact State.jump_frame h _

/-! ### Loads, stores and atomics (R145 to R154) -/

/-- An access of a thread in RUN that is reached changes no byte, and neither thread's registers nor its state. -/
theorem State.reachMem_spares (s : State) {t : Nat} (h : s.Ready t) (va : Nat) (k : AKind) (b : Bool) :
    let n := (s.reachMem t va k b).2
    n.mem = s.mem ∧ n.part = s.part ∧ n.thr t = s.thr t := by
  obtain ⟨r1, -, r3, -, -, r6⟩ := s.reachMem_reached va k b (t := t) (by have := h.lt; omega)
  exact ⟨r1, r3, r6 (by rw [h.run]; decide)⟩

/-- A load that the device's memory or registers answer changes no byte. -/
theorem State.loadAt_mem (s : State) {t : Nat} (ht : t < 768) (hr : (s.thr t).st = .run) (rd : Reg5) (va pa n : Nat) (sx : Bool)
    (g : region s.part pa ≠ .lens) : (s.loadAt t rd va pa n sx).mem = s.mem := by
  have r : ∀ v, (s.result t rd v).mem = s.mem := fun v => (s.result_frame ht hr rd v).1.mem
  have u : (s.raiseUe t va pa n .load).mem = s.mem := by
    have c : (s.countPoison pa n).mem = s.mem ∧ (s.countPoison pa n).thr t = s.thr t := by
      unfold State.countPoison
      dsimp only
      split <;> exact ⟨rfl, rfl⟩
    unfold State.raiseUe State.raiseAt
    exact ((s.countPoison pa n).enter_spares _ _ _ ht (by rw [c.2]; exact hr)).1.trans c.1
  unfold State.loadAt
  split
  · next e => exact absurd e g
  · exact r _
  · split
    · exact u
    · exact r _

/-- What a load changes of the memory: nothing, unless it goes to the Lens region. -/
theorem State.load_mem {s s1 : State} {t pa : Nat} (h : s.Ready t) (rd ra : Reg5) (imm : BitVec 16) (n : Nat) (sx : Bool)
    (a : effAddr (s.thr t) ra imm % n = 0) (e : s.reachMem t (effAddr (s.thr t) ra imm) .load false = (.pa pa, s1))
    (g : region s1.part pa ≠ .lens) : (s.load t rd ra imm n sx).mem = s.mem := by
  have q := s.reachMem_spares h (effAddr (s.thr t) ra imm) .load false
  rw [e] at q
  unfold State.load
  rw [h.issue]
  dsimp only
  rw [if_neg (not_not.2 a), e]
  exact (s1.loadAt_mem h.lt (by rw [q.2.2]; exact h.run) rd _ _ _ _ g).trans q.1

/-- A region below the next-hop table, or above the trie window, takes stores as they are. -/
theorem State.storeAt_plain (s : State) (t : Nat) {pa : Nat} {bs : Bytes} (hl : bs.length ≤ 8)
    (g : region s.part pa ∈ [Region.hbm, .pktBuf, .mac]) : s.storeAt t pa bs = s.setBytes pa bs := by
  have k : s.storeAll pa bs = s.setBytes pa bs := by
    unfold State.storeAll
    refine if_pos ?_
    simp only [List.mem_cons, List.not_mem_nil, or_false] at g
    have hs : hbmSize s.part ≤ 0x1800000000 := by
      unfold hbmSize
      split <;> omega
    have b1 : nhBase = 0x4005C00000 := rfl
    have b2 : trieBase = 0x4000000000 := rfl
    unfold region at g
    split at g
    · exact .inl (by omega)
    split at g
    · simp at g
    split at g
    · exact .inr (by omega)
    split at g
    · simp at g
    split at g
    · simp at g
    split at g
    · exact .inr (by omega)
    split at g
    · simp at g
    split at g
    · simp at g
    · simp at g
  unfold State.storeAt
  split
  · exact k
  · exact k
  · exact k
  · exact k
  · next e => rw [e] at g; simp at g
  · next e1 e2 e3 e4 e5 =>
    simp only [List.mem_cons, List.not_mem_nil, or_false] at g
    rcases g with g | g | g
    · exact absurd g e1
    · exact absurd g e3
    · exact absurd g e4

theorem State.byte_nhHold (s : State) (n off : Nat) (bs : Bytes) (x : Nat) : (s.nhHold n off bs).byte x = s.byte x := rfl

/-- The release of a held half changes the lower half of its entry alone (R292). -/
theorem State.byte_nhRelease (s : State) (n x : Nat) (h : x < nhBase + 16 * n ∨ nhBase + 16 * n + 8 ≤ x) :
    (s.nhRelease n).byte x = s.byte x := by
  unfold State.nhRelease
  split
  · next low _ =>
    have l : (low.take 8).length ≤ 8 := by simp
    rw [State.byte_setBytes, if_neg (by omega)]
    rfl
  · rfl

/-- A store within one 16-byte entry changes no byte outside it (R292). -/
theorem State.byte_storeMem (s : State) (a : Nat) (bs : Bytes) (x : Nat) (hl : a % 16 + bs.length ≤ 16)
    (hx : x < 16 * (a / 16) ∨ 16 * (a / 16) + 16 ≤ x) : (s.storeMem a bs).byte x = s.byte x := by
  have b1 : nhBase = 0x4005C00000 := rfl
  unfold State.storeMem
  split
  · rw [State.byte_setBytes, if_neg (by omega)]
  · next g =>
    have he : nhBase + 16 * ((a - nhBase) / 16) = 16 * (a / 16) := by omega
    have ho : (a - nhBase) % 16 = a % 16 := by omega
    dsimp only
    rw [ho, he]
    generalize e1 : (if bs.take (8 - a % 16) = [] then s else s.nhHold ((a - nhBase) / 16) (a % 16) (bs.take (8 - a % 16))) = s1
    have k1 : s1.byte x = s.byte x := by
      subst e1
      split <;> rfl
    split
    · exact k1
    · have ld : (bs.drop (8 - a % 16)).length = bs.length - (8 - a % 16) := List.length_drop
      have m : Nat.max a (16 * (a / 16) + 8) = if a % 16 ≤ 8 then 16 * (a / 16) + 8 else a := by
        change max a (16 * (a / 16) + 8) = _
        split <;> omega
      rw [State.byte_setBytes, if_neg, State.byte_nhRelease _ _ _ (by omega)]
      · exact k1
      · rw [m, ld]
        split <;> omega

/-- A store of bytes that lie in one 8-byte word is one store. -/
theorem State.storeAll_word (s : State) (a : Nat) (bs : Bytes) (h : a % 8 + bs.length ≤ 8) : s.storeAll a bs = s.storeMem a bs
    ∨ s.storeAll a bs = s.setBytes a bs := by
  unfold State.storeAll
  split
  · exact .inr rfl
  · have z : (bs.length + 7 - (8 - a % 8)) / 8 = 0 := by omega
    have w : bs.take (8 - a % 8) = bs := List.take_of_length_le (by omega)
    dsimp only
    rw [z, w]
    exact .inl rfl

/-- A store to the trie window changes no byte outside the 16-byte entry that it lies in. -/
theorem State.byte_storeAt_trie (s : State) (t : Nat) {pa x : Nat} {bs : Bytes} (g : region s.part pa = .trie)
    (hl : pa % 8 + bs.length ≤ 8) (hx : x < 16 * (pa / 16) ∨ 16 * (pa / 16) + 16 ≤ x) :
    (s.storeAt t pa bs).byte x = s.byte x := by
  have e : s.storeAt t pa bs = s.storeAll pa bs := by
    unfold State.storeAt
    rw [g]
  rw [e]
  rcases s.storeAll_word pa bs hl with w | w
  · rw [w]
    exact s.byte_storeMem _ _ _ (by omega) hx
  · rw [w, State.byte_setBytes, if_neg (by omega)]

@[simp] theorem leBytes_toNat (n v : Nat) : leBytes n (v % 2 ^ (8 * n)) = leBytes n v := by
  induction n generalizing v with
  | zero => rfl
  | succ n ih =>
    have e : (2 : Nat) ^ (8 * (n + 1)) = 256 * 2 ^ (8 * n) := by
      rw [show 8 * (n + 1) = 8 + 8 * n by omega, Nat.pow_add]
    have d : v % (256 * 2 ^ (8 * n)) / 256 = v / 256 % 2 ^ (8 * n) := by
      rw [Nat.mod_mul_right_div_self]
    unfold leBytes
    rw [e, d, ih]
    congr 1
    apply BitVec.eq_of_toNat_eq
    simp [BitVec.toNat_ofNat]

/-- The bytes read back after they are written. -/
theorem State.bytes_setBytes (s : State) (a : Nat) (bs : Bytes) : (s.setBytes a bs).bytes a bs.length = bs := by
  unfold State.bytes
  refine List.ext_getElem (by simp) fun i h1 h2 => ?_
  simp only [List.getElem_map, List.getElem_range]
  rw [State.byte_setBytes, if_pos (by omega), Nat.add_sub_cancel_left]
  simp [h2]

theorem State.bytes_of_mem {s n : State} (h : n.mem = s.mem) (a k : Nat) : n.bytes a k = s.bytes a k := by
  unfold State.bytes
  simp only [State.byte_of_mem h]

@[simp] theorem State.ltn_countMerge (s : State) (a n : Nat) : (s.countMerge a n).ltn = s.ltn := by
  unfold State.countMerge
  dsimp only
  split <;> rfl

@[simp] theorem State.ltn_setBytes (s : State) (a : Nat) (b : Bytes) : (s.setBytes a b).ltn = s.ltn := by
  have e1 : ∀ (l : List Nat) (s : State), (l.foldl (fun s k => s.setByte (a + k) (b.getD k 0)) s).ltn = s.ltn :=
    fun l s => foldl_keeps (f := fun s k => s.setByte (a + k) (b.getD k 0)) State.ltn (fun _ _ _ => rfl) s
  have e2 : ∀ (c : Nat) (l : List Nat) (s : State), (l.foldl (fun s k => s.setBad (8 * (c + k)) false) s).ltn = s.ltn :=
    fun c l s => foldl_keeps (f := fun s k => s.setBad (8 * (c + k)) false) State.ltn (fun _ _ _ => rfl) s
  unfold State.setBytes
  exact (e2 _ _ _).trans ((e1 _ _).trans (s.ltn_countMerge _ _))

@[simp] theorem State.ltn_nhRelease (s : State) (n : Nat) : (s.nhRelease n).ltn = s.ltn := by
  unfold State.nhRelease
  split
  · rw [State.ltn_setBytes]
  · rfl

theorem State.storeMem_cases (s : State) (a : Nat) (b : Bytes) :
    s.storeMem a b = s.setBytes a b ∨ ∃ n o x y z, s.storeMem a b = s.nhHold n o x ∨ s.storeMem a b = s
      ∨ s.storeMem a b = ((s.nhHold n o x).nhRelease n).setBytes y z ∨ s.storeMem a b = (s.nhRelease n).setBytes y z := by
  by_cases g : a < nhBase ∨ trieBase + 0x6000000 ≤ a
  · exact .inl (if_pos g)
  · refine .inr ⟨(a - nhBase) / 16, (a - nhBase) % 16, b.take (8 - (a - nhBase) % 16),
      Nat.max a (nhBase + 16 * ((a - nhBase) / 16) + 8), b.drop (8 - (a - nhBase) % 16), ?_⟩
    unfold State.storeMem
    rw [if_neg g]
    dsimp only
    generalize (a - nhBase) / 16 = n
    generalize (a - nhBase) % 16 = o
    by_cases h1 : b.take (8 - o) = []
    · rw [if_pos h1]
      by_cases h2 : b.drop (8 - o) = []
      · rw [if_pos h2]
        exact .inr (.inl rfl)
      · rw [if_neg h2]
        exact .inr (.inr (.inr rfl))
    · rw [if_neg h1]
      by_cases h2 : b.drop (8 - o) = []
      · rw [if_pos h2]
        exact .inl rfl
      · rw [if_neg h2]
        exact .inr (.inr (.inl rfl))

@[simp] theorem State.ltn_storeMem (s : State) (a : Nat) (b : Bytes) : (s.storeMem a b).ltn = s.ltn := by
  rcases s.storeMem_cases a b with e | ⟨n, o, x, y, z, e | e | e | e⟩ <;> rw [e]
  · exact s.ltn_setBytes a b
  · rfl
  · rw [State.ltn_setBytes, State.ltn_nhRelease]
    rfl
  · rw [State.ltn_setBytes, State.ltn_nhRelease]

@[simp] theorem State.ltn_storeAll (s : State) (a : Nat) (b : Bytes) : (s.storeAll a b).ltn = s.ltn := by
  by_cases g : a + b.length ≤ nhBase ∨ trieBase + 0x6000000 ≤ a
  · rw [show s.storeAll a b = s.setBytes a b from if_pos g]
    exact s.ltn_setBytes a b
  · rw [show s.storeAll a b = (List.range ((b.length + 7 - (8 - a % 8)) / 8)).foldl
      (fun s k => s.storeMem (a + (8 - a % 8) + 8 * k) ((b.drop (8 - a % 8 + 8 * k)).take 8))
      (s.storeMem a (b.take (8 - a % 8))) from if_neg g]
    exact (foldl_keeps (f := fun s k => s.storeMem (a + (8 - a % 8) + 8 * k) ((b.drop (8 - a % 8 + 8 * k)).take 8)) State.ltn
      (fun s _ _ => s.ltn_storeMem _ _) _).trans (s.ltn_storeMem _ _)

/-- A store to memory changes no thread's state. -/
theorem State.thr_storeAt (s : State) (t u pa : Nat) (bs : Bytes) (g : region s.part pa ∈ [Region.hbm, .trie, .pktBuf, .mac]) :
    (s.storeAt t pa bs).thr u = s.thr u := by
  refine State.thr_of_threads ?_ u
  unfold State.storeAt
  split
  · rw [State.ltn_storeAll]
  · rw [State.ltn_storeAll]
  · rw [State.ltn_storeAll]
  · rw [State.ltn_storeAll]
  · next h => rw [h] at g; simp at g
  · rfl

/-- What the write of a store or an atomic leaves of the memory, in memory that takes it (R145, R292). -/
theorem State.storeAt_bytes (s : State) (t : Nat) {pa : Nat} {bs : Bytes} (hl : bs.length ≤ 8) :
    (region s.part pa ∈ [Region.hbm, .pktBuf, .mac] →
      (∀ x, (x < pa ∨ pa + bs.length ≤ x) → (s.storeAt t pa bs).byte x = s.byte x)
        ∧ (s.storeAt t pa bs).bytes pa bs.length = bs)
    ∧ (region s.part pa = .trie → pa % 8 + bs.length ≤ 8 →
      ∀ x, (x < 16 * (pa / 16) ∨ 16 * (pa / 16) + 16 ≤ x) → (s.storeAt t pa bs).byte x = s.byte x) := by
  refine ⟨fun g => ?_, fun g hp x hx => s.byte_storeAt_trie t g hp hx⟩
  rw [s.storeAt_plain t hl g]
  refine ⟨fun x hx => ?_, s.bytes_setBytes pa bs⟩
  rw [State.byte_setBytes, if_neg (by omega)]

end Sys2Proof.Machine
end

