-- ==== Sys2Proof/Laws/Untouched.lean ====
section
/-! SUPPORT. Operations and commands that store nothing in memory: each lemma says that the bytes of memory and their poison marks
are as before. -/

namespace Sys2Proof.Machine
@[simp] theorem ite_mem (c : Prop) [Decidable c] (a b : State) : (if c then a else b).mem = if c then a.mem else b.mem := apply_ite _ _ _ _
@[simp] theorem ite_poison (c : Prop) [Decidable c] (a b : State) : (if c then a else b).poison = if c then a.poison else b.poison := apply_ite _ _ _ _
@[simp] theorem foldl_both {α : Type} {f : State → α → State} {l : List α} (h : ∀ s x, (f s x).mem = s.mem ∧ (f s x).poison = s.poison) (s : State) :
    (l.foldl f s).mem = s.mem ∧ (l.foldl f s).poison = s.poison := by
  induction l generalizing s with
  | nil => exact ⟨rfl, rfl⟩
  | cons x r ih => exact ⟨(ih _).1.trans (h s x).1, (ih _).2.trans (h s x).2⟩
@[simp] theorem State.modCore_keeps (s : State) (c : Nat) (f : Core → Core) : (State.modCore s c f).mem = s.mem ∧ (State.modCore s c f).poison = s.poison := by
  unfold State.modCore
  try dsimp only
  simp_all
@[simp] theorem State.modThr_keeps (s : State) (t : Nat) (f : Thread → Thread) : (State.modThr s t f).mem = s.mem ∧ (State.modThr s t f).poison = s.poison := by
  unfold State.modThr
  try dsimp only
  simp_all
@[simp] theorem State.wrs_keeps (s : State) (i : Nat) (l : List (Fld × Nat)) : (State.wrs s i l).mem = s.mem ∧ (State.wrs s i l).poison = s.poison := by
  unfold State.wrs
  try dsimp only
  simp_all
@[simp] theorem State.settleCore_keeps (s : State) (c : Nat) : (State.settleCore s c).mem = s.mem ∧ (State.settleCore s c).poison = s.poison := by
  unfold State.settleCore
  try dsimp only
  (repeat' split) <;> simp_all
@[simp] theorem State.settleGroup_keeps (s : State) (x : Nat) : (State.settleGroup s x).mem = s.mem ∧ (State.settleGroup s x).poison = s.poison := by
  unfold State.settleGroup
  try dsimp only
  (repeat' split) <;> simp_all
@[simp] theorem State.settle_keeps (s : State) (t : Nat) : (State.settle s t).mem = s.mem ∧ (State.settle s t).poison = s.poison := by
  unfold State.settle
  try dsimp only
  simp_all
@[simp] theorem State.haltThread_keeps (s : State) (t cause : Nat) : (State.haltThread s t cause).mem = s.mem ∧ (State.haltThread s t cause).poison = s.poison := by
  unfold State.haltThread
  try dsimp only
  (repeat' split) <;> simp_all
@[simp] theorem State.resumeWait_keeps (s : State) (t : Nat) : (State.resumeWait s t).mem = s.mem ∧ (State.resumeWait s t).poison = s.poison := by
  unfold State.resumeWait
  try dsimp only
  (repeat' split) <;> simp_all
@[simp] theorem State.latchSet_keeps (s : State) (t mask : Nat) : (State.latchSet s t mask).mem = s.mem ∧ (State.latchSet s t mask).poison = s.poison := by
  unfold State.latchSet
  try dsimp only
  (repeat' split) <;> simp_all
@[simp] theorem State.latchAll_keeps (s : State) (l : List (Nat × Nat)) : (State.latchAll s l).mem = s.mem ∧ (State.latchAll s l).poison = s.poison := by
  unfold State.latchAll
  try dsimp only
  simp_all
@[simp] theorem State.fire_keeps (s : State) (ty id : Nat) : (State.fire s ty id).mem = s.mem ∧ (State.fire s ty id).poison = s.poison := by
  unfold State.fire
  try dsimp only
  simp_all
@[simp] theorem State.lumenOvf_keeps (s : State) (b : Nat) : (State.lumenOvf s b).mem = s.mem ∧ (State.lumenOvf s b).poison = s.poison := by
  unfold State.lumenOvf
  try dsimp only
  simp_all
@[simp] theorem State.setSat_keeps (s : State) (b c : Nat) : (State.setSat s b c).mem = s.mem ∧ (State.setSat s b c).poison = s.poison := by
  unfold State.setSat
  try dsimp only
  (repeat' split) <;> simp_all
@[simp] theorem State.addCtr_keeps (s : State) (b c n : Nat) : (State.addCtr s b c n).mem = s.mem ∧ (State.addCtr s b c n).poison = s.poison := by
  unfold State.addCtr
  try dsimp only
  (repeat' split) <;> simp_all
@[simp] theorem State.countIf_keeps (s : State) (b n : Nat) (p : State → Nat → Bool) :
    (s.countIf b n p).mem = s.mem ∧ (s.countIf b n p).poison = s.poison := by
  unfold State.countIf
  exact foldl_both (fun s c => by split <;> simp) s
@[simp] theorem State.countThr_keeps (s : State) (t ev n : Nat) : (State.countThr s t ev n).mem = s.mem ∧ (State.countThr s t ev n).poison = s.poison := by
  unfold State.countThr
  exact s.countIf_keeps _ _ _
@[simp] theorem State.sat_keeps (s : State) (f : Fld) (i n : Nat) : (State.sat s f i n).mem = s.mem ∧ (State.sat s f i n).poison = s.poison := by
  unfold State.sat
  try dsimp only
  simp_all
@[simp] theorem State.pushFault_keeps (s : State) (c : Nat) (r : FltRec) (mask : Nat) : (State.pushFault s c r mask).mem = s.mem ∧ (State.pushFault s c r mask).poison = s.poison := by
  unfold State.pushFault
  try dsimp only
  (repeat' split) <;> simp_all
@[simp] theorem State.nestedFault_keeps (s : State) (t : Nat) (cls : Cls) : (State.nestedFault s t cls).mem = s.mem ∧ (State.nestedFault s t cls).poison = s.poison := by
  unfold State.nestedFault
  try dsimp only
  (repeat' split) <;> simp_all
@[simp] theorem State.enter_keeps (s : State) (t : Nat) (cls : Cls) (info : Nat) (ret : Word) : (State.enter s t cls info ret).mem = s.mem ∧ (State.enter s t cls info ret).poison = s.poison := by
  unfold State.enter
  try dsimp only
  (repeat' split) <;> simp_all
@[simp] theorem State.takeInterrupt_keeps (s : State) (t : Nat) : (State.takeInterrupt s t).mem = s.mem ∧ (State.takeInterrupt s t).poison = s.poison := by
  unfold State.takeInterrupt
  try dsimp only
  simp_all
theorem State.boundary_keeps {s n : State} {t : Nat} (h : s.boundary t = some n) : n.mem = s.mem ∧ n.poison = s.poison := by
  have e : ∀ {a b : State}, some a = some b → a.mem = s.mem ∧ a.poison = s.poison → b.mem = s.mem ∧ b.poison = s.poison := by
    intro a b h g
    rw [← Option.some.inj h]
    exact g
  unfold State.boundary at h
  split at h
  · exact e h (by simp)
  split at h
  · exact e h (by simp)
  split at h
  · exact e h (by simp)
  · cases h
@[simp] theorem State.issue_keeps (s : State) (t : Nat) (k : State → State) (hk : ∀ s : State, (k s).mem = s.mem ∧ (k s).poison = s.poison): (State.issue s t k).mem = s.mem ∧ (State.issue s t k).poison = s.poison := by
  unfold State.issue
  split
  · split
    · next h => exact State.boundary_keeps h
    · exact hk s
  · exact ⟨rfl, rfl⟩
@[simp] theorem State.raiseAt_keeps (s : State) (t : Nat) (cls : Cls) (info : Nat) : (State.raiseAt s t cls info).mem = s.mem ∧ (State.raiseAt s t cls info).poison = s.poison := by
  unfold State.raiseAt
  try dsimp only
  simp_all
@[simp] theorem State.retireK_keeps (s : State) (t : Nat) (keep : Bool) (npc : Word) (f : Thread → Thread) : (State.retireK s t keep npc f).mem = s.mem ∧ (State.retireK s t keep npc f).poison = s.poison := by
  unfold State.retireK
  try dsimp only
  (repeat' split) <;> simp_all
@[simp] theorem State.sysReg_keeps (s : State) (t n : Nat) : (State.sysReg s t n).2.mem = s.mem ∧ (State.sysReg s t n).2.poison = s.poison := by
  unfold State.sysReg
  try dsimp only
  (repeat' split) <;> simp_all
@[simp] theorem doSrr_keeps (t : Nat) (rd : Reg5) (reg : BitVec 12) (s : State) : (doSrr t rd reg s).mem = s.mem ∧ (doSrr t rd reg s).poison = s.poison := by
  unfold doSrr
  try dsimp only
  (repeat' split) <;> simp_all
@[simp] theorem State.privOr_keeps (s : State) (t word : Nat) (k : State → State) (hk : ∀ s : State, (k s).mem = s.mem ∧ (k s).poison = s.poison): (State.privOr s t word k).mem = s.mem ∧ (State.privOr s t word k).poison = s.poison := by
  unfold State.privOr
  try dsimp only
  (repeat' split) <;> simp_all
@[simp] theorem doSrw_keeps (t : Nat) (ra : Reg5) (reg : BitVec 12) (s : State) : (doSrw t ra reg s).mem = s.mem ∧ (doSrw t ra reg s).poison = s.poison := by
  unfold doSrw
  try dsimp only
  (repeat' split) <;> simp_all
@[simp] theorem doSyscall_keeps (t : Nat) (code : BitVec 12) (s : State) : (doSyscall t code s).mem = s.mem ∧ (doSyscall t code s).poison = s.poison := by
  unfold doSyscall
  try dsimp only
  simp_all
@[simp] theorem doEret_keeps (t : Nat) (s : State) : (doEret t s).mem = s.mem ∧ (doEret t s).poison = s.poison := by
  unfold doEret
  try dsimp only
  simp_all
@[simp] theorem doBrk_keeps (t : Nat) (code : BitVec 12) (s : State) : (doBrk t code s).mem = s.mem ∧ (doBrk t code s).poison = s.poison := by
  unfold doBrk
  try dsimp only
  simp_all
@[simp] theorem State.retire_keeps (s : State) (t : Nat) (f : Thread → Thread) : (State.retire s t f).mem = s.mem ∧ (State.retire s t f).poison = s.poison := by
  unfold State.retire
  try dsimp only
  simp_all
@[simp] theorem doIen_keeps (t : Nat) (s : State) : (doIen t s).mem = s.mem ∧ (doIen t s).poison = s.poison := by
  unfold doIen
  try dsimp only
  simp_all
@[simp] theorem doIdis_keeps (t : Nat) (s : State) : (doIdis t s).mem = s.mem ∧ (doIdis t s).poison = s.poison := by
  unfold doIdis
  try dsimp only
  simp_all
@[simp] theorem State.dmaTlbDrop_keeps (s : State) (cl scope asid arg : Nat) : (State.dmaTlbDrop s cl scope asid arg).mem = s.mem ∧ (State.dmaTlbDrop s cl scope asid arg).poison = s.poison := by
  unfold State.dmaTlbDrop
  try dsimp only
  simp_all
@[simp] theorem State.tlbDrop_keeps (s : State) (c scope asid arg : Nat) : (State.tlbDrop s c scope asid arg).mem = s.mem ∧ (State.tlbDrop s c scope asid arg).poison = s.poison := by
  unfold State.tlbDrop
  try dsimp only
  simp_all
@[simp] theorem doTlbi_keeps (t : Nat) (ra : Reg5) (scope : BitVec 2) (s : State) : (doTlbi t ra scope s).mem = s.mem ∧ (doTlbi t ra scope s).poison = s.poison := by
  unfold doTlbi
  try dsimp only
  (repeat' split) <;> simp_all
@[simp] theorem doNops_keeps (t : Nat) (s : State) : (doNops t s).mem = s.mem ∧ (doNops t s).poison = s.poison := by
  unfold doNops
  try dsimp only
  simp_all
@[simp] theorem doFence_keeps (t : Nat) (s : State) : (doFence t s).mem = s.mem ∧ (doFence t s).poison = s.poison := by
  unfold doFence
  try dsimp only
  simp_all
@[simp] theorem doIfence_keeps (t : Nat) (s : State) : (doIfence t s).mem = s.mem ∧ (doIfence t s).poison = s.poison := by
  unfold doIfence
  try dsimp only
  simp_all
@[simp] theorem State.count_keeps (s : State) (b ev n : Nat) : (State.count s b ev n).mem = s.mem ∧ (State.count s b ev n).poison = s.poison := by
  unfold State.count
  exact s.countIf_keeps _ _ _
@[simp] theorem State.result_keeps (s : State) (t : Nat) (rd : Reg5) (v : Word) : (State.result s t rd v).mem = s.mem ∧ (State.result s t rd v).poison = s.poison := by
  unfold State.result
  try dsimp only
  simp_all
@[simp] theorem doCtrrd_keeps (t : Nat) (rd ra : Reg5) (s : State) : (doCtrrd t rd ra s).mem = s.mem ∧ (doCtrrd t rd ra s).poison = s.poison := by
  unfold doCtrrd
  try dsimp only
  simp_all
@[simp] theorem doIllegalInstruction_keeps (t word : Nat) (s : State) : (doIllegalInstruction t word s).mem = s.mem ∧ (doIllegalInstruction t word s).poison = s.poison := by
  unfold doIllegalInstruction
  try dsimp only
  (repeat' split) <;> simp_all
@[simp] theorem State.countSub_keeps (s : State) (b ev i n : Nat) : (State.countSub s b ev i n).mem = s.mem ∧ (State.countSub s b ev i n).poison = s.poison := by
  unfold State.countSub
  exact s.countIf_keeps _ _ _
@[simp] theorem State.tlpIn_keeps (s : State) (l : Nat) : (State.tlpIn s l).mem = s.mem ∧ (State.tlpIn s l).poison = s.poison := by
  unfold State.tlpIn
  simp_all
@[simp] theorem State.tlpOut_keeps (s : State) (l : Nat) : (State.tlpOut s l).mem = s.mem ∧ (State.tlpOut s l).poison = s.poison := by
  unfold State.tlpOut
  simp_all
@[simp] theorem State.tlpBoth_keeps (s : State) (l : Nat) : (State.tlpBoth s l).mem = s.mem ∧ (State.tlpBoth s l).poison = s.poison := by
  unfold State.tlpBoth
  simp_all
@[simp] theorem State.sendTlp_keeps (s : State) (l : Nat) (o : Out) : (State.sendTlp s l o).mem = s.mem ∧ (State.sendTlp s l o).poison = s.poison := by
  unfold State.sendTlp
  simp_all
@[simp] theorem State.countQm_keeps (s : State) (f ev n : Nat) : (State.countQm s f ev n).mem = s.mem ∧ (State.countQm s f ev n).poison = s.poison := by
  unfold State.countQm
  try dsimp only
  simp_all
@[simp] theorem State.countHost_keeps (s : State) (f ev n : Nat) : (State.countHost s f ev n).mem = s.mem ∧ (State.countHost s f ev n).poison = s.poison := by
  unfold State.countHost
  try dsimp only
  simp_all
@[simp] theorem State.emitReads_keeps (s : State) (ha : HAddr) (n a l : Nat) :
    (s.emitReads ha n a l).mem = s.mem ∧ (s.emitReads ha n a l).poison = s.poison := by
  induction n generalizing s a l with
  | zero => exact ⟨rfl, rfl⟩
  | succ n ih =>
    unfold State.emitReads
    simp_all
@[simp] theorem State.setSqRun_keeps (s : State) (q : Nat) (x : SqRun) : (State.setSqRun s q x).mem = s.mem ∧ (State.setSqRun s q x).poison = s.poison := by
  unfold State.setSqRun
  try dsimp only
  simp_all
@[simp] theorem State.setFlag_keeps (s : State) (f : Fld) (i : Nat) (b : Bool) : (State.setFlag s f i b).mem = s.mem ∧ (State.setFlag s f i b).poison = s.poison := by
  unfold State.setFlag
  try dsimp only
  simp_all
@[simp] theorem State.settleCq_keeps (s : State) (c : Nat) : (State.settleCq s c).mem = s.mem ∧ (State.settleCq s c).poison = s.poison := by
  unfold State.settleCq
  try dsimp only
  simp_all
@[simp] theorem State.fetch_keeps (s : State) (link q n : Nat) (reads : List ReadResult) : (State.fetch s link q n reads).mem = s.mem ∧ (State.fetch s link q n reads).poison = s.poison := by
  unfold State.fetch
  dsimp only
  have h : ∀ (c : Bool) (x : State), x.mem = s.mem ∧ x.poison = s.poison →
      (if c = true then s else x).mem = s.mem ∧ (if c = true then s else x).poison = s.poison := by
    intro c x hx
    split
    · exact ⟨rfl, rfl⟩
    · exact hx
  simp [h]
@[simp] theorem State.countPoison_keeps (s : State) (a n : Nat) : (State.countPoison s a n).mem = s.mem ∧ (State.countPoison s a n).poison = s.poison := by
  unfold State.countPoison
  try dsimp only
  (repeat' split) <;> simp_all
@[simp] theorem State.raiseUe_keeps (s : State) (t va pa n : Nat) (k : AKind) : (State.raiseUe s t va pa n k).mem = s.mem ∧ (State.raiseUe s t va pa n k).poison = s.poison := by
  unfold State.raiseUe
  try dsimp only
  simp_all
@[simp] theorem translateWith_keeps (s : State) (cap : Nat) (tlb : List TlbEnt) (ptbr asid va : Nat) (k : AKind) (pl1 : Bool) : (translateWith s cap tlb ptbr asid va k pl1).2.2.2.mem = s.mem ∧ (translateWith s cap tlb ptbr asid va k pl1).2.2.2.poison = s.poison := by
  rcases translateWith_state s cap tlb ptbr asid va k pl1 with e | e <;> rw [e] <;> exact ⟨rfl, rfl⟩
@[simp] theorem State.translate_keeps (s : State) (t : Nat) (va : Nat) (k : AKind) : (State.translate s t va k).2.mem = s.mem ∧ (State.translate s t va k).2.poison = s.poison := by
  unfold State.translate
  try dsimp only
  (repeat' split) <;> simp_all
@[simp] theorem State.reach_keeps (s : State) (t va : Nat) (k : AKind) (block : Bool) : (State.reach s t va k block).2.mem = s.mem ∧ (State.reach s t va k block).2.poison = s.poison := by
  have e := s.translate_keeps t va k
  unfold State.reach
  split
  · next g =>
    rw [g] at e
    split <;> exact e
  · next g =>
    rw [g] at e
    exact e
@[simp] theorem doInstructionFetchFault_keeps (t : Nat) (s : State) : (doInstructionFetchFault t s).mem = s.mem ∧ (doInstructionFetchFault t s).poison = s.poison := by
  unfold doInstructionFetchFault
  refine State.issue_keeps _ _ _ fun s => ?_
  dsimp only
  have e := s.reach_keeps t (s.thr t).pc.toNat .fetch false
  split
  · next g =>
    rw [g] at e
    simp_all
  · next g =>
    rw [g] at e
    simp_all

@[simp] theorem State.setField_keeps (s : State) (f : Fld) (i val : Nat) : (State.setField s f i val).mem = s.mem ∧ (State.setField s f i val).poison = s.poison := by
  unfold State.setField
  try dsimp only
  (repeat' split) <;> simp_all
@[simp] theorem State.wrDmaRing_keeps (s : State) (i val : Nat) : (State.wrDmaRing s i val).mem = s.mem ∧ (State.wrDmaRing s i val).poison = s.poison := by
  unfold State.wrDmaRing
  try dsimp only
  (repeat' split) <;> simp_all
@[simp] theorem doDmaRingEnable_keeps (w : Writer) (cluster r val : Nat) (s : State) : (doDmaRingEnable w cluster r val s).mem = s.mem ∧ (doDmaRingEnable w cluster r val s).poison = s.poison := by
  unfold doDmaRingEnable
  try dsimp only
  (repeat' split) <;> simp_all
@[simp] theorem State.modJob_keeps (s : State) (n : Nat) (f : Job → Job) : (State.modJob s n f).mem = s.mem ∧ (State.modJob s n f).poison = s.poison := by
  unfold State.modJob
  try dsimp only
  (repeat' split) <;> simp_all
@[simp] theorem State.failHold_keeps (s : State) (cl h : Nat) : (State.failHold s cl h).mem = s.mem ∧ (State.failHold s cl h).poison = s.poison := by
  unfold State.failHold
  try dsimp only
  (repeat' split) <;> simp_all
@[simp] theorem doXlfHoldTimeout_keeps (cluster hold : Nat) (s : State) : (doXlfHoldTimeout cluster hold s).mem = s.mem ∧ (doXlfHoldTimeout cluster hold s).poison = s.poison := by
  unfold doXlfHoldTimeout
  try dsimp only
  (repeat' split) <;> simp_all
@[simp] theorem State.wrField_keeps (s : State) (w : Writer) (f : Fld) (i val : Nat) : (State.wrField s w f i val).mem = s.mem ∧ (State.wrField s w f i val).poison = s.poison := by
  unfold State.wrField
  try dsimp only
  (repeat' split) <;> simp_all
@[simp] theorem State.wrReg_keeps (s : State) (w : Writer) (d : RegD) (i val : Nat) : (State.wrReg s w d i val).mem = s.mem ∧ (State.wrReg s w d i val).poison = s.poison := by
  unfold State.wrReg
  try dsimp only
  simp_all
@[simp] theorem State.wrTlbi_keeps (s : State) (w : Writer) (val : Nat) : (State.wrTlbi s w val).mem = s.mem ∧ (State.wrTlbi s w val).poison = s.poison := by
  unfold State.wrTlbi
  try dsimp only
  (repeat' split) <;> simp_all
@[simp] theorem doTlbiGo_keeps (w : Writer) (val : Nat) (s : State) : (doTlbiGo w val s).mem = s.mem ∧ (doTlbiGo w val s).poison = s.poison := by
  unfold doTlbiGo
  try dsimp only
  (repeat' split) <;> simp_all
@[simp] theorem State.latchLineIn_keeps (s : State) (cl i : Nat) : (State.latchLineIn s cl i).mem = s.mem ∧ (State.latchLineIn s cl i).poison = s.poison := by
  unfold State.latchLineIn
  try dsimp only
  simp_all
@[simp] theorem State.latchLine_keeps (s : State) (i : Nat) : (State.latchLine s i).mem = s.mem ∧ (State.latchLine s i).poison = s.poison := by
  unfold State.latchLine
  try dsimp only
  simp_all
@[simp] theorem doTlbiDone_keeps (s : State) : (doTlbiDone s).mem = s.mem ∧ (doTlbiDone s).poison = s.poison := by
  unfold doTlbiDone
  try dsimp only
  (repeat' split) <;> simp_all
@[simp] theorem State.setTreqs_keeps (s : State) (l : List TReq) : (State.setTreqs s l).mem = s.mem ∧ (State.setTreqs s l).poison = s.poison := by
  unfold State.setTreqs
  try dsimp only
  simp_all
@[simp] theorem State.putTreq_keeps (s : State) (r : TReq) : (State.putTreq s r).mem = s.mem ∧ (State.putTreq s r).poison = s.poison := by
  unfold State.putTreq
  try dsimp only
  simp_all
@[simp] theorem doPageRequestIssue_keeps (pg : HPage) (s : State) : (doPageRequestIssue pg s).mem = s.mem ∧ (doPageRequestIssue pg s).poison = s.poison := by
  unfold doPageRequestIssue
  try dsimp only
  (repeat' split) <;> simp_all
@[simp] theorem State.setFcfg_keeps (s : State) (f : Nat) (c : FnCfg) : (State.setFcfg s f c).mem = s.mem ∧ (State.setFcfg s f c).poison = s.poison := by
  unfold State.setFcfg
  try dsimp only
  simp_all
@[simp] theorem State.viaCfg_keeps (s : State) (f : Nat) (k : State → State) (hk : ∀ s : State, (k s).mem = s.mem ∧ (k s).poison = s.poison): (State.viaCfg s f k).mem = s.mem ∧ (State.viaCfg s f k).poison = s.poison := by
  unfold State.viaCfg
  try dsimp only
  (repeat' split) <;> simp_all
@[simp] theorem doPriEnable_keeps (pf alloc : Nat) (s : State) : (doPriEnable pf alloc s).mem = s.mem ∧ (doPriEnable pf alloc s).poison = s.poison := by
  unfold doPriEnable
  try dsimp only
  (repeat' split) <;> simp_all
@[simp] theorem State.takeInval_keeps (fn tag : Nat) (pasid : Option Nat) (page size : Nat) (s : State) : (State.takeInval fn tag pasid page size s).mem = s.mem ∧ (State.takeInval fn tag pasid page size s).poison = s.poison := by
  unfold State.takeInval
  try dsimp only
  (repeat' split) <;> simp_all
@[simp] theorem doAtsInvalidateRequest_keeps (fn tag : Nat) (pasid : Option Nat) (page size : Nat) (s : State) : (doAtsInvalidateRequest fn tag pasid page size s).mem = s.mem ∧ (doAtsInvalidateRequest fn tag pasid page size s).poison = s.poison := by
  unfold doAtsInvalidateRequest
  simp_all
@[simp] theorem doInvalidationCompletion_keeps (fn tag : Nat) (s : State) : (doInvalidationCompletion fn tag s).mem = s.mem ∧ (doInvalidationCompletion fn tag s).poison = s.poison := by
  unfold doInvalidationCompletion
  try dsimp only
  (repeat' split) <;> simp_all
@[simp] theorem State.wrQmCfg_keeps (s : State) (val : Nat) : (State.wrQmCfg s val).mem = s.mem ∧ (State.wrQmCfg s val).poison = s.poison := by
  unfold State.wrQmCfg
  try dsimp only
  (repeat' split) <;> simp_all
@[simp] theorem doQmEnable_keeps (w : Writer) (val : Nat) (s : State) : (doQmEnable w val s).mem = s.mem ∧ (doQmEnable w val s).poison = s.poison := by
  unfold doQmEnable
  try dsimp only
  (repeat' split) <;> simp_all
@[simp] theorem State.filterRefuse_keeps (s : State) (p : Nat) : (State.filterRefuse s p).mem = s.mem ∧ (State.filterRefuse s p).poison = s.poison := by
  unfold State.filterRefuse
  try dsimp only
  simp_all
@[simp] theorem State.enableSq_keeps (s : State) (q : Nat) : (State.enableSq s q).mem = s.mem ∧ (State.enableSq s q).poison = s.poison := by
  unfold State.enableSq
  try dsimp only
  (repeat' split) <;> simp_all
@[simp] theorem State.wrWord_keeps (s : State) (fs : List Fld) (i k val : Nat) : (State.wrWord s fs i k val).mem = s.mem ∧ (State.wrWord s fs i k val).poison = s.poison := by
  unfold State.wrWord
  try dsimp only
  simp_all
@[simp] theorem State.wrSqWord_keeps (s : State) (q k val : Nat) : (State.wrSqWord s q k val).mem = s.mem ∧ (State.wrSqWord s q k val).poison = s.poison := by
  unfold State.wrSqWord
  try dsimp only
  (repeat' split) <;> simp_all
@[simp] theorem State.writeSq_keeps (s : State) (w : Writer) (q k val : Nat) : (State.writeSq s w q k val).mem = s.mem ∧ (State.writeSq s w q k val).poison = s.poison := by
  unfold State.writeSq
  try dsimp only
  (repeat' split) <;> simp_all
@[simp] theorem doSqEnable_keeps (w : Writer) (q val : Nat) (s : State) : (doSqEnable w q val s).mem = s.mem ∧ (doSqEnable w q val s).poison = s.poison := by
  unfold doSqEnable
  try dsimp only
  (repeat' split) <;> simp_all
@[simp] theorem State.setCqRun_keeps (s : State) (c : Nat) (x : CqRun) : (State.setCqRun s c x).mem = s.mem ∧ (State.setCqRun s c x).poison = s.poison := by
  unfold State.setCqRun
  try dsimp only
  simp_all
@[simp] theorem State.wrCqWord_keeps (s : State) (c k val : Nat) : (State.wrCqWord s c k val).mem = s.mem ∧ (State.wrCqWord s c k val).poison = s.poison := by
  unfold State.wrCqWord
  try dsimp only
  (repeat' split) <;> simp_all
@[simp] theorem State.writeCq_keeps (s : State) (w : Writer) (c k val : Nat) : (State.writeCq s w c k val).mem = s.mem ∧ (State.writeCq s w c k val).poison = s.poison := by
  unfold State.writeCq
  try dsimp only
  (repeat' split) <;> simp_all
@[simp] theorem doCqEnable_keeps (w : Writer) (c val : Nat) (s : State) : (doCqEnable w c val s).mem = s.mem ∧ (doCqEnable w c val s).poison = s.poison := by
  unfold doCqEnable
  try dsimp only
  (repeat' split) <;> simp_all
@[simp] theorem State.badAccess_keeps (s : State) (f : Nat) : (State.badAccess s f).mem = s.mem ∧ (State.badAccess s f).poison = s.poison := by
  unfold State.badAccess
  try dsimp only
  simp_all
@[simp] theorem State.intx_keeps (s : State) (p : Nat) : (State.intx s p).mem = s.mem ∧ (State.intx s p).poison = s.poison := by
  unfold State.intx
  try dsimp only
  (repeat' split) <;> simp_all
@[simp] theorem State.setPend_keeps (s : State) (f v : Nat) (b : Bool) : (State.setPend s f v b).mem = s.mem ∧ (State.setPend s f v b).poison = s.poison := by
  unfold State.setPend
  try dsimp only
  simp_all
@[simp] theorem State.msix_keeps (s : State) (f v : Nat) : (State.msix s f v).mem = s.mem ∧ (State.msix s f v).poison = s.poison := by
  unfold State.msix
  try dsimp only
  (repeat' split) <;> simp_all
@[simp] theorem State.pfEvent_keeps (s : State) (f : Nat) (bit : Fld) : (State.pfEvent s f bit).mem = s.mem ∧ (State.pfEvent s f bit).poison = s.poison := by
  unfold State.pfEvent
  try dsimp only
  (repeat' split) <;> simp_all
@[simp] theorem State.ringSq_keeps (s : State) (q v : Nat) : (State.ringSq s q v).mem = s.mem ∧ (State.ringSq s q v).poison = s.poison := by
  unfold State.ringSq
  try dsimp only
  (repeat' split) <;> simp_all
@[simp] theorem State.aer_keeps (s : State) (f c : Nat) : (State.aer s f c).mem = s.mem ∧ (State.aer s f c).poison = s.poison := by
  unfold State.aer
  try dsimp only
  simp_all
@[simp] theorem State.viaBar_keeps (s : State) (f : Nat) (k : State → State) (hk : ∀ s : State, (k s).mem = s.mem ∧ (k s).poison = s.poison): (State.viaBar s f k).mem = s.mem ∧ (State.viaBar s f k).poison = s.poison := by
  unfold State.viaBar
  try dsimp only
  (repeat' split) <;> simp_all
@[simp] theorem doSqDoorbell_keeps (fn idx pi : Nat) (s : State) : (doSqDoorbell fn idx pi s).mem = s.mem ∧ (doSqDoorbell fn idx pi s).poison = s.poison := by
  unfold doSqDoorbell
  refine State.viaBar_keeps _ _ _ fun s => ?_
  split <;> simp
@[simp] theorem State.ackVector_keeps (s : State) (f v : Nat) : (State.ackVector s f v).mem = s.mem ∧ (State.ackVector s f v).poison = s.poison := by
  unfold State.ackVector
  try dsimp only
  (repeat' split) <;> simp_all
@[simp] theorem State.ringCq_keeps (s : State) (c h : Nat) : (State.ringCq s c h).mem = s.mem ∧ (State.ringCq s c h).poison = s.poison := by
  unfold State.ringCq
  try dsimp only
  (repeat' split) <;> simp_all
@[simp] theorem doCqHeadDoorbell_keeps (fn idx head : Nat) (s : State) : (doCqHeadDoorbell fn idx head s).mem = s.mem ∧ (doCqHeadDoorbell fn idx head s).poison = s.poison := by
  unfold doCqHeadDoorbell
  refine State.viaBar_keeps _ _ _ fun s => ?_
  split <;> simp
@[simp] theorem doCqOvfClr_keeps (fn idx : Nat) (s : State) : (doCqOvfClr fn idx s).mem = s.mem ∧ (doCqOvfClr fn idx s).poison = s.poison := by
  unfold doCqOvfClr
  refine State.viaBar_keeps _ _ _ fun s => ?_
  split <;> simp
@[simp] theorem State.visit_keeps (s : State) (link q : Nat) (reads : List ReadResult) : (State.visit s link q reads).mem = s.mem ∧ (State.visit s link q reads).poison = s.poison := by
  unfold State.visit
  try dsimp only
  simp_all
@[simp] theorem doFetchVisit_keeps (link : Nat) (reads : List ReadResult) (s : State) : (doFetchVisit link reads s).mem = s.mem ∧ (doFetchVisit link reads s).poison = s.poison := by
  unfold doFetchVisit
  try dsimp only
  (repeat' split) <;> simp_all
@[simp] theorem State.cqMessage_keeps (s : State) (c : Nat) : (State.cqMessage s c).mem = s.mem ∧ (State.cqMessage s c).poison = s.poison := by
  unfold State.cqMessage
  try dsimp only
  simp_all
@[simp] theorem State.modNvm_keeps (s : State) (k : Nvm → Nvm) : (State.modNvm s k).mem = s.mem ∧ (State.modNvm s k).poison = s.poison := by
  unfold State.modNvm
  try dsimp only
  simp_all
@[simp] theorem State.setNctl_keeps (s : State) (f : Nat) (x : NCtl) : (State.setNctl s f x).mem = s.mem ∧ (State.setNctl s f x).poison = s.poison := by
  unfold State.setNctl
  try dsimp only
  simp_all
@[simp] theorem doCoalTimerExpire_keeps (c : Nat) (s : State) : (doCoalTimerExpire c s).mem = s.mem ∧ (doCoalTimerExpire c s).poison = s.poison := by
  unfold doCoalTimerExpire
  try dsimp only
  (repeat' split) <;> simp_all
@[simp] theorem State.chan_keeps (s : State) (t : Nat) (k : State → State) (hk : ∀ s : State, (k s).mem = s.mem ∧ (k s).poison = s.poison): (State.chan s t k).mem = s.mem ∧ (State.chan s t k).poison = s.poison := by
  unfold State.chan
  try dsimp only
  simp_all
@[simp] theorem State.fireChannel_keeps (s : State) (chan : Nat) : (State.fireChannel s chan).mem = s.mem ∧ (State.fireChannel s chan).poison = s.poison := by
  unfold State.fireChannel
  try dsimp only
  simp_all
@[simp] theorem State.pushSlot_keeps (s : State) (chan : Nat) (st : SlotSt) (m : ChMsg) : (State.pushSlot s chan st m).mem = s.mem ∧ (State.pushSlot s chan st m).poison = s.poison := by
  unfold State.pushSlot
  try dsimp only
  simp_all
@[simp] theorem State.hwCommitF_keeps (s : State) (chan : Nat) (words : List Nat) (taint tagFail : Bool) : (State.hwCommitF s chan words taint tagFail).mem = s.mem ∧ (State.hwCommitF s chan words taint tagFail).poison = s.poison := by
  unfold State.hwCommitF
  try dsimp only
  (repeat' split) <;> simp_all
@[simp] theorem State.hwCommit_keeps (s : State) (chan : Nat) (words : List Nat) : (State.hwCommit s chan words).mem = s.mem ∧ (State.hwCommit s chan words).poison = s.poison := by
  unfold State.hwCommit
  try dsimp only
  simp_all
@[simp] theorem State.noticeCount_keeps (s : State) : (State.noticeCount s).mem = s.mem ∧ (State.noticeCount s).poison = s.poison := by
  unfold State.noticeCount
  try dsimp only
  simp_all
@[simp] theorem State.noticeLost_keeps (s : State) : (State.noticeLost s).mem = s.mem ∧ (State.noticeLost s).poison = s.poison := by
  unfold State.noticeLost
  try dsimp only
  simp_all
@[simp] theorem doFuncNoticeCommit_keeps (s : State) : (doFuncNoticeCommit s).mem = s.mem ∧ (doFuncNoticeCommit s).poison = s.poison := by
  unfold doFuncNoticeCommit
  try dsimp only
  (repeat' split) <;> simp_all
@[simp] theorem State.notice_keeps (s : State) (ev scope fn : Nat) : (State.notice s ev scope fn).mem = s.mem ∧ (State.notice s ev scope fn).poison = s.poison := by
  unfold State.notice
  try dsimp only
  (repeat' split) <;> simp_all
@[simp] theorem State.settleFn_keeps (s : State) (f : Nat) : (State.settleFn s f).mem = s.mem ∧ (State.settleFn s f).poison = s.poison := by
  unfold State.settleFn
  try dsimp only
  (repeat' split) <;> simp_all
@[simp] theorem State.unquiesce_keeps (s : State) (f : Nat) : (State.unquiesce s f).mem = s.mem ∧ (State.unquiesce s f).poison = s.poison := by
  unfold State.unquiesce
  try dsimp only
  simp_all
@[simp] theorem State.viaFn_keeps (s : State) (w : Writer) (off f : Nat) (k : State → State) (hk : ∀ s : State, (k s).mem = s.mem ∧ (k s).poison = s.poison): (State.viaFn s w off f k).mem = s.mem ∧ (State.viaFn s w off f k).poison = s.poison := by
  unfold State.viaFn
  try dsimp only
  (repeat' split) <;> simp_all
@[simp] theorem doQuiesceClear_keeps (w : Writer) (fn : Nat) (s : State) : (doQuiesceClear w fn s).mem = s.mem ∧ (doQuiesceClear w fn s).poison = s.poison := by
  unfold doQuiesceClear
  try dsimp only
  (repeat' split) <;> simp_all
@[simp] theorem State.setMir_keeps (s : State) (m : Nat) (x : MirRun) : (State.setMir s m x).mem = s.mem ∧ (State.setMir s m x).poison = s.poison := by
  unfold State.setMir
  try dsimp only
  simp_all
@[simp] theorem State.wrMirCfg_keeps (s : State) (m val : Nat) : (State.wrMirCfg s m val).mem = s.mem ∧ (State.wrMirCfg s m val).poison = s.poison := by
  unfold State.wrMirCfg
  try dsimp only
  (repeat' split) <;> simp_all
@[simp] theorem doMirrorEnable_keeps (w : Writer) (m val : Nat) (s : State) : (doMirrorEnable w m val s).mem = s.mem ∧ (doMirrorEnable w m val s).poison = s.poison := by
  unfold doMirrorEnable
  try dsimp only
  (repeat' split) <;> simp_all
@[simp] theorem State.endJob_keeps (s : State) (n : Nat) : (State.endJob s n).mem = s.mem ∧ (State.endJob s n).poison = s.poison := by
  unfold State.endJob
  try dsimp only
  simp_all
@[simp] theorem State.forgetJob_keeps (s : State) (n : Nat) : (State.forgetJob s n).mem = s.mem ∧ (State.forgetJob s n).poison = s.poison := by
  unfold State.forgetJob
  try dsimp only
  simp_all
@[simp] theorem State.harvestEnd_keeps (s : State) (m result : Nat) : (State.harvestEnd s m result).mem = s.mem ∧ (State.harvestEnd s m result).poison = s.poison := by
  unfold State.harvestEnd
  try dsimp only
  (repeat' split) <;> simp_all
@[simp] theorem doHarvestDone_keeps (m : Nat) (s : State) : (doHarvestDone m s).mem = s.mem ∧ (doHarvestDone m s).poison = s.poison := by
  unfold doHarvestDone
  try dsimp only
  (repeat' split) <;> simp_all
@[simp] theorem doHarvestNoFlush_keeps (m : Nat) (s : State) : (doHarvestNoFlush m s).mem = s.mem ∧ (doHarvestNoFlush m s).poison = s.poison := by
  unfold doHarvestNoFlush
  try dsimp only
  (repeat' split) <;> simp_all
@[simp] theorem State.latch_keeps (s : State) (t n : Nat) : (State.latch s t n).mem = s.mem ∧ (State.latch s t n).poison = s.poison := by
  unfold State.latch
  try dsimp only
  simp_all
@[simp] theorem State.noticeSafety_keeps (s : State) : (State.noticeSafety s).mem = s.mem ∧ (State.noticeSafety s).poison = s.poison := by
  unfold State.noticeSafety
  try dsimp only
  (repeat' split) <;> simp_all
@[simp] theorem State.raise_keeps (s : State) (f v : Nat) : (State.raise s f v).mem = s.mem ∧ (State.raise s f v).poison = s.poison := by
  unfold State.raise
  try dsimp only
  simp_all
@[simp] theorem State.logAppend_keeps (s : State) (ty actor : Nat) (detail : List Nat) (anchored : Bool) : (State.logAppend s ty actor detail anchored).mem = s.mem ∧ (State.logAppend s ty actor detail anchored).poison = s.poison := by
  unfold State.logAppend
  try dsimp only
  (repeat' split) <;> simp_all
@[simp] theorem State.refuse_keeps (s : State) (w : Writer) (off : Nat) : (State.refuse s w off).mem = s.mem ∧ (State.refuse s w off).poison = s.poison := by
  unfold State.refuse
  try dsimp only
  (repeat' split) <;> simp_all
@[simp] theorem State.setting_keeps (s : State) (w : Writer) (off val : Nat) (k : State → State) (hk : ∀ s : State, (k s).mem = s.mem ∧ (k s).poison = s.poison): (State.setting s w off val k).mem = s.mem ∧ (State.setting s w off val k).poison = s.poison := by
  unfold State.setting
  try dsimp only
  (repeat' split) <;> simp_all
@[simp] theorem State.modGlint_keeps (s : State) (f : Glint → Glint) : (State.modGlint s f).mem = s.mem ∧ (State.modGlint s f).poison = s.poison := by
  unfold State.modGlint
  try dsimp only
  simp_all
@[simp] theorem State.dropSlot_keeps (s : State) (slot : Nat) : (State.dropSlot s slot).mem = s.mem ∧ (State.dropSlot s slot).poison = s.poison := by
  unfold State.dropSlot
  try dsimp only
  simp_all
@[simp] theorem State.setDisable_keeps (s : State) (slot : Nat) (b : Bool) : (State.setDisable s slot b).mem = s.mem ∧ (State.setDisable s slot b).poison = s.poison := by
  unfold State.setDisable
  try dsimp only
  (repeat' split) <;> simp_all
@[simp] theorem State.wrRoot_keeps (s : State) (w : Writer) (slot val : Nat) : (State.wrRoot s w slot val).mem = s.mem ∧ (State.wrRoot s w slot val).poison = s.poison := by
  unfold State.wrRoot
  try dsimp only
  (repeat' split) <;> simp_all
@[simp] theorem doRootSlotDisable_keeps (w : Writer) (slot val : Nat) (s : State) : (doRootSlotDisable w slot val s).mem = s.mem ∧ (doRootSlotDisable w slot val s).poison = s.poison := by
  unfold doRootSlotDisable
  try dsimp only
  (repeat' split) <;> simp_all
@[simp] theorem State.wrCtxBase_keeps (s : State) (val : Nat) : (State.wrCtxBase s val).mem = s.mem ∧ (State.wrCtxBase s val).poison = s.poison := by
  unfold State.wrCtxBase
  try dsimp only
  (repeat' split) <;> simp_all
@[simp] theorem doCtxTableEnable_keeps (w : Writer) (val : Nat) (s : State) : (doCtxTableEnable w val s).mem = s.mem ∧ (doCtxTableEnable w val s).poison = s.poison := by
  unfold doCtxTableEnable
  try dsimp only
  (repeat' split) <;> simp_all
@[simp] theorem State.wrCtxCmd_keeps (s : State) (val : Nat) : (State.wrCtxCmd s val).mem = s.mem ∧ (State.wrCtxCmd s val).poison = s.poison := by
  unfold State.wrCtxCmd
  try dsimp only
  (repeat' split) <;> simp_all
@[simp] theorem State.ctxGo_keeps (s : State) (w : Writer) (val op : Nat) : (State.ctxGo s w val op).mem = s.mem ∧ (State.ctxGo s w val op).poison = s.poison := by
  unfold State.ctxGo
  try dsimp only
  (repeat' split) <;> simp_all
@[simp] theorem doCtxFreeze_keeps (w : Writer) (val : Nat) (s : State) : (doCtxFreeze w val s).mem = s.mem ∧ (doCtxFreeze w val s).poison = s.poison := by
  unfold doCtxFreeze
  try dsimp only
  simp_all
@[simp] theorem doCtxRelease_keeps (w : Writer) (val : Nat) (s : State) : (doCtxRelease w val s).mem = s.mem ∧ (doCtxRelease w val s).poison = s.poison := by
  unfold doCtxRelease
  try dsimp only
  simp_all
@[simp] theorem doCtxCmdNop_keeps (w : Writer) (val : Nat) (s : State) : (doCtxCmdNop w val s).mem = s.mem ∧ (doCtxCmdNop w val s).poison = s.poison := by
  unfold doCtxCmdNop
  try dsimp only
  simp_all
@[simp] theorem State.failJob_keeps (s : State) (n st : Nat) : (State.failJob s n st).mem = s.mem ∧ (State.failJob s n st).poison = s.poison := by
  unfold State.failJob
  try dsimp only
  simp_all
@[simp] theorem doGlintChanStall_keeps (job : Nat) (s : State) : (doGlintChanStall job s).mem = s.mem ∧ (doGlintChanStall job s).poison = s.poison := by
  unfold doGlintChanStall
  try dsimp only
  (repeat' split) <;> simp_all
@[simp] theorem State.countGlint_keeps (s : State) (c ev n : Nat) : (State.countGlint s c ev n).mem = s.mem ∧ (State.countGlint s c ev n).poison = s.poison := by
  unfold State.countGlint
  try dsimp only
  simp_all
@[simp] theorem State.freeFrame_keeps (s : State) (p : Pkt) : (State.freeFrame s p).mem = s.mem ∧ (State.freeFrame s p).poison = s.poison := by
  unfold State.freeFrame
  try dsimp only
  simp_all
@[simp] theorem State.holdCtx_keeps (s : State) (n : Nat) (b : Bytes) : (State.holdCtx s n b).mem = s.mem ∧ (State.holdCtx s n b).poison = s.poison := by
  unfold State.holdCtx
  try dsimp only
  simp_all
@[simp] theorem State.jobIn_keeps (s : State) (c : Nat) : (State.jobIn s c).mem = s.mem ∧ (State.jobIn s c).poison = s.poison := by
  unfold State.jobIn
  try dsimp only
  simp_all
@[simp] theorem State.takeKey_keeps (s : State) (c : Nat) (label : Bytes) (fn : Nat) : (State.takeKey s c label fn).2.mem = s.mem ∧ (State.takeKey s c label fn).2.poison = s.poison := by
  unfold State.takeKey
  try dsimp only
  (repeat' split) <;> simp_all
@[simp] theorem State.settlePll_keeps (s : State) (p : Nat) : (State.settlePll s p).mem = s.mem ∧ (State.settlePll s p).poison = s.poison := by
  unfold State.settlePll
  try dsimp only
  (repeat' split) <;> simp_all
@[simp] theorem State.setPower_keeps (s : State) (b v : Nat) : (State.setPower s b v).mem = s.mem ∧ (State.setPower s b v).poison = s.poison := by
  unfold State.setPower
  try dsimp only
  (repeat' split) <;> simp_all
@[simp] theorem State.wakeBlock_keeps (s : State) (b : Nat) : (State.wakeBlock s b).mem = s.mem ∧ (State.wakeBlock s b).poison = s.poison := by
  unfold State.wakeBlock
  try dsimp only
  (repeat' split) <;> simp_all
@[simp] theorem doGlintInlineStart_keeps (p : Nat) (s : State) : (doGlintInlineStart p s).mem = s.mem ∧ (doGlintInlineStart p s).poison = s.poison := by
  unfold doGlintInlineStart
  try dsimp only
  (repeat' split) <;> simp_all
@[simp] theorem State.setArrivals_keeps (s : State) (p : Nat) (l : List Pkt) : (State.setArrivals s p l).mem = s.mem ∧ (State.setArrivals s p l).poison = s.poison := by
  unfold State.setArrivals
  try dsimp only
  simp_all
@[simp] theorem State.enterPrism_keeps (s : State) (p : Pkt) : (State.enterPrism s p).mem = s.mem ∧ (State.enterPrism s p).poison = s.poison := by
  unfold State.enterPrism
  try dsimp only
  simp_all
@[simp] theorem State.holdFrame_keeps (s : State) (p : Pkt) : (State.holdFrame s p).mem = s.mem ∧ (State.holdFrame s p).poison = s.poison := by
  unfold State.holdFrame
  try dsimp only
  simp_all
@[simp] theorem State.exceptTo_keeps (s : State) (p : Pkt) (q reason : Nat) : (State.exceptTo s p q reason).mem = s.mem ∧ (State.exceptTo s p q reason).poison = s.poison := by
  unfold State.exceptTo
  try dsimp only
  (repeat' split) <;> simp_all
@[simp] theorem State.except_keeps (s : State) (p : Pkt) (reason : Nat) : (State.except s p reason).mem = s.mem ∧ (State.except s p reason).poison = s.poison := by
  unfold State.except
  try dsimp only
  simp_all
@[simp] theorem State.inlineFail_keeps (s : State) (e : Inline) (reason : Nat) : (State.inlineFail s e reason).mem = s.mem ∧ (State.inlineFail s e reason).poison = s.poison := by
  unfold State.inlineFail
  try dsimp only
  (repeat' split) <;> simp_all
@[simp] theorem State.jobOut_keeps (s : State) (c : Nat) : (State.jobOut s c).mem = s.mem ∧ (State.jobOut s c).poison = s.poison := by
  unfold State.jobOut
  try dsimp only
  simp_all
@[simp] theorem State.resizeFrame_keeps (s : State) (p : Pkt) (data : Bytes) : (State.resizeFrame s p data).2.mem = s.mem ∧ (State.resizeFrame s p data).2.poison = s.poison := by
  unfold State.resizeFrame
  try dsimp only
  simp_all
@[simp] theorem doGlintInlineVerdict_keeps (cl : Nat) (s : State) : (doGlintInlineVerdict cl s).mem = s.mem ∧ (doGlintInlineVerdict cl s).poison = s.poison := by
  unfold doGlintInlineVerdict
  try dsimp only
  (repeat' split) <;> simp_all
@[simp] theorem doDrbgReseed_keeps (cl : Option Nat) (s : State) : (doDrbgReseed cl s).mem = s.mem ∧ (doDrbgReseed cl s).poison = s.poison := by
  unfold doDrbgReseed
  try dsimp only
  (repeat' split) <;> simp_all
@[simp] theorem doEntropyHealthFail_keeps (s : State) : (doEntropyHealthFail s).mem = s.mem ∧ (doEntropyHealthFail s).poison = s.poison := by
  unfold doEntropyHealthFail
  try dsimp only
  (repeat' split) <;> simp_all
@[simp] theorem doEntropyHealthPass_keeps (s : State) : (doEntropyHealthPass s).mem = s.mem ∧ (doEntropyHealthPass s).poison = s.poison := by
  unfold doEntropyHealthPass
  try dsimp only
  simp_all
@[simp] theorem State.settleRdy_keeps (s : State) (f : Nat) : (State.settleRdy s f).mem = s.mem ∧ (State.settleRdy s f).poison = s.poison := by
  unfold State.settleRdy
  try dsimp only
  (repeat' split) <;> simp_all
@[simp] theorem State.wrNvmCfg_keeps (s : State) (val : Nat) : (State.wrNvmCfg s val).mem = s.mem ∧ (State.wrNvmCfg s val).poison = s.poison := by
  unfold State.wrNvmCfg
  try dsimp only
  (repeat' split) <;> simp_all
@[simp] theorem doNvmEnable_keeps (w : Writer) (val : Nat) (s : State) : (doNvmEnable w val s).mem = s.mem ∧ (doNvmEnable w val s).poison = s.poison := by
  unfold doNvmEnable
  try dsimp only
  (repeat' split) <;> simp_all
@[simp] theorem State.flushSvc_keeps (n : Nat) (s : State) :
    (State.flushSvc n s).mem = s.mem ∧ (State.flushSvc n s).poison = s.poison := by
  induction n generalizing s with
  | zero => exact ⟨rfl, rfl⟩
  | succ n ih =>
    unfold State.flushSvc
    (repeat' split) <;> simp_all
@[simp] theorem State.svcSend_keeps (s : State) (i : Nat) (w : List Nat) : (State.svcSend s i w).mem = s.mem ∧ (State.svcSend s i w).poison = s.poison := by
  exact State.flushSvc_keeps _ _
@[simp] theorem State.svcEvent_keeps (s : State) (f ty info : Nat) : (State.svcEvent s f ty info).mem = s.mem ∧ (State.svcEvent s f ty info).poison = s.poison := by
  unfold State.svcEvent
  try dsimp only
  simp_all
@[simp] theorem State.nvmeDbBad_keeps (s : State) (f info : Nat) : (State.nvmeDbBad s f info).mem = s.mem ∧ (State.nvmeDbBad s f info).poison = s.poison := by
  unfold State.nvmeDbBad
  try dsimp only
  simp_all
@[simp] theorem State.ringNvmeSq_keeps (s : State) (f id tail : Nat) : (State.ringNvmeSq s f id tail).mem = s.mem ∧ (State.ringNvmeSq s f id tail).poison = s.poison := by
  unfold State.ringNvmeSq
  try dsimp only
  (repeat' split) <;> simp_all
@[simp] theorem State.viaNvme_keeps (s : State) (f : Nat) (k : State → State) (hk : ∀ s : State, (k s).mem = s.mem ∧ (k s).poison = s.poison): (State.viaNvme s f k).mem = s.mem ∧ (State.viaNvme s f k).poison = s.poison := by
  unfold State.viaNvme
  try dsimp only
  simp_all
@[simp] theorem doNvmeSqDoorbell_keeps (fn id tail : Nat) (s : State) : (doNvmeSqDoorbell fn id tail s).mem = s.mem ∧ (doNvmeSqDoorbell fn id tail s).poison = s.poison := by
  unfold doNvmeSqDoorbell
  try dsimp only
  simp_all
@[simp] theorem State.setNcq_keeps (s : State) (c : Nat) (q : NCq) : (State.setNcq s c q).mem = s.mem ∧ (State.setNcq s c q).poison = s.poison := by
  unfold State.setNcq
  try dsimp only
  simp_all
@[simp] theorem State.ringNvmeCq_keeps (s : State) (f id head : Nat) : (State.ringNvmeCq s f id head).mem = s.mem ∧ (State.ringNvmeCq s f id head).poison = s.poison := by
  unfold State.ringNvmeCq
  try dsimp only
  (repeat' split) <;> simp_all
@[simp] theorem doNvmeCqDoorbell_keeps (fn id head : Nat) (s : State) : (doNvmeCqDoorbell fn id head s).mem = s.mem ∧ (doNvmeCqDoorbell fn id head s).poison = s.poison := by
  unfold doNvmeCqDoorbell
  try dsimp only
  simp_all
@[simp] theorem State.setNslot_keeps (s : State) (n : Nat) (x : NSlot) : (State.setNslot s n x).mem = s.mem ∧ (State.setNslot s n x).poison = s.poison := by
  unfold State.setNslot
  try dsimp only
  simp_all
@[simp] theorem doNvmeWriteZeroes_keeps (slot : Nat) (s : State) : (doNvmeWriteZeroes slot s).mem = s.mem ∧ (doNvmeWriteZeroes slot s).poison = s.poison := by
  unfold doNvmeWriteZeroes
  try dsimp only
  (repeat' split) <;> simp_all
@[simp] theorem State.makeReady_keeps (s : State) (n : Nat) (p : NSlot → Bool) : (State.makeReady s n p).mem = s.mem ∧ (State.makeReady s n p).poison = s.poison := by
  unfold State.makeReady
  try dsimp only
  (repeat' split) <;> simp_all
@[simp] theorem doNvmeIdentify_keeps (slot : Nat) (s : State) : (doNvmeIdentify slot s).mem = s.mem ∧ (doNvmeIdentify slot s).poison = s.poison := by
  unfold doNvmeIdentify
  try dsimp only
  simp_all
@[simp] theorem doNvmeGetLogPage_keeps (slot : Nat) (s : State) : (doNvmeGetLogPage slot s).mem = s.mem ∧ (doNvmeGetLogPage slot s).poison = s.poison := by
  unfold doNvmeGetLogPage
  try dsimp only
  simp_all
@[simp] theorem doNvmeAsyncEventRequest_keeps (slot : Nat) (s : State) : (doNvmeAsyncEventRequest slot s).mem = s.mem ∧ (doNvmeAsyncEventRequest slot s).poison = s.poison := by
  unfold doNvmeAsyncEventRequest
  try dsimp only
  simp_all
@[simp] theorem State.endMove_keeps (s : State) (x : NSlot) : (State.endMove s x).mem = s.mem ∧ (State.endMove s x).poison = s.poison := by
  unfold State.endMove
  try dsimp only
  (repeat' split) <;> simp_all
@[simp] theorem State.settlePause_keeps (s : State) : (State.settlePause s).mem = s.mem ∧ (State.settlePause s).poison = s.poison := by
  unfold State.settlePause
  try dsimp only
  (repeat' split) <;> simp_all
@[simp] theorem State.freeSlot_keeps (s : State) (n : Nat) (x : NSlot) : (State.freeSlot s n x).mem = s.mem ∧ (State.freeSlot s n x).poison = s.poison := by
  unfold State.freeSlot
  try dsimp only
  simp_all
@[simp] theorem State.wrNvmDone_keeps (s : State) (val : Nat) : (State.wrNvmDone s val).mem = s.mem ∧ (State.wrNvmDone s val).poison = s.poison := by
  unfold State.wrNvmDone
  try dsimp only
  (repeat' split) <;> simp_all
@[simp] theorem doNvmDone_keeps (w : Writer) (val : Nat) (s : State) : (doNvmDone w val s).mem = s.mem ∧ (doNvmDone w val s).poison = s.poison := by
  unfold doNvmDone
  try dsimp only
  (repeat' split) <;> simp_all
@[simp] theorem State.addCq_keeps (s : State) (c f id base size vec : Nat) (ien : Bool) : (State.addCq s c f id base size vec ien).mem = s.mem ∧ (State.addCq s c f id base size vec ien).poison = s.poison := by
  unfold State.addCq
  try dsimp only
  simp_all
@[simp] theorem State.addSq_keeps (s : State) (q f id base size cq prio : Nat) : (State.addSq s q f id base size cq prio).mem = s.mem ∧ (State.addSq s q f id base size cq prio).poison = s.poison := by
  unfold State.addSq
  try dsimp only
  simp_all
@[simp] theorem State.poolCq_keeps (s : State) : s.poolCq.2.mem = s.mem ∧ s.poolCq.2.poison = s.poison := by
  unfold State.poolCq
  try dsimp only
  simp_all
@[simp] theorem State.poolSq_keeps (s : State) : s.poolSq.2.mem = s.mem ∧ s.poolSq.2.poison = s.poison := by
  unfold State.poolSq
  try dsimp only
  simp_all
@[simp] theorem State.ctlStart_keeps (s : State) (f cc : Nat) : (State.ctlStart s f cc).mem = s.mem ∧ (State.ctlStart s f cc).poison = s.poison := by
  unfold State.ctlStart
  dsimp only
  split
  · exact ⟨rfl, rfl⟩
  split
  · have e := s.poolCq_keeps
    have g := s.poolCq.2.poolSq_keeps
    simp
  · exact ⟨rfl, rfl⟩
@[simp] theorem doNvmeCcEnable_keeps (fn cc : Nat) (s : State) : (doNvmeCcEnable fn cc s).mem = s.mem ∧ (doNvmeCcEnable fn cc s).poison = s.poison := by
  unfold doNvmeCcEnable
  try dsimp only
  (repeat' split) <;> simp_all
@[simp] theorem State.cancel_keeps (s : State) (n : Nat) (x : NSlot) : (State.cancel s n x).mem = s.mem ∧ (State.cancel s n x).poison = s.poison := by
  unfold State.cancel
  try dsimp only
  simp_all
@[simp] theorem State.dropSlotLast_keeps (s : State) (n : Nat) (x : NSlot) : (State.dropSlot_ s n x).mem = s.mem ∧ (State.dropSlot_ s n x).poison = s.poison := by
  unfold State.dropSlot_
  try dsimp only
  (repeat' split) <;> simp_all
@[simp] theorem State.modNctl_keeps (s : State) (f : Nat) (k : NCtl → NCtl) : (State.modNctl s f k).mem = s.mem ∧ (State.modNctl s f k).poison = s.poison := by
  unfold State.modNctl
  try dsimp only
  simp_all
@[simp] theorem State.ctlStop_keeps (s : State) (f : Nat) : (State.ctlStop s f).mem = s.mem ∧ (State.ctlStop s f).poison = s.poison := by
  unfold State.ctlStop
  try dsimp only
  simp_all
@[simp] theorem doNvmeCcDisable_keeps (fn cc : Nat) (s : State) : (doNvmeCcDisable fn cc s).mem = s.mem ∧ (doNvmeCcDisable fn cc s).poison = s.poison := by
  unfold doNvmeCcDisable
  try dsimp only
  simp_all
@[simp] theorem doNvmeRdyClear_keeps (fn : Nat) (s : State) : (doNvmeRdyClear fn s).mem = s.mem ∧ (doNvmeRdyClear fn s).poison = s.poison := by
  unfold doNvmeRdyClear
  try dsimp only
  (repeat' split) <;> simp_all
@[simp] theorem State.placeBuf_keeps (s : State) (n : Nat) : (s.placeBuf n).2.mem = s.mem ∧ (s.placeBuf n).2.poison = s.poison := by
  unfold State.placeBuf
  try dsimp only
  simp_all
theorem State.newSlot_keeps {s : State} {r : Nat × State} {f : Nat} {sq : Option Nat} {cq : Nat} {b : Bytes}
    (h : s.newSlot f sq cq b = some r) : r.2.mem = s.mem ∧ r.2.poison = s.poison := by
  have e : ∀ {a b : Nat × State}, some a = some b → a.2.mem = s.mem ∧ a.2.poison = s.poison → b.2.mem = s.mem ∧ b.2.poison = s.poison := by
    intro a b h g
    rw [← Option.some.inj h]
    exact g
  unfold State.newSlot at h
  dsimp only at h
  split at h
  · cases h
  · exact e h (by simp)
@[simp] theorem State.shutFlush_keeps (s : State) (f : Nat) : (State.shutFlush s f).mem = s.mem ∧ (State.shutFlush s f).poison = s.poison := by
  unfold State.shutFlush
  dsimp only
  split
  · exact ⟨rfl, rfl⟩
  split
  · next h =>
    have e := State.newSlot_keeps h
    split <;> simp_all
  · exact ⟨rfl, rfl⟩
@[simp] theorem doNvmeShutdownNormal_keeps (fn cc : Nat) (s : State) : (doNvmeShutdownNormal fn cc s).mem = s.mem ∧ (doNvmeShutdownNormal fn cc s).poison = s.poison := by
  unfold doNvmeShutdownNormal
  try dsimp only
  simp_all
@[simp] theorem doNvmeShutdownAbrupt_keeps (fn cc : Nat) (s : State) : (doNvmeShutdownAbrupt fn cc s).mem = s.mem ∧ (doNvmeShutdownAbrupt fn cc s).poison = s.poison := by
  unfold doNvmeShutdownAbrupt
  try dsimp only
  simp_all
@[simp] theorem doNvmeShutdownComplete_keeps (fn : Nat) (s : State) : (doNvmeShutdownComplete fn s).mem = s.mem ∧ (doNvmeShutdownComplete fn s).poison = s.poison := by
  unfold doNvmeShutdownComplete
  try dsimp only
  (repeat' split) <;> simp_all
@[simp] theorem State.wrFwact_keeps (s : State) (val : Nat) : (State.wrFwact s val).mem = s.mem ∧ (State.wrFwact s val).poison = s.poison := by
  unfold State.wrFwact
  try dsimp only
  (repeat' split) <;> simp_all
@[simp] theorem doNvmeFwactPause_keeps (w : Writer) (s : State) : (doNvmeFwactPause w s).mem = s.mem ∧ (doNvmeFwactPause w s).poison = s.poison := by
  unfold doNvmeFwactPause
  try dsimp only
  (repeat' split) <;> simp_all
@[simp] theorem doNvmeFwactResume_keeps (w : Writer) (s : State) : (doNvmeFwactResume w s).mem = s.mem ∧ (doNvmeFwactResume w s).poison = s.poison := by
  unfold doNvmeFwactResume
  try dsimp only
  (repeat' split) <;> simp_all
@[simp] theorem State.alu_keeps (s : State) (t : Nat) (rd ra rb : Reg5) (f : Word → Word → Word) : (State.alu s t rd ra rb f).mem = s.mem ∧ (State.alu s t rd ra rb f).poison = s.poison := by
  unfold State.alu
  try dsimp only
  simp_all
@[simp] theorem doAdd_keeps (t : Nat) (rd ra rb : Reg5) (s : State) : (doAdd t rd ra rb s).mem = s.mem ∧ (doAdd t rd ra rb s).poison = s.poison := by
  unfold doAdd
  try dsimp only
  simp_all
@[simp] theorem doSub_keeps (t : Nat) (rd ra rb : Reg5) (s : State) : (doSub t rd ra rb s).mem = s.mem ∧ (doSub t rd ra rb s).poison = s.poison := by
  unfold doSub
  try dsimp only
  simp_all
@[simp] theorem doAnd_keeps (t : Nat) (rd ra rb : Reg5) (s : State) : (doAnd t rd ra rb s).mem = s.mem ∧ (doAnd t rd ra rb s).poison = s.poison := by
  unfold doAnd
  try dsimp only
  simp_all
@[simp] theorem doOr_keeps (t : Nat) (rd ra rb : Reg5) (s : State) : (doOr t rd ra rb s).mem = s.mem ∧ (doOr t rd ra rb s).poison = s.poison := by
  unfold doOr
  try dsimp only
  simp_all
@[simp] theorem doXor_keeps (t : Nat) (rd ra rb : Reg5) (s : State) : (doXor t rd ra rb s).mem = s.mem ∧ (doXor t rd ra rb s).poison = s.poison := by
  unfold doXor
  try dsimp only
  simp_all
@[simp] theorem doAndn_keeps (t : Nat) (rd ra rb : Reg5) (s : State) : (doAndn t rd ra rb s).mem = s.mem ∧ (doAndn t rd ra rb s).poison = s.poison := by
  unfold doAndn
  try dsimp only
  simp_all
@[simp] theorem doShl_keeps (t : Nat) (rd ra rb : Reg5) (s : State) : (doShl t rd ra rb s).mem = s.mem ∧ (doShl t rd ra rb s).poison = s.poison := by
  unfold doShl
  try dsimp only
  simp_all
@[simp] theorem doShr_keeps (t : Nat) (rd ra rb : Reg5) (s : State) : (doShr t rd ra rb s).mem = s.mem ∧ (doShr t rd ra rb s).poison = s.poison := by
  unfold doShr
  try dsimp only
  simp_all
@[simp] theorem doSra_keeps (t : Nat) (rd ra rb : Reg5) (s : State) : (doSra t rd ra rb s).mem = s.mem ∧ (doSra t rd ra rb s).poison = s.poison := by
  unfold doSra
  try dsimp only
  simp_all
@[simp] theorem doRor_keeps (t : Nat) (rd ra rb : Reg5) (s : State) : (doRor t rd ra rb s).mem = s.mem ∧ (doRor t rd ra rb s).poison = s.poison := by
  unfold doRor
  try dsimp only
  simp_all
@[simp] theorem doClt_keeps (t : Nat) (rd ra rb : Reg5) (s : State) : (doClt t rd ra rb s).mem = s.mem ∧ (doClt t rd ra rb s).poison = s.poison := by
  unfold doClt
  try dsimp only
  simp_all
@[simp] theorem doCltu_keeps (t : Nat) (rd ra rb : Reg5) (s : State) : (doCltu t rd ra rb s).mem = s.mem ∧ (doCltu t rd ra rb s).poison = s.poison := by
  unfold doCltu
  try dsimp only
  simp_all
@[simp] theorem doMin_keeps (t : Nat) (rd ra rb : Reg5) (s : State) : (doMin t rd ra rb s).mem = s.mem ∧ (doMin t rd ra rb s).poison = s.poison := by
  unfold doMin
  try dsimp only
  simp_all
@[simp] theorem doMax_keeps (t : Nat) (rd ra rb : Reg5) (s : State) : (doMax t rd ra rb s).mem = s.mem ∧ (doMax t rd ra rb s).poison = s.poison := by
  unfold doMax
  try dsimp only
  simp_all
@[simp] theorem doMinu_keeps (t : Nat) (rd ra rb : Reg5) (s : State) : (doMinu t rd ra rb s).mem = s.mem ∧ (doMinu t rd ra rb s).poison = s.poison := by
  unfold doMinu
  try dsimp only
  simp_all
@[simp] theorem doMaxu_keeps (t : Nat) (rd ra rb : Reg5) (s : State) : (doMaxu t rd ra rb s).mem = s.mem ∧ (doMaxu t rd ra rb s).poison = s.poison := by
  unfold doMaxu
  try dsimp only
  simp_all
@[simp] theorem doAddw_keeps (t : Nat) (rd ra rb : Reg5) (s : State) : (doAddw t rd ra rb s).mem = s.mem ∧ (doAddw t rd ra rb s).poison = s.poison := by
  unfold doAddw
  try dsimp only
  simp_all
@[simp] theorem doSubw_keeps (t : Nat) (rd ra rb : Reg5) (s : State) : (doSubw t rd ra rb s).mem = s.mem ∧ (doSubw t rd ra rb s).poison = s.poison := by
  unfold doSubw
  try dsimp only
  simp_all
@[simp] theorem State.alu1_keeps (s : State) (t : Nat) (rd ra : Reg5) (f : Word → Word) : (State.alu1 s t rd ra f).mem = s.mem ∧ (State.alu1 s t rd ra f).poison = s.poison := by
  unfold State.alu1
  try dsimp only
  simp_all
@[simp] theorem doClz_keeps (t : Nat) (rd ra : Reg5) (s : State) : (doClz t rd ra s).mem = s.mem ∧ (doClz t rd ra s).poison = s.poison := by
  unfold doClz
  try dsimp only
  simp_all
@[simp] theorem doCtz_keeps (t : Nat) (rd ra : Reg5) (s : State) : (doCtz t rd ra s).mem = s.mem ∧ (doCtz t rd ra s).poison = s.poison := by
  unfold doCtz
  try dsimp only
  simp_all
@[simp] theorem doPopc_keeps (t : Nat) (rd ra : Reg5) (s : State) : (doPopc t rd ra s).mem = s.mem ∧ (doPopc t rd ra s).poison = s.poison := by
  unfold doPopc
  try dsimp only
  simp_all
@[simp] theorem doBswap_keeps (t : Nat) (rd ra : Reg5) (s : State) : (doBswap t rd ra s).mem = s.mem ∧ (doBswap t rd ra s).poison = s.poison := by
  unfold doBswap
  try dsimp only
  simp_all
@[simp] theorem doExt_keeps (t : Nat) (rd ra rb : Reg5) (s : State) : (doExt t rd ra rb s).mem = s.mem ∧ (doExt t rd ra rb s).poison = s.poison := by
  unfold doExt
  try dsimp only
  simp_all
@[simp] theorem doIns_keeps (t : Nat) (rd ra rb : Reg5) (s : State) : (doIns t rd ra rb s).mem = s.mem ∧ (doIns t rd ra rb s).poison = s.poison := by
  unfold doIns
  try dsimp only
  simp_all
@[simp] theorem doAddi_keeps (t : Nat) (rd ra : Reg5) (imm : BitVec 16) (s : State) : (doAddi t rd ra imm s).mem = s.mem ∧ (doAddi t rd ra imm s).poison = s.poison := by
  unfold doAddi
  try dsimp only
  simp_all
@[simp] theorem doAndi_keeps (t : Nat) (rd ra : Reg5) (imm : BitVec 16) (s : State) : (doAndi t rd ra imm s).mem = s.mem ∧ (doAndi t rd ra imm s).poison = s.poison := by
  unfold doAndi
  try dsimp only
  simp_all
@[simp] theorem doOri_keeps (t : Nat) (rd ra : Reg5) (imm : BitVec 16) (s : State) : (doOri t rd ra imm s).mem = s.mem ∧ (doOri t rd ra imm s).poison = s.poison := by
  unfold doOri
  try dsimp only
  simp_all
@[simp] theorem doXori_keeps (t : Nat) (rd ra : Reg5) (imm : BitVec 16) (s : State) : (doXori t rd ra imm s).mem = s.mem ∧ (doXori t rd ra imm s).poison = s.poison := by
  unfold doXori
  try dsimp only
  simp_all
@[simp] theorem doClti_keeps (t : Nat) (rd ra : Reg5) (imm : BitVec 16) (s : State) : (doClti t rd ra imm s).mem = s.mem ∧ (doClti t rd ra imm s).poison = s.poison := by
  unfold doClti
  try dsimp only
  simp_all
@[simp] theorem doCltiu_keeps (t : Nat) (rd ra : Reg5) (imm : BitVec 16) (s : State) : (doCltiu t rd ra imm s).mem = s.mem ∧ (doCltiu t rd ra imm s).poison = s.poison := by
  unfold doCltiu
  try dsimp only
  simp_all
@[simp] theorem doShifti_keeps (t : Nat) (rd ra : Reg5) (kind : BitVec 2) (amount : BitVec 6) (s : State) : (doShifti t rd ra kind amount s).mem = s.mem ∧ (doShifti t rd ra kind amount s).poison = s.poison := by
  unfold doShifti
  try dsimp only
  simp_all
@[simp] theorem doImmz_keeps (t : Nat) (rd : Reg5) (hw : BitVec 2) (imm : BitVec 16) (s : State) : (doImmz t rd hw imm s).mem = s.mem ∧ (doImmz t rd hw imm s).poison = s.poison := by
  unfold doImmz
  try dsimp only
  simp_all
@[simp] theorem doImmk_keeps (t : Nat) (rd : Reg5) (hw : BitVec 2) (imm : BitVec 16) (s : State) : (doImmk t rd hw imm s).mem = s.mem ∧ (doImmk t rd hw imm s).poison = s.poison := by
  unfold doImmk
  try dsimp only
  simp_all
@[simp] theorem doMul_keeps (t : Nat) (rd ra rb : Reg5) (s : State) : (doMul t rd ra rb s).mem = s.mem ∧ (doMul t rd ra rb s).poison = s.poison := by
  unfold doMul
  try dsimp only
  simp_all
@[simp] theorem doMulw_keeps (t : Nat) (rd ra rb : Reg5) (s : State) : (doMulw t rd ra rb s).mem = s.mem ∧ (doMulw t rd ra rb s).poison = s.poison := by
  unfold doMulw
  try dsimp only
  simp_all
@[simp] theorem doMulhu_keeps (t : Nat) (rd ra rb : Reg5) (s : State) : (doMulhu t rd ra rb s).mem = s.mem ∧ (doMulhu t rd ra rb s).poison = s.poison := by
  unfold doMulhu
  try dsimp only
  simp_all
@[simp] theorem doMulhs_keeps (t : Nat) (rd ra rb : Reg5) (s : State) : (doMulhs t rd ra rb s).mem = s.mem ∧ (doMulhs t rd ra rb s).poison = s.poison := by
  unfold doMulhs
  try dsimp only
  simp_all
@[simp] theorem doDivu_keeps (t : Nat) (rd ra rb : Reg5) (s : State) : (doDivu t rd ra rb s).mem = s.mem ∧ (doDivu t rd ra rb s).poison = s.poison := by
  unfold doDivu
  try dsimp only
  simp_all
@[simp] theorem doDivs_keeps (t : Nat) (rd ra rb : Reg5) (s : State) : (doDivs t rd ra rb s).mem = s.mem ∧ (doDivs t rd ra rb s).poison = s.poison := by
  unfold doDivs
  try dsimp only
  simp_all
@[simp] theorem doRemu_keeps (t : Nat) (rd ra rb : Reg5) (s : State) : (doRemu t rd ra rb s).mem = s.mem ∧ (doRemu t rd ra rb s).poison = s.poison := by
  unfold doRemu
  try dsimp only
  simp_all
@[simp] theorem doRems_keeps (t : Nat) (rd ra rb : Reg5) (s : State) : (doRems t rd ra rb s).mem = s.mem ∧ (doRems t rd ra rb s).poison = s.poison := by
  unfold doRems
  try dsimp only
  simp_all
@[simp] theorem State.branch_keeps (s : State) (t : Nat) (ra rb : Reg5) (off : BitVec 16) (c : Cond) : (State.branch s t ra rb off c).mem = s.mem ∧ (State.branch s t ra rb off c).poison = s.poison := by
  unfold State.branch
  try dsimp only
  simp_all
@[simp] theorem doBeq_keeps (t : Nat) (ra rb : Reg5) (off : BitVec 16) (s : State) : (doBeq t ra rb off s).mem = s.mem ∧ (doBeq t ra rb off s).poison = s.poison := by
  unfold doBeq
  try dsimp only
  simp_all
@[simp] theorem doBne_keeps (t : Nat) (ra rb : Reg5) (off : BitVec 16) (s : State) : (doBne t ra rb off s).mem = s.mem ∧ (doBne t ra rb off s).poison = s.poison := by
  unfold doBne
  try dsimp only
  simp_all
@[simp] theorem doBlt_keeps (t : Nat) (ra rb : Reg5) (off : BitVec 16) (s : State) : (doBlt t ra rb off s).mem = s.mem ∧ (doBlt t ra rb off s).poison = s.poison := by
  unfold doBlt
  try dsimp only
  simp_all
@[simp] theorem doBge_keeps (t : Nat) (ra rb : Reg5) (off : BitVec 16) (s : State) : (doBge t ra rb off s).mem = s.mem ∧ (doBge t ra rb off s).poison = s.poison := by
  unfold doBge
  try dsimp only
  simp_all
@[simp] theorem doBltu_keeps (t : Nat) (ra rb : Reg5) (off : BitVec 16) (s : State) : (doBltu t ra rb off s).mem = s.mem ∧ (doBltu t ra rb off s).poison = s.poison := by
  unfold doBltu
  try dsimp only
  simp_all
@[simp] theorem doBgeu_keeps (t : Nat) (ra rb : Reg5) (off : BitVec 16) (s : State) : (doBgeu t ra rb off s).mem = s.mem ∧ (doBgeu t ra rb off s).poison = s.poison := by
  unfold doBgeu
  try dsimp only
  simp_all
@[simp] theorem doCall_keeps (t : Nat) (rd : Reg5) (off : BitVec 21) (s : State) : (doCall t rd off s).mem = s.mem ∧ (doCall t rd off s).poison = s.poison := by
  unfold doCall
  try dsimp only
  simp_all
@[simp] theorem doCallr_keeps (t : Nat) (rd ra : Reg5) (imm : BitVec 16) (s : State) : (doCallr t rd ra imm s).mem = s.mem ∧ (doCallr t rd ra imm s).poison = s.poison := by
  unfold doCallr
  try dsimp only
  simp_all
@[simp] theorem State.chStatus_keeps (s : State) (t : Nat) (rd : Reg5) (st : ChStat) : (State.chStatus s t rd st).mem = s.mem ∧ (State.chStatus s t rd st).poison = s.poison := by
  unfold State.chStatus
  try dsimp only
  (repeat' split) <;> simp_all
@[simp] theorem doChwr_keeps (t : Nat) (rd ra : Reg5) (s : State) : (doChwr t rd ra s).mem = s.mem ∧ (doChwr t rd ra s).poison = s.poison := by
  unfold doChwr
  try dsimp only
  simp_all
@[simp] theorem doChcommit_keeps (t : Nat) (rd ra : Reg5) (s : State) : (doChcommit t rd ra s).mem = s.mem ∧ (doChcommit t rd ra s).poison = s.poison := by
  unfold doChcommit
  try dsimp only
  simp_all
@[simp] theorem doChrd_keeps (t : Nat) (rd ra : Reg5) (s : State) : (doChrd t rd ra s).mem = s.mem ∧ (doChrd t rd ra s).poison = s.poison := by
  unfold doChrd
  refine State.chan_keeps _ _ _ fun s => ?_
  dsimp only
  (repeat' split) <;> simp
@[simp] theorem doChresv_keeps (t : Nat) (rd ra rb : Reg5) (s : State) : (doChresv t rd ra rb s).mem = s.mem ∧ (doChresv t rd ra rb s).poison = s.poison := by
  unfold doChresv
  try dsimp only
  simp_all
@[simp] theorem doChdiscard_keeps (t : Nat) (rd : Reg5) (s : State) : (doChdiscard t rd s).mem = s.mem ∧ (doChdiscard t rd s).poison = s.poison := by
  unfold doChdiscard
  try dsimp only
  simp_all
@[simp] theorem doChrx_keeps (t : Nat) (rd : Reg5) (k : BitVec 3) (s : State) : (doChrx t rd k s).mem = s.mem ∧ (doChrx t rd k s).poison = s.poison := by
  unfold doChrx
  try dsimp only
  simp_all
@[simp] theorem doEvsend_keeps (t : Nat) (rd ra rb : Reg5) (s : State) : (doEvsend t rd ra rb s).mem = s.mem ∧ (doEvsend t rd ra rb s).poison = s.poison := by
  unfold doEvsend
  try dsimp only
  simp_all
@[simp] theorem doWait_keeps (t : Nat) (rd ra : Reg5) (s : State) : (doWait t rd ra s).mem = s.mem ∧ (doWait t rd ra s).poison = s.poison := by
  unfold doWait
  try dsimp only
  (repeat' split) <;> simp_all
@[simp] theorem doEvpoll_keeps (t : Nat) (rd ra : Reg5) (s : State) : (doEvpoll t rd ra s).mem = s.mem ∧ (doEvpoll t rd ra s).poison = s.poison := by
  unfold doEvpoll
  try dsimp only
  simp_all
@[simp] theorem doEventLatch_keeps (t ev : Nat) (s : State) : (doEventLatch t ev s).mem = s.mem ∧ (doEventLatch t ev s).poison = s.poison := by
  unfold doEventLatch
  try dsimp only
  (repeat' split) <;> simp_all
@[simp] theorem doMessageVisible_keeps (chan : Nat) (s : State) : (doMessageVisible chan s).mem = s.mem ∧ (doMessageVisible chan s).poison = s.poison := by
  unfold doMessageVisible
  try dsimp only
  (repeat' split) <;> simp_all
@[simp] theorem doThreadTimerFire_keeps (t : Nat) (s : State) : (doThreadTimerFire t s).mem = s.mem ∧ (doThreadTimerFire t s).poison = s.poison := by
  unfold doThreadTimerFire
  try dsimp only
  (repeat' split) <;> simp_all
@[simp] theorem State.voidResv_keeps (s : State) (t : Nat) : (State.voidResv s t).mem = s.mem ∧ (State.voidResv s t).poison = s.poison := by
  unfold State.voidResv
  try dsimp only
  (repeat' split) <;> simp_all
@[simp] theorem doLeaseExpire_keeps (t : Nat) (s : State) : (doLeaseExpire t s).mem = s.mem ∧ (doLeaseExpire t s).poison = s.poison := by
  unfold doLeaseExpire
  try dsimp only
  (repeat' split) <;> simp_all
@[simp] theorem doIrqSetWrite_keeps (w : Writer) (cluster k val : Nat) (s : State) : (doIrqSetWrite w cluster k val s).mem = s.mem ∧ (doIrqSetWrite w cluster k val s).poison = s.poison := by
  unfold doIrqSetWrite
  try dsimp only
  (repeat' split) <;> simp_all
@[simp] theorem doIrqLatchClear_keeps (w : Writer) (cluster k val : Nat) (s : State) : (doIrqLatchClear w cluster k val s).mem = s.mem ∧ (doIrqLatchClear w cluster k val s).poison = s.poison := by
  unfold doIrqLatchClear
  try dsimp only
  (repeat' split) <;> simp_all
@[simp] theorem doInterruptEntry_keeps (t : Nat) (s : State) : (doInterruptEntry t s).mem = s.mem ∧ (doInterruptEntry t s).poison = s.poison := by
  unfold doInterruptEntry
  try dsimp only
  (repeat' split) <;> simp_all
@[simp] theorem doFltqPop_keeps (w : Writer) (core : Nat) (s : State) : (doFltqPop w core s).mem = s.mem ∧ (doFltqPop w core s).poison = s.poison := by
  unfold doFltqPop
  try dsimp only
  (repeat' split) <;> simp_all
@[simp] theorem doHeartbeat_keeps (w : Writer) (core : Nat) (s : State) : (doHeartbeat w core s).mem = s.mem ∧ (doHeartbeat w core s).poison = s.poison := by
  unfold doHeartbeat
  try dsimp only
  (repeat' split) <;> simp_all
@[simp] theorem doHeartbeatTimeout_keeps (core : Nat) (s : State) : (doHeartbeatTimeout core s).mem = s.mem ∧ (doHeartbeatTimeout core s).poison = s.poison := by
  unfold doHeartbeatTimeout
  try dsimp only
  (repeat' split) <;> simp_all
@[simp] theorem doEclipse_keeps (core : Nat) (s : State) : (doEclipse core s).mem = s.mem ∧ (doEclipse core s).poison = s.poison := by
  unfold doEclipse
  try dsimp only
  (repeat' split) <;> simp_all
@[simp] theorem doGroupEclipse_keeps (cluster g : Nat) (s : State) : (doGroupEclipse cluster g s).mem = s.mem ∧ (doGroupEclipse cluster g s).poison = s.poison := by
  unfold doGroupEclipse
  try dsimp only
  (repeat' split) <;> simp_all
@[simp] theorem State.wrMembers_keeps (s : State) (x val : Nat) : (State.wrMembers s x val).mem = s.mem ∧ (State.wrMembers s x val).poison = s.poison := by
  unfold State.wrMembers
  try dsimp only
  simp_all
@[simp] theorem doGroupCtlWrite_keeps (w : Writer) (cluster g : Nat) (members : Bool) (val : Nat) (s : State) : (doGroupCtlWrite w cluster g members val s).mem = s.mem ∧ (doGroupCtlWrite w cluster g members val s).poison = s.poison := by
  unfold doGroupCtlWrite
  try dsimp only
  (repeat' split) <;> simp_all
@[simp] theorem State.settleCluster_keeps (s : State) (cl : Nat) : (State.settleCluster s cl).mem = s.mem ∧ (State.settleCluster s cl).poison = s.poison := by
  unfold State.settleCluster
  try dsimp only
  simp_all
@[simp] theorem State.wrChanCfg_keeps (s : State) (chan val : Nat) : (State.wrChanCfg s chan val).mem = s.mem ∧ (State.wrChanCfg s chan val).poison = s.poison := by
  unfold State.wrChanCfg
  try dsimp only
  (repeat' split) <;> simp_all
@[simp] theorem doChannelEnable_keeps (w : Writer) (chan val : Nat) (s : State) : (doChannelEnable w chan val s).mem = s.mem ∧ (doChannelEnable w chan val s).poison = s.poison := by
  unfold doChannelEnable
  try dsimp only
  (repeat' split) <;> simp_all
@[simp] theorem State.dropReservations_keeps (s : State) (chan : Nat) : (State.dropReservations s chan).mem = s.mem ∧ (State.dropReservations s chan).poison = s.poison := by
  unfold State.dropReservations
  try dsimp only
  simp_all
@[simp] theorem doChannelDisable_keeps (w : Writer) (chan : Nat) (s : State) : (doChannelDisable w chan s).mem = s.mem ∧ (doChannelDisable w chan s).poison = s.poison := by
  unfold doChannelDisable
  try dsimp only
  (repeat' split) <;> simp_all
@[simp] theorem State.startAt_keeps (s : State) (t : Nat) (pc : Word) : (State.startAt s t pc).mem = s.mem ∧ (State.startAt s t pc).poison = s.poison := by
  unfold State.startAt
  try dsimp only
  (repeat' split) <;> simp_all
@[simp] theorem State.startThread_keeps (s : State) (t : Nat) : (State.startThread s t).mem = s.mem ∧ (State.startThread s t).poison = s.poison := by
  unfold State.startThread
  try dsimp only
  (repeat' split) <;> simp_all
@[simp] theorem doStart_keeps (w : Writer) (t : Nat) (s : State) : (doStart w t s).mem = s.mem ∧ (doStart w t s).poison = s.poison := by
  unfold doStart
  try dsimp only
  (repeat' split) <;> simp_all
@[simp] theorem State.killThread_keeps (s : State) (t : Nat) : (State.killThread s t).mem = s.mem ∧ (State.killThread s t).poison = s.poison := by
  unfold State.killThread
  try dsimp only
  (repeat' split) <;> simp_all
@[simp] theorem doKill_keeps (w : Writer) (t : Nat) (andStart : Bool) (s : State) : (doKill w t andStart s).mem = s.mem ∧ (doKill w t andStart s).poison = s.poison := by
  unfold doKill
  try dsimp only
  (repeat' split) <;> simp_all
@[simp] theorem State.debugOr_keeps (s : State) (w : Writer) (off : Nat) (k : State → State) (hk : ∀ s : State, (k s).mem = s.mem ∧ (k s).poison = s.poison): (State.debugOr s w off k).mem = s.mem ∧ (State.debugOr s w off k).poison = s.poison := by
  unfold State.debugOr
  try dsimp only
  (repeat' split) <;> simp_all
@[simp] theorem State.haltWaiting_keeps (s : State) (core mask : Nat) : (State.haltWaiting s core mask).mem = s.mem ∧ (State.haltWaiting s core mask).poison = s.poison := by
  unfold State.haltWaiting
  try dsimp only
  simp_all
@[simp] theorem doDebugHaltRequest_keeps (w : Writer) (core mask : Nat) (s : State) : (doDebugHaltRequest w core mask s).mem = s.mem ∧ (doDebugHaltRequest w core mask s).poison = s.poison := by
  unfold doDebugHaltRequest
  try dsimp only
  (repeat' split) <;> simp_all
@[simp] theorem doDebugHalt_keeps (t : Nat) (s : State) : (doDebugHalt t s).mem = s.mem ∧ (doDebugHalt t s).poison = s.poison := by
  unfold doDebugHalt
  try dsimp only
  (repeat' split) <;> simp_all
@[simp] theorem State.unhalt_keeps (s : State) (t : Nat) (stepping : Bool) : (State.unhalt s t stepping).mem = s.mem ∧ (State.unhalt s t stepping).poison = s.poison := by
  unfold State.unhalt
  try dsimp only
  (repeat' split) <;> simp_all
@[simp] theorem doDebugResume_keeps (w : Writer) (core mask : Nat) (s : State) : (doDebugResume w core mask s).mem = s.mem ∧ (doDebugResume w core mask s).poison = s.poison := by
  unfold doDebugResume
  try dsimp only
  (repeat' split) <;> simp_all
@[simp] theorem doDebugStep_keeps (w : Writer) (core mask : Nat) (s : State) : (doDebugStep w core mask s).mem = s.mem ∧ (doDebugStep w core mask s).poison = s.poison := by
  unfold doDebugStep
  try dsimp only
  (repeat' split) <;> simp_all
@[simp] theorem doHwBreakpoint_keeps (t : Nat) (s : State) : (doHwBreakpoint t s).mem = s.mem ∧ (doHwBreakpoint t s).poison = s.poison := by
  unfold doHwBreakpoint
  try dsimp only
  (repeat' split) <;> simp_all
@[simp] theorem doDbgdataWrite_keeps (w : Writer) (t val : Nat) (s : State) : (doDbgdataWrite w t val s).mem = s.mem ∧ (doDbgdataWrite w t val s).poison = s.poison := by
  unfold doDbgdataWrite
  split
  · refine State.debugOr_keeps _ _ _ _ fun s => ?_
    dsimp only
    (repeat' split) <;> simp
  · exact ⟨rfl, rfl⟩
@[simp] theorem State.startSnapshot_keeps (s : State) : (State.startSnapshot s).mem = s.mem ∧ (State.startSnapshot s).poison = s.poison := by
  unfold State.startSnapshot
  try dsimp only
  simp_all
@[simp] theorem doSnapshotGo_keeps (w : Writer) (s : State) : (doSnapshotGo w s).mem = s.mem ∧ (doSnapshotGo w s).poison = s.poison := by
  unfold doSnapshotGo
  try dsimp only
  (repeat' split) <;> simp_all
@[simp] theorem doSnapshotPeriodic_keeps (s : State) : (doSnapshotPeriodic s).mem = s.mem ∧ (doSnapshotPeriodic s).poison = s.poison := by
  unfold doSnapshotPeriodic
  try dsimp only
  (repeat' split) <;> simp_all
@[simp] theorem State.snapOne_keeps (s : State) (b c : Nat) : (State.snapOne s b c).mem = s.mem ∧ (State.snapOne s b c).poison = s.poison := by
  unfold State.snapOne
  try dsimp only
  (repeat' split) <;> simp_all
@[simp] theorem doSnapshotTake_keeps (s : State) : (doSnapshotTake s).mem = s.mem ∧ (doSnapshotTake s).poison = s.poison := by
  unfold doSnapshotTake
  try dsimp only
  (repeat' split) <;> simp_all
@[simp] theorem State.bump_keeps (s : State) (f : Fld) (i : Nat) : (State.bump s f i).mem = s.mem ∧ (State.bump s f i).poison = s.poison := by
  unfold State.bump
  try dsimp only
  simp_all
@[simp] theorem doSnapshotDone_keeps (s : State) : (doSnapshotDone s).mem = s.mem ∧ (doSnapshotDone s).poison = s.poison := by
  unfold doSnapshotDone
  try dsimp only
  (repeat' split) <;> simp_all
@[simp] theorem State.clearBlock_keeps (s : State) (b : Nat) : (State.clearBlock s b).mem = s.mem ∧ (State.clearBlock s b).poison = s.poison := by
  unfold State.clearBlock
  try dsimp only
  simp_all
@[simp] theorem doCounterBlockClear_keeps (w : Writer) (b : Nat) (s : State) : (doCounterBlockClear w b s).mem = s.mem ∧ (doCounterBlockClear w b s).poison = s.poison := by
  unfold doCounterBlockClear
  try dsimp only
  (repeat' split) <;> simp_all
@[simp] theorem doFreezeAll_keeps (w : Writer) (freeze : Bool) (s : State) : (doFreezeAll w freeze s).mem = s.mem ∧ (doFreezeAll w freeze s).poison = s.poison := by
  unfold doFreezeAll
  try dsimp only
  (repeat' split) <;> simp_all
@[simp] theorem doClearAll_keeps (w : Writer) (s : State) : (doClearAll w s).mem = s.mem ∧ (doClearAll w s).poison = s.poison := by
  unfold doClearAll
  try dsimp only
  (repeat' split) <;> simp_all
@[simp] theorem doCounterParityCheck_keeps (errors : List Nat) (s : State) : (doCounterParityCheck errors s).mem = s.mem ∧ (doCounterParityCheck errors s).poison = s.poison := by
  unfold doCounterParityCheck
  try dsimp only
  simp_all
@[simp] theorem State.setPrism_keeps (s : State) (p : Nat) (x : Prism) : (State.setPrism s p x).mem = s.mem ∧ (State.setPrism s p x).poison = s.poison := by
  unfold State.setPrism
  try dsimp only
  simp_all
@[simp] theorem doPrismInputEnqueue_keeps (p k : Nat) (s : State) : (doPrismInputEnqueue p k s).mem = s.mem ∧ (doPrismInputEnqueue p k s).poison = s.poison := by
  unfold doPrismInputEnqueue
  try dsimp only
  (repeat' split) <;> simp_all
@[simp] theorem State.modPrism_keeps (s : State) (p : Nat) (f : Prism → Prism) : (State.modPrism s p f).mem = s.mem ∧ (State.modPrism s p f).poison = s.poison := by
  unfold State.modPrism
  try dsimp only
  simp_all
@[simp] theorem doPrismParse_keeps (p : Nat) (s : State) : (doPrismParse p s).mem = s.mem ∧ (doPrismParse p s).poison = s.poison := by
  unfold doPrismParse
  try dsimp only
  (repeat' split) <;> simp_all
@[simp] theorem State.dispose_keeps (s : State) (f : Pkt) (hit : Bool) : (State.dispose s f hit).mem = s.mem ∧ (State.dispose s f hit).poison = s.poison := by
  unfold State.dispose
  try dsimp only
  (repeat' split) <;> simp_all
@[simp] theorem State.markDead_keeps (s : State) (p b row : Nat) : (State.markDead s p b row).mem = s.mem ∧ (State.markDead s p b row).poison = s.poison := by
  unfold State.markDead
  try dsimp only
  simp_all
@[simp] theorem State.shadowUe_keeps (s : State) (p b row : Nat) : (State.shadowUe s p b row).mem = s.mem ∧ (State.shadowUe s p b row).poison = s.poison := by
  unfold State.shadowUe
  try dsimp only
  simp_all
@[simp] theorem State.upsetRow_keeps (s : State) (p : Nat) (u : RowUpset) : (State.upsetRow s p u).mem = s.mem ∧ (State.upsetRow s p u).poison = s.poison := by
  unfold State.upsetRow
  try dsimp only
  (repeat' split) <;> simp_all
@[simp] theorem doSuspectRowRewrite_keeps (p bank row : Nat) (s : State) : (doSuspectRowRewrite p bank row s).mem = s.mem ∧ (doSuspectRowRewrite p bank row s).poison = s.poison := by
  unfold doSuspectRowRewrite
  try dsimp only
  (repeat' split) <;> simp_all
@[simp] theorem State.scrubOne_keeps (s : State) (p row : Nat) (ue : List Nat) (b : Nat) : (State.scrubOne s p row ue b).mem = s.mem ∧ (State.scrubOne s p row ue b).poison = s.poison := by
  unfold State.scrubOne
  try dsimp only
  (repeat' split) <;> simp_all
@[simp] theorem doPrismScrubRow_keeps (p : Nat) (upsets : List RowUpset) (ue : List Nat) (s : State) : (doPrismScrubRow p upsets ue s).mem = s.mem ∧ (doPrismScrubRow p upsets ue s).poison = s.poison := by
  unfold doPrismScrubRow
  try dsimp only
  (repeat' split) <;> simp_all
@[simp] theorem State.psmGo_keeps (s : State) (p : Nat) : (State.psmGo s p).mem = s.mem ∧ (State.psmGo s p).poison = s.poison := by
  unfold State.psmGo
  try dsimp only
  (repeat' split) <;> simp_all
@[simp] theorem State.wrUpdCtl_keeps (s : State) (p val : Nat) : (State.wrUpdCtl s p val).mem = s.mem ∧ (State.wrUpdCtl s p val).poison = s.poison := by
  unfold State.wrUpdCtl
  try dsimp only
  (repeat' split) <;> simp_all
@[simp] theorem doPsmBatchGo_keeps (w : Writer) (p val : Nat) (s : State) : (doPsmBatchGo w p val s).mem = s.mem ∧ (doPsmBatchGo w p val s).poison = s.poison := by
  unfold doPsmBatchGo
  try dsimp only
  (repeat' split) <;> simp_all
@[simp] theorem doPsmHoldBegin_keeps (p : Nat) (s : State) : (doPsmHoldBegin p s).mem = s.mem ∧ (doPsmHoldBegin p s).poison = s.poison := by
  unfold doPsmHoldBegin
  try dsimp only
  (repeat' split) <;> simp_all
@[simp] theorem doPsmBatchApply_keeps (p : Nat) (s : State) : (doPsmBatchApply p s).mem = s.mem ∧ (doPsmBatchApply p s).poison = s.poison := by
  unfold doPsmBatchApply
  try dsimp only
  (repeat' split) <;> simp_all
@[simp] theorem State.wrPlace_keeps (s : State) (p val : Nat) : (State.wrPlace s p val).mem = s.mem ∧ (State.wrPlace s p val).poison = s.poison := by
  unfold State.wrPlace
  try dsimp only
  (repeat' split) <;> simp_all
@[simp] theorem doPsmPlaceGo_keeps (w : Writer) (p val : Nat) (s : State) : (doPsmPlaceGo w p val s).mem = s.mem ∧ (doPsmPlaceGo w p val s).poison = s.poison := by
  unfold doPsmPlaceGo
  try dsimp only
  (repeat' split) <;> simp_all
@[simp] theorem doPsmPlaceDone_keeps (p : Nat) (s : State) : (doPsmPlaceDone p s).mem = s.mem ∧ (doPsmPlaceDone p s).poison = s.poison := by
  unfold doPsmPlaceDone
  try dsimp only
  (repeat' split) <;> simp_all
@[simp] theorem State.wrRdsel_keeps (s : State) (p val : Nat) : (State.wrRdsel s p val).mem = s.mem ∧ (State.wrRdsel s p val).poison = s.poison := by
  unfold State.wrRdsel
  try dsimp only
  (repeat' split) <;> simp_all
@[simp] theorem doPsmReadback_keeps (w : Writer) (p val : Nat) (s : State) : (doPsmReadback w p val s).mem = s.mem ∧ (doPsmReadback w p val s).poison = s.poison := by
  unfold doPsmReadback
  try dsimp only
  (repeat' split) <;> simp_all
@[simp] theorem State.cCount_keeps (s : State) (t : CTab) (key : Nat) : (State.cCount s t key).mem = s.mem ∧ (State.cCount s t key).poison = s.poison := by
  unfold State.cCount
  try dsimp only
  simp_all
@[simp] theorem nextHop_keeps (s : State) (f : Pkt) (n : Nat) : (nextHop s f n).2.2.mem = s.mem ∧ (nextHop s f n).2.2.poison = s.poison := by
  unfold nextHop
  try dsimp only
  (repeat' split) <;> simp_all
@[simp] theorem byLpm_keeps (s : State) (f : Pkt) (w : Nat) : (byLpm s f w).2.2.mem = s.mem ∧ (byLpm s f w).2.2.poison = s.poison := by
  unfold byLpm
  try dsimp only
  (repeat' split) <;> simp_all
@[simp] theorem byFlow_keeps (s : State) (f : Pkt) : (byFlow s f).2.2.mem = s.mem ∧ (byFlow s f).2.2.poison = s.poison := by
  unfold byFlow
  try dsimp only
  (repeat' split) <;> simp_all
@[simp] theorem State.setLearn_keeps (s : State) (p : Nat) (e : LearnEng) : (State.setLearn s p e).mem = s.mem ∧ (State.setLearn s p e).poison = s.poison := by
  unfold State.setLearn
  try dsimp only
  simp_all
@[simp] theorem State.learnQueue_keeps (s : State) (p : Nat) (it : LearnItem) : (State.learnQueue s p it).mem = s.mem ∧ (State.learnQueue s p it).poison = s.poison := by
  unfold State.learnQueue
  try dsimp only
  simp_all
@[simp] theorem State.setHit_keeps (s : State) (p i : Nat) (b : Bool) : (State.setHit s p i b).mem = s.mem ∧ (State.setHit s p i b).poison = s.poison := by
  unfold State.setHit
  try dsimp only
  simp_all
@[simp] theorem State.learnSource_keeps (s : State) (f : Pkt) : (State.learnSource s f).mem = s.mem ∧ (State.learnSource s f).poison = s.poison := by
  unfold State.learnSource
  try dsimp only
  (repeat' split) <;> simp_all
@[simp] theorem byMac_keeps (s0 : State) (f : Pkt) : (byMac s0 f).2.2.mem = s0.mem ∧ (byMac s0 f).2.2.poison = s0.poison := by
  unfold byMac
  try dsimp only
  (repeat' split) <;> simp_all
@[simp] theorem forward_keeps (s : State) (f : Pkt) : (forward s f).2.2.mem = s.mem ∧ (forward s f).2.2.poison = s.poison := by
  unfold forward
  try dsimp only
  (repeat' split) <;> simp_all
@[simp] theorem doForwardDecision_keeps (p : Nat) (s : State) : (doForwardDecision p s).mem = s.mem ∧ (doForwardDecision p s).poison = s.poison := by
  unfold doForwardDecision
  try dsimp only
  (repeat' split) <;> simp_all
@[simp] theorem State.drainGo_keeps (s : State) : (State.drainGo s).mem = s.mem ∧ (State.drainGo s).poison = s.poison := by
  unfold State.drainGo
  try dsimp only
  simp_all
@[simp] theorem doLpmDrainGo_keeps (w : Writer) (s : State) : (doLpmDrainGo w s).mem = s.mem ∧ (doLpmDrainGo w s).poison = s.poison := by
  unfold doLpmDrainGo
  try dsimp only
  (repeat' split) <;> simp_all
@[simp] theorem doLpmDrainDone_keeps (s : State) : (doLpmDrainDone s).mem = s.mem ∧ (doLpmDrainDone s).poison = s.poison := by
  unfold doLpmDrainDone
  try dsimp only
  (repeat' split) <;> simp_all
@[simp] theorem State.wrFlowCfg_keeps (s : State) (val : Nat) : (State.wrFlowCfg s val).mem = s.mem ∧ (State.wrFlowCfg s val).poison = s.poison := by
  unfold State.wrFlowCfg
  try dsimp only
  (repeat' split) <;> simp_all
@[simp] theorem doFlowTableEnable_keeps (w : Writer) (val : Nat) (s : State) : (doFlowTableEnable w val s).mem = s.mem ∧ (doFlowTableEnable w val s).poison = s.poison := by
  unfold doFlowTableEnable
  try dsimp only
  (repeat' split) <;> simp_all
@[simp] theorem doFlowBatchDone_keeps (s : State) : (doFlowBatchDone s).mem = s.mem ∧ (doFlowBatchDone s).poison = s.poison := by
  unfold doFlowBatchDone
  try dsimp only
  (repeat' split) <;> simp_all
@[simp] theorem State.notify_keeps (s : State) (p : Nat) (w0 w1 : Nat) : (State.notify s p w0 w1).mem = s.mem ∧ (State.notify s p w0 w1).poison = s.poison := by
  unfold State.notify
  try dsimp only
  (repeat' split) <;> simp_all
@[simp] theorem doReconTick_keeps (p : Nat) (s : State) : (doReconTick p s).mem = s.mem ∧ (doReconTick p s).poison = s.poison := by
  unfold doReconTick
  try dsimp only
  (repeat' split) <;> simp_all
@[simp] theorem State.wrMacCmd_keeps (s : State) (p val : Nat) : (State.wrMacCmd s p val).mem = s.mem ∧ (State.wrMacCmd s p val).poison = s.poison := by
  unfold State.wrMacCmd
  try dsimp only
  (repeat' split) <;> simp_all
@[simp] theorem doMacCmdGo_keeps (w : Writer) (p val : Nat) (s : State) : (doMacCmdGo w p val s).mem = s.mem ∧ (doMacCmdGo w p val s).poison = s.poison := by
  unfold doMacCmdGo
  try dsimp only
  (repeat' split) <;> simp_all
@[simp] theorem State.macDone_keeps (s : State) (p status : Nat) : (State.macDone s p status).mem = s.mem ∧ (State.macDone s p status).poison = s.poison := by
  unfold State.macDone
  try dsimp only
  simp_all
@[simp] theorem State.macRun_keeps (s : State) (p op : Nat) (k : State → Nat → State)
    (hk : ∀ s d, (k s d).mem = s.mem ∧ (k s d).poison = s.poison) :
    (s.macRun p op k).mem = s.mem ∧ (s.macRun p op k).poison = s.poison := by
  unfold State.macRun
  dsimp only
  (repeat' split) <;> simp_all
@[simp] theorem doMacNop_keeps (p : Nat) (s : State) : (doMacNop p s).mem = s.mem ∧ (doMacNop p s).poison = s.poison := by
  unfold doMacNop
  try dsimp only
  simp_all
@[simp] theorem State.setEnt_keeps (s : State) (k : Nat) (e : Ent) : (State.setEnt s k e).mem = s.mem ∧ (State.setEnt s k e).poison = s.poison := by
  unfold State.setEnt
  try dsimp only
  simp_all
@[simp] theorem State.unplace_keeps (s : State) (k : Nat) : (State.unplace s k).mem = s.mem ∧ (State.unplace s k).poison = s.poison := by
  unfold State.unplace
  try dsimp only
  simp_all
@[simp] theorem State.releaseOne_keeps (s : State) (slot : Nat) (o : OnWheel) : (State.releaseOne s slot o).mem = s.mem ∧ (State.releaseOne s slot o).poison = s.poison := by
  unfold State.releaseOne
  try dsimp only
  (repeat' split) <;> simp_all
@[simp] theorem State.releaseAt_keeps (s : State) (n : Nat) : (State.releaseAt s n).mem = s.mem ∧ (State.releaseAt s n).poison = s.poison := by
  unfold State.releaseAt
  try dsimp only
  simp_all
@[simp] theorem doShaperRelease_keeps (s : State) : (doShaperRelease s).mem = s.mem ∧ (doShaperRelease s).poison = s.poison := by
  unfold doShaperRelease
  try dsimp only
  (repeat' split) <;> simp_all
@[simp] theorem State.place_keeps (s : State) (lvl k E : Nat) : (State.place s lvl k E).mem = s.mem ∧ (State.place s lvl k E).poison = s.poison := by
  unfold State.place
  try dsimp only
  (repeat' split) <;> simp_all
@[simp] theorem doCoarseSlotEnter_keeps (s : State) : (doCoarseSlotEnter s).mem = s.mem ∧ (doCoarseSlotEnter s).poison = s.poison := by
  unfold doCoarseSlotEnter
  try dsimp only
  (repeat' split) <;> simp_all
@[simp] theorem State.tmPoison_keeps (s : State) (first : Bool) (ix : Nat) : (State.tmPoison s first ix).mem = s.mem ∧ (State.tmPoison s first ix).poison = s.poison := by
  unfold State.tmPoison
  try dsimp only
  (repeat' split) <;> simp_all
@[simp] theorem State.admitFrame_keeps (s : State) (f : Pkt) (o : Option Nat) (tc : Nat) (ue : Bool) : (State.admitFrame s f o tc ue).2.mem = s.mem ∧ (State.admitFrame s f o tc ue).2.poison = s.poison := by
  unfold State.admitFrame
  try dsimp only
  (repeat' split) <;> simp_all
@[simp] theorem State.countUnrouted_keeps (s : State) (r : Routed) : (State.countUnrouted s r).mem = s.mem ∧ (State.countUnrouted s r).poison = s.poison := by
  unfold State.countUnrouted
  try dsimp only
  (repeat' split) <;> simp_all
@[simp] theorem State.setMeter_keeps (s : State) (i : Nat) (m : Meter) : (State.setMeter s i m).mem = s.mem ∧ (State.setMeter s i m).poison = s.poison := by
  unfold State.setMeter
  try dsimp only
  simp_all
@[simp] theorem State.metered_keeps (s : State) (f : Pkt) (ue : Bool) :
    (s.metered f ue).2.mem = s.mem ∧ (s.metered f ue).2.poison = s.poison := by
  unfold State.metered
  dsimp only
  split
  · exact ⟨rfl, rfl⟩
  split
  · simp
    (repeat' split) <;> simp
  split
  · simp
    (repeat' split) <;> simp
  · simp
    (repeat' split) <;> simp
@[simp] theorem doTmEnqueue_keeps (p : Nat) (meterUe leafUe : Bool) (s : State) : (doTmEnqueue p meterUe leafUe s).mem = s.mem ∧ (doTmEnqueue p meterUe leafUe s).poison = s.poison := by
  unfold doTmEnqueue
  try dsimp only
  (repeat' split) <;> simp_all
@[simp] theorem State.shelve_keeps (s : State) (lvl k : Nat) : (State.shelve s lvl k).mem = s.mem ∧ (State.shelve s lvl k).poison = s.poison := by
  unfold State.shelve
  try dsimp only
  (repeat' split) <;> simp_all
@[simp] theorem State.charge_keeps (s : State) (len : Nat) (k : Nat) : (State.charge s len k).mem = s.mem ∧ (State.charge s len k).poison = s.poison := by
  unfold State.charge
  try dsimp only
  (repeat' split) <;> simp_all
@[simp] theorem State.carryFault_keeps (s : State) (unit : Nat) : (State.carryFault s unit).mem = s.mem ∧ (State.carryFault s unit).poison = s.poison := by
  unfold State.carryFault
  try dsimp only
  simp_all
@[simp] theorem State.setFport_keeps (s : State) (p : Nat) (x : FPort) : (State.setFport s p x).mem = s.mem ∧ (State.setFport s p x).poison = s.poison := by
  unfold State.setFport
  try dsimp only
  simp_all
@[simp] theorem State.modFport_keeps (s : State) (p : Nat) (f : FPort → FPort) : (State.modFport s p f).mem = s.mem ∧ (State.modFport s p f).poison = s.poison := by
  unfold State.modFport
  try dsimp only
  simp_all
@[simp] theorem State.putOut_keeps (s : State) (p : Nat) (f : FPkt) (again : Bool) : (State.putOut s p f again).mem = s.mem ∧ (State.putOut s p f again).poison = s.poison := by
  unfold State.putOut
  try dsimp only
  simp_all
@[simp] theorem State.toOutput_keeps (s : State) (o : Nat) (f : Pkt) : (State.toOutput s o f).mem = s.mem ∧ (State.toOutput s o f).poison = s.poison := by
  unfold State.toOutput
  try dsimp only
  (repeat' split) <;> simp_all
@[simp] theorem State.handOver_keeps (s : State) (o : Nat) (f : Pkt) (badSegment : Option Nat) : (State.handOver s o f badSegment).mem = s.mem ∧ (State.handOver s o f badSegment).poison = s.poison := by
  unfold State.handOver
  try dsimp only
  (repeat' split) <;> simp_all
@[simp] theorem State.setRing_keeps (s : State) (k : Nat) (r : Ring) : (State.setRing s k r).mem = s.mem ∧ (State.setRing s k r).poison = s.poison := by
  unfold State.setRing
  try dsimp only
  simp_all
@[simp] theorem doTmDecision_keeps (o : Nat) (badSegment : Option Nat) (s : State) : (doTmDecision o badSegment s).mem = s.mem ∧ (doTmDecision o badSegment s).poison = s.poison := by
  unfold doTmDecision
  try dsimp only
  (repeat' split) <;> simp_all
@[simp] theorem State.indData_keeps (s : State) (v : Nat) : (State.indData s v).mem = s.mem ∧ (State.indData s v).poison = s.poison := by
  unfold State.indData
  try dsimp only
  simp_all
@[simp] theorem State.indUe_keeps (s : State) : (State.indUe s).mem = s.mem ∧ (State.indUe s).poison = s.poison := by
  unfold State.indUe
  try dsimp only
  simp_all
@[simp] theorem State.flogMerged_keeps (s : State) : (State.flogMerged s).mem = s.mem ∧ (State.flogMerged s).poison = s.poison := by
  unfold State.flogMerged
  try dsimp only
  simp_all
@[simp] theorem State.modLhs_keeps (s : State) (f : Lhs → Lhs) : (State.modLhs s f).mem = s.mem ∧ (State.modLhs s f).poison = s.poison := by
  unfold State.modLhs
  try dsimp only
  simp_all
@[simp] theorem State.setFlog_keeps (s : State) (l : List FaultRec) : (State.setFlog s l).mem = s.mem ∧ (State.setFlog s l).poison = s.poison := by
  unfold State.setFlog
  try dsimp only
  simp_all
@[simp] theorem State.flogAdd_keeps (s : State) (r : FaultRec) : (State.flogAdd s r).mem = s.mem ∧ (State.flogAdd s r).poison = s.poison := by
  unfold State.flogAdd
  try dsimp only
  (repeat' split) <;> simp_all
@[simp] theorem State.record_keeps (s : State) (unit kind : Nat) (v : Verdict) (tries loc : Nat) : (State.record s unit kind v tries loc).mem = s.mem ∧ (State.record s unit kind v tries loc).poison = s.poison := by
  unfold State.record
  try dsimp only
  (repeat' split) <;> simp_all
@[simp] theorem State.indRead_keeps (s : State) (t i : Nat) (ue : Bool) : (State.indRead s t i ue).mem = s.mem ∧ (State.indRead s t i ue).poison = s.poison := by
  unfold State.indRead
  try dsimp only
  (repeat' split) <;> simp_all
@[simp] theorem State.joinRing_keeps (s : State) (rk c : Nat) : (State.joinRing s rk c).mem = s.mem ∧ (State.joinRing s rk c).poison = s.poison := by
  unfold State.joinRing
  try dsimp only
  (repeat' split) <;> simp_all
@[simp] theorem State.leaveRing_keeps (s : State) (rk c : Nat) : (State.leaveRing s rk c).mem = s.mem ∧ (State.leaveRing s rk c).poison = s.poison := by
  unfold State.leaveRing
  try dsimp only
  (repeat' split) <;> simp_all
@[simp] theorem State.writeMeter_keeps (s : State) (i w0 w1 : Nat) : (State.writeMeter s i w0 w1).mem = s.mem ∧ (State.writeMeter s i w0 w1).poison = s.poison := by
  unfold State.writeMeter
  try dsimp only
  (repeat' split) <;> simp_all
@[simp] theorem doTmIndDone_keeps (s : State) : (doTmIndDone s).mem = s.mem ∧ (doTmIndDone s).poison = s.poison := by
  unfold doTmIndDone
  try dsimp only
  (repeat' split) <;> simp_all
@[simp] theorem doPktCmdDone_keeps (s : State) : (doPktCmdDone s).mem = s.mem ∧ (doPktCmdDone s).poison = s.poison := by
  unfold doPktCmdDone
  try dsimp only
  (repeat' split) <;> simp_all
@[simp] theorem State.unhold_keeps (s : State) (h : Nat) : (State.unhold s h).mem = s.mem ∧ (State.unhold s h).poison = s.poison := by
  unfold State.unhold
  try dsimp only
  simp_all
@[simp] theorem doHeldFrameExpire_keeps (handle : Nat) (s : State) : (doHeldFrameExpire handle s).mem = s.mem ∧ (doHeldFrameExpire handle s).poison = s.poison := by
  unfold doHeldFrameExpire
  try dsimp only
  (repeat' split) <;> simp_all
@[simp] theorem State.countPort_keeps (s : State) (p ev n : Nat) : (State.countPort s p ev n).mem = s.mem ∧ (State.countPort s p ev n).poison = s.poison := by
  unfold State.countPort
  try dsimp only
  simp_all
@[simp] theorem State.putFlit_keeps (s : State) (p ftype seq : Nat) (nak : Bool) : (State.putFlit s p ftype seq nak).mem = s.mem ∧ (State.putFlit s p ftype seq nak).poison = s.poison := by
  unfold State.putFlit
  try dsimp only
  simp_all
@[simp] theorem State.resend_keeps (s : State) (p : Nat) : (State.resend s p).mem = s.mem ∧ (State.resend s p).poison = s.poison := by
  unfold State.resend
  try dsimp only
  simp_all
@[simp] theorem State.bcnNotice_keeps (s : State) (ty port vc node prev : Nat) : (State.bcnNotice s ty port vc node prev).mem = s.mem ∧ (State.bcnNotice s ty port vc node prev).poison = s.poison := by
  unfold State.bcnNotice
  try dsimp only
  (repeat' split) <;> simp_all
@[simp] theorem State.ltr_keeps (s : State) : (State.ltr s).mem = s.mem ∧ (State.ltr s).poison = s.poison := by
  unfold State.ltr
  try dsimp only
  (repeat' split) <;> simp_all
@[simp] theorem State.setPortState_keeps (s : State) (p st : Nat) : (State.setPortState s p st).mem = s.mem ∧ (State.setPortState s p st).poison = s.poison := by
  unfold State.setPortState
  try dsimp only
  (repeat' split) <;> simp_all
@[simp] theorem State.sendMgmt_keeps (s : State) (p : Nat) (m : Mgmt) : (State.sendMgmt s p m).mem = s.mem ∧ (State.sendMgmt s p m).poison = s.poison := by
  unfold State.sendMgmt
  try dsimp only
  simp_all
@[simp] theorem State.askId_keeps (s : State) : (State.askId s).mem = s.mem ∧ (State.askId s).poison = s.poison := by
  unfold State.askId
  try dsimp only
  (repeat' split) <;> simp_all
@[simp] theorem State.hopsChanged_keeps (s : State) (d before : Nat) : (State.hopsChanged s d before).mem = s.mem ∧ (State.hopsChanged s d before).poison = s.poison := by
  unfold State.hopsChanged
  try dsimp only
  (repeat' split) <;> simp_all
@[simp] theorem State.setSlots4_keeps (s : State) (d : Nat) (l : List (Nat × Bool × Bool)) : (State.setSlots4 s d l).mem = s.mem ∧ (State.setSlots4 s d l).poison = s.poison := by
  unfold State.setSlots4
  try dsimp only
  simp_all
@[simp] theorem State.reroute_keeps (s : State) (d : Nat) : (State.reroute s d).mem = s.mem ∧ (State.reroute s d).poison = s.poison := by
  unfold State.reroute
  try dsimp only
  (repeat' split) <;> simp_all
@[simp] theorem State.settleCand_keeps (s : State) : (State.settleCand s).mem = s.mem ∧ (State.settleCand s).poison = s.poison := by
  unfold State.settleCand
  try dsimp only
  (repeat' split) <;> simp_all
@[simp] theorem State.settleLevel_keeps (s : State) : (State.settleLevel s).mem = s.mem ∧ (State.settleLevel s).poison = s.poison := by
  unfold State.settleLevel
  try dsimp only
  simp_all
@[simp] theorem State.settleFabric_keeps (s : State) : (State.settleFabric s).mem = s.mem ∧ (State.settleFabric s).poison = s.poison := by
  unfold State.settleFabric
  try dsimp only
  simp_all
@[simp] theorem State.linkUp_keeps (s : State) (p peerLanes w : Nat) (shares : List Nat) : (State.linkUp s p peerLanes w shares).mem = s.mem ∧ (State.linkUp s p peerLanes w shares).poison = s.poison := by
  unfold State.linkUp
  try dsimp only
  simp_all
@[simp] theorem doFabricPortTrained_keeps (p peerLanes : Nat) (shares : List Nat) (s : State) : (doFabricPortTrained p peerLanes shares s).mem = s.mem ∧ (doFabricPortTrained p peerLanes shares s).poison = s.poison := by
  unfold doFabricPortTrained
  try dsimp only
  (repeat' split) <;> simp_all
@[simp] theorem State.forgetPeer_keeps (s : State) (p : Nat) : (State.forgetPeer s p).mem = s.mem ∧ (State.forgetPeer s p).poison = s.poison := by
  unfold State.forgetPeer
  try dsimp only
  simp_all
@[simp] theorem State.portTrain_keeps (s : State) (p : Nat) : (State.portTrain s p).mem = s.mem ∧ (State.portTrain s p).poison = s.poison := by
  unfold State.portTrain
  try dsimp only
  simp_all
@[simp] theorem doFabricSignalLoss_keeps (p : Nat) (s : State) : (doFabricSignalLoss p s).mem = s.mem ∧ (doFabricSignalLoss p s).poison = s.poison := by
  unfold doFabricSignalLoss
  try dsimp only
  (repeat' split) <;> simp_all
@[simp] theorem doFabricSignalDetect_keeps (p : Nat) (s : State) : (doFabricSignalDetect p s).mem = s.mem ∧ (doFabricSignalDetect p s).poison = s.poison := by
  unfold doFabricSignalDetect
  try dsimp only
  (repeat' split) <;> simp_all
@[simp] theorem doNakResendTimer_keeps (p : Nat) (s : State) : (doNakResendTimer p s).mem = s.mem ∧ (doNakResendTimer p s).poison = s.poison := by
  unfold doNakResendTimer
  try dsimp only
  (repeat' split) <;> simp_all
@[simp] theorem State.replay_keeps (s : State) (p : Nat) : (State.replay s p).mem = s.mem ∧ (State.replay s p).poison = s.poison := by
  unfold State.replay
  try dsimp only
  (repeat' split) <;> simp_all
@[simp] theorem doReplayTimeout_keeps (p : Nat) (s : State) : (doReplayTimeout p s).mem = s.mem ∧ (doReplayTimeout p s).poison = s.poison := by
  unfold doReplayTimeout
  try dsimp only
  (repeat' split) <;> simp_all
@[simp] theorem State.startPacket_keeps (s : State) (p vc : Nat) (o : FOut) (rest : List FOut) : (State.startPacket s p vc o rest).mem = s.mem ∧ (State.startPacket s p vc o rest).poison = s.poison := by
  unfold State.startPacket
  try dsimp only
  (repeat' split) <;> simp_all
@[simp] theorem doFabricPacketSend_keeps (p : Nat) (badSegs : List Nat) (s : State) : (doFabricPacketSend p badSegs s).mem = s.mem ∧ (doFabricPacketSend p badSegs s).poison = s.poison := by
  unfold doFabricPacketSend
  try dsimp only
  (repeat' split) <;> simp_all
@[simp] theorem doCreditStall_keeps (p vc : Nat) (s : State) : (doCreditStall p vc s).mem = s.mem ∧ (doCreditStall p vc s).poison = s.poison := by
  unfold doCreditStall
  try dsimp only
  (repeat' split) <;> simp_all
@[simp] theorem State.putIn_keeps (s : State) (p : Nat) (f : FPkt) : (State.putIn s p f).mem = s.mem ∧ (State.putIn s p f).poison = s.poison := by
  unfold State.putIn
  try dsimp only
  simp_all
@[simp] theorem State.sendPlain_keeps (s : State) (f : FPkt) (again : Bool) : (State.sendPlain s f again).mem = s.mem ∧ (State.sendPlain s f again).poison = s.poison := by
  unfold State.sendPlain
  try dsimp only
  (repeat' split) <;> simp_all
@[simp] theorem State.answer_keeps (s : State) (q : FPkt) (ptype reason : Nat) (data : Bytes) (poison : Nat) : (State.answer s q ptype reason data poison).mem = s.mem ∧ (State.answer s q ptype reason data poison).poison = s.poison := by
  unfold State.answer
  try dsimp only
  simp_all
@[simp] theorem State.answerNak_keeps (s : State) (q : FPkt) (reason : Nat) : (State.answerNak s q reason).mem = s.mem ∧ (State.answerNak s q reason).poison = s.poison := by
  unfold State.answerNak
  try dsimp only
  (repeat' split) <;> simp_all
@[simp] theorem State.oweCredit_keeps (s : State) (p vc n : Nat) : (State.oweCredit s p vc n).mem = s.mem ∧ (State.oweCredit s p vc n).poison = s.poison := by
  unfold State.oweCredit
  try dsimp only
  (repeat' split) <;> simp_all
theorem State.takeIn_keeps {s n : State} {p vc : Nat} {f : FIn} (h : s.takeIn p vc = some (f, n)) :
    n.mem = s.mem ∧ n.poison = s.poison := by
  unfold State.takeIn at h
  split at h
  · cases h
  · cases h
    simp
@[simp] theorem doFabricTransit_keeps (p vc : Nat) (s : State) : (doFabricTransit p vc s).mem = s.mem ∧ (doFabricTransit p vc s).poison = s.poison := by
  unfold doFabricTransit
  try dsimp only
  split
  · exact ⟨rfl, rfl⟩
  · next h =>
    have e := State.takeIn_keeps h
    (repeat' split) <;> simp [e.1, e.2]
@[simp] theorem State.countOld_keeps (s : State) : (State.countOld s).mem = s.mem ∧ (State.countOld s).poison = s.poison := by
  unfold State.countOld
  try dsimp only
  simp_all
@[simp] theorem State.windowMiss_keeps (s : State) (f : FPkt) : (State.windowMiss s f).mem = s.mem ∧ (State.windowMiss s f).poison = s.poison := by
  unfold State.windowMiss
  try dsimp only
  simp_all
@[simp] theorem doFabricRead_keeps (p : Nat) (s : State) : (doFabricRead p s).mem = s.mem ∧ (doFabricRead p s).poison = s.poison := by
  unfold doFabricRead
  try dsimp only
  split
  · exact ⟨rfl, rfl⟩
  · next h =>
    have e := State.takeIn_keeps h
    (repeat' split) <;> simp [e.1, e.2]
@[simp] theorem State.firstCell_keeps (s : State) : (State.firstCell s).2.mem = s.mem ∧ (State.firstCell s).2.poison = s.poison := by
  unfold State.firstCell
  try dsimp only
  simp_all
@[simp] theorem State.takeCells_keeps (s : State) (k : Nat) : (State.takeCells s k).mem = s.mem ∧ (State.takeCells s k).poison = s.poison := by
  unfold State.takeCells
  try dsimp only
  simp_all
theorem State.newFrame_keeps {s n : State} {p q : Pkt} (h : s.newFrame p = some (q, n)) :
    n.mem = s.mem ∧ n.poison = s.poison := by
  have e : ∀ {a b : Pkt × State}, some a = some b → a.2.mem = s.mem ∧ a.2.poison = s.poison → b.2.mem = s.mem ∧ b.2.poison = s.poison := by
    intro a b h g
    rw [← Option.some.inj h]
    exact g
  unfold State.newFrame at h
  dsimp only at h
  split at h
  · exact e h (by simp)
  · cases h
@[simp] theorem doFabricFrame_keeps (p : Nat) (s : State) : (doFabricFrame p s).mem = s.mem ∧ (doFabricFrame p s).poison = s.poison := by
  unfold doFabricFrame
  split
  · exact ⟨rfl, rfl⟩
  · next h =>
    have e := State.takeIn_keeps h
    dsimp only
    split
    · exact ⟨rfl, rfl⟩
    split
    · exact e
    split
    · next g =>
      have d := State.newFrame_keeps g
      simp [e.1, e.2, d.1, d.2]
    · simp [e.1, e.2]
@[simp] theorem doHelloSend_keeps (p : Nat) (s0 : State) : (doHelloSend p s0).mem = s0.mem ∧ (doHelloSend p s0).poison = s0.poison := by
  unfold doHelloSend
  try dsimp only
  (repeat' split) <;> simp_all
@[simp] theorem State.hearTerm_keeps (s : State) (t : Nat) : (State.hearTerm s t).mem = s.mem ∧ (State.hearTerm s t).poison = s.poison := by
  unfold State.hearTerm
  try dsimp only
  (repeat' split) <;> simp_all
@[simp] theorem State.takeMgmt_keeps (s : State) (p : Nat) (k : FPkt → State → State)
    (hk : ∀ f s, (k f s).mem = s.mem ∧ (k f s).poison = s.poison) :
    (s.takeMgmt p k).mem = s.mem ∧ (s.takeMgmt p k).poison = s.poison := by
  unfold State.takeMgmt
  split
  · next h =>
    have e := State.takeIn_keeps h
    simp [hk, e.1, e.2]
  · exact ⟨rfl, rfl⟩
@[simp] theorem doHelloReceive_keeps (p : Nat) (h : Hello) (s : State) : (doHelloReceive p h s).mem = s.mem ∧ (doHelloReceive p h s).poison = s.poison := by
  unfold doHelloReceive
  try dsimp only
  (repeat' split) <;> simp_all
@[simp] theorem doCoordHeartbeatSend_keeps (s : State) : (doCoordHeartbeatSend s).mem = s.mem ∧ (doCoordHeartbeatSend s).poison = s.poison := by
  unfold doCoordHeartbeatSend
  try dsimp only
  (repeat' split) <;> simp_all
@[simp] theorem doCoordTimeout_keeps (s : State) : (doCoordTimeout s).mem = s.mem ∧ (doCoordTimeout s).poison = s.poison := by
  unfold doCoordTimeout
  try dsimp only
  (repeat' split) <;> simp_all
@[simp] theorem doNodeIdRetry_keeps (s : State) : (doNodeIdRetry s).mem = s.mem ∧ (doNodeIdRetry s).poison = s.poison := by
  unfold doNodeIdRetry
  try dsimp only
  (repeat' split) <;> simp_all
@[simp] theorem doNodeIdHoldExpire_keeps (id : Nat) (s : State) : (doNodeIdHoldExpire id s).mem = s.mem ∧ (doNodeIdHoldExpire id s).poison = s.poison := by
  unfold doNodeIdHoldExpire
  try dsimp only
  (repeat' split) <;> simp_all
@[simp] theorem doRouteUpdateSend_keeps (s : State) : (doRouteUpdateSend s).mem = s.mem ∧ (doRouteUpdateSend s).poison = s.poison := by
  unfold doRouteUpdateSend
  try dsimp only
  (repeat' split) <;> simp_all
@[simp] theorem doRouteUpdateReceive_keeps (p first : Nat) (dn any : List Nat) (s : State) : (doRouteUpdateReceive p first dn any s).mem = s.mem ∧ (doRouteUpdateReceive p first dn any s).poison = s.poison := by
  unfold doRouteUpdateReceive
  try dsimp only
  (repeat' split) <;> simp_all
@[simp] theorem State.wrRoute_keeps (s : State) (w : Writer) (d val : Nat) : (State.wrRoute s w d val).mem = s.mem ∧ (State.wrRoute s w d val).poison = s.poison := by
  unfold State.wrRoute
  try dsimp only
  (repeat' split) <;> simp_all
@[simp] theorem doRouteEntryWrite_keeps (w : Writer) (d val : Nat) (s : State) : (doRouteEntryWrite w d val s).mem = s.mem ∧ (doRouteEntryWrite w d val s).poison = s.poison := by
  unfold doRouteEntryWrite
  try dsimp only
  (repeat' split) <;> simp_all
@[simp] theorem State.activate_keeps (s : State) (a : Fld × Fld) : (State.activate s a).mem = s.mem ∧ (State.activate s a).poison = s.poison := by
  unfold State.activate
  try dsimp only
  simp_all
@[simp] theorem State.lensGo_keeps (s : State) : (State.lensGo s).mem = s.mem ∧ (State.lensGo s).poison = s.poison := by
  unfold State.lensGo
  try dsimp only
  (repeat' split) <;> simp_all
@[simp] theorem doLensCommit_keeps (w : Writer) (s : State) : (doLensCommit w s).mem = s.mem ∧ (doLensCommit w s).poison = s.poison := by
  unfold doLensCommit
  try dsimp only
  (repeat' split) <;> simp_all
@[simp] theorem State.lensDone_keeps (s : State) : (State.lensDone s).mem = s.mem ∧ (State.lensDone s).poison = s.poison := by
  unfold State.lensDone
  try dsimp only
  simp_all
@[simp] theorem doLensCommitDone_keeps (s : State) : (doLensCommitDone s).mem = s.mem ∧ (doLensCommitDone s).poison = s.poison := by
  unfold doLensCommitDone
  try dsimp only
  (repeat' split) <;> simp_all
@[simp] theorem State.forceOld_keeps (s : State) : (State.forceOld s).mem = s.mem ∧ (State.forceOld s).poison = s.poison := by
  unfold State.forceOld
  try dsimp only
  simp_all
@[simp] theorem doLensCommitForce_keeps (s : State) : (doLensCommitForce s).mem = s.mem ∧ (doLensCommitForce s).poison = s.poison := by
  unfold doLensCommitForce
  try dsimp only
  (repeat' split) <;> simp_all
@[simp] theorem State.drainWrites_keeps (s : State) : (State.drainWrites s).mem = s.mem ∧ (State.drainWrites s).poison = s.poison := by
  unfold State.drainWrites
  try dsimp only
  simp_all
@[simp] theorem doLensWrDrain_keeps (w : Writer) (s : State) : (doLensWrDrain w s).mem = s.mem ∧ (doLensWrDrain w s).poison = s.poison := by
  unfold doLensWrDrain
  try dsimp only
  (repeat' split) <;> simp_all
@[simp] theorem doLensWrDrainDone_keeps (s : State) : (doLensWrDrainDone s).mem = s.mem ∧ (doLensWrDrainDone s).poison = s.poison := by
  unfold doLensWrDrainDone
  try dsimp only
  (repeat' split) <;> simp_all
@[simp] theorem doEthLinkUp_keeps (e : Nat) (hiSer : Bool) (s : State) : (doEthLinkUp e hiSer s).mem = s.mem ∧ (doEthLinkUp e hiSer s).poison = s.poison := by
  unfold doEthLinkUp
  try dsimp only
  (repeat' split) <;> simp_all
@[simp] theorem State.countEth_keeps (s : State) (e ev n : Nat) : (State.countEth s e ev n).mem = s.mem ∧ (State.countEth s e ev n).poison = s.poison := by
  unfold State.countEth
  try dsimp only
  simp_all
@[simp] theorem State.linkFall_keeps (s : State) (e : Nat) : (State.linkFall s e).mem = s.mem ∧ (State.linkFall s e).poison = s.poison := by
  unfold State.linkFall
  try dsimp only
  (repeat' split) <;> simp_all
@[simp] theorem State.setJob_keeps (s : State) (n : Nat) (j : Job) : (State.setJob s n j).mem = s.mem ∧ (State.setJob s n j).poison = s.poison := by
  unfold State.setJob
  try dsimp only
  simp_all
@[simp] theorem State.localFault_keeps (s : State) (n : Nat) (j : Job) (a : Nat) (w : Walk) (write : Bool) : (State.localFault s n j a w write).mem = s.mem ∧ (State.localFault s n j a w write).poison = s.poison := by
  unfold State.localFault
  try dsimp only
  (repeat' split) <;> simp_all
@[simp] theorem doEthLinkDown_keeps (e : Nat) (blockLock amLock localFault remoteFault : Bool) (s : State) : (doEthLinkDown e blockLock amLock localFault remoteFault s).mem = s.mem ∧ (doEthLinkDown e blockLock amLock localFault remoteFault s).poison = s.poison := by
  unfold doEthLinkDown
  try dsimp only
  (repeat' split) <;> simp_all
@[simp] theorem State.portStatReset_keeps (s : State) (e : Nat) : (State.portStatReset s e).mem = s.mem ∧ (State.portStatReset s e).poison = s.poison := by
  unfold State.portStatReset
  try dsimp only
  simp_all
@[simp] theorem State.wrPortCfg_keeps (s : State) (w : Writer) (e val : Nat) : (State.wrPortCfg s w e val).mem = s.mem ∧ (State.wrPortCfg s w e val).poison = s.poison := by
  unfold State.wrPortCfg
  try dsimp only
  (repeat' split) <;> simp_all
@[simp] theorem doEthPortCfgWrite_keeps (w : Writer) (e val : Nat) (s : State) : (doEthPortCfgWrite w e val s).mem = s.mem ∧ (doEthPortCfgWrite w e val s).poison = s.poison := by
  unfold doEthPortCfgWrite
  try dsimp only
  (repeat' split) <;> simp_all
@[simp] theorem State.resetReg_keeps (s : State) (d : RegD) (i : Nat) : (State.resetReg s d i).mem = s.mem ∧ (State.resetReg s d i).poison = s.poison := by
  unfold State.resetReg
  try dsimp only
  simp_all
@[simp] theorem State.wrGrpCfg_keeps (s : State) (n val : Nat) : (State.wrGrpCfg s n val).mem = s.mem ∧ (State.wrGrpCfg s n val).poison = s.poison := by
  unfold State.wrGrpCfg
  try dsimp only
  (repeat' split) <;> simp_all
@[simp] theorem doEthGrpModeWrite_keeps (w : Writer) (n val : Nat) (s : State) : (doEthGrpModeWrite w n val s).mem = s.mem ∧ (doEthGrpModeWrite w n val s).poison = s.poison := by
  unfold doEthGrpModeWrite
  try dsimp only
  (repeat' split) <;> simp_all
@[simp] theorem State.ethTake_keeps (s : State) (e : Nat) (frame : Bytes) : (State.ethTake s e frame).mem = s.mem ∧ (State.ethTake s e frame).poison = s.poison := by
  unfold State.ethTake
  dsimp only
  split
  · simp
  split
  · simp
  split
  · simp
  split
  · next g =>
    have d := State.newFrame_keeps g
    simp [d.1, d.2]
  · simp
@[simp] theorem doEthFrameReceive_keeps (e : Nat) (frame : Bytes) (s : State) : (doEthFrameReceive e frame s).mem = s.mem ∧ (doEthFrameReceive e frame s).poison = s.poison := by
  unfold doEthFrameReceive
  try dsimp only
  (repeat' split) <;> simp_all
@[simp] theorem State.ethWire_keeps (s : State) (e : Nat) (bytes : Bytes) (aborted : Bool) : (State.ethWire s e bytes aborted).mem = s.mem ∧ (State.ethWire s e bytes aborted).poison = s.poison := by
  unfold State.ethWire
  try dsimp only
  (repeat' split) <;> simp_all
@[simp] theorem doEthFrameTransmit_keeps (e : Nat) (badSegment : Option Nat) (s : State) : (doEthFrameTransmit e badSegment s).mem = s.mem ∧ (doEthFrameTransmit e badSegment s).poison = s.poison := by
  unfold doEthFrameTransmit
  try dsimp only
  (repeat' split) <;> simp_all
@[simp] theorem State.applyPort_keeps (s : State) (n : Nat) : (State.applyPort s n).mem = s.mem ∧ (State.applyPort s n).poison = s.poison := by
  unfold State.applyPort
  try dsimp only
  simp_all
@[simp] theorem State.modPwr_keeps (s : State) (f : Pwr → Pwr) : (State.modPwr s f).mem = s.mem ∧ (State.modPwr s f).poison = s.poison := by
  unfold State.modPwr
  try dsimp only
  simp_all
@[simp] theorem doPerstDeassert_keeps (port : Nat) (s : State) : (doPerstDeassert port s).mem = s.mem ∧ (doPerstDeassert port s).poison = s.poison := by
  unfold doPerstDeassert
  try dsimp only
  (repeat' split) <;> simp_all
@[simp] theorem State.setUp_keeps (s : State) (l : Nat) (up : Bool) : (State.setUp s l up).mem = s.mem ∧ (State.setUp s l up).poison = s.poison := by
  unfold State.setUp
  try dsimp only
  (repeat' split) <;> simp_all
@[simp] theorem doPcieLinkUp_keeps (link partnerRate partnerWidth : Nat) (partnerFlit : Bool) (s : State) : (doPcieLinkUp link partnerRate partnerWidth partnerFlit s).mem = s.mem ∧ (doPcieLinkUp link partnerRate partnerWidth partnerFlit s).poison = s.poison := by
  unfold doPcieLinkUp
  try dsimp only
  (repeat' split) <;> simp_all
@[simp] theorem doFlrDone_keeps (fn : Nat) (s : State) : (doFlrDone fn s).mem = s.mem ∧ (doFlrDone fn s).poison = s.poison := by
  unfold doFlrDone
  try dsimp only
  (repeat' split) <;> simp_all
@[simp] theorem State.wrMsix_keeps (s : State) (f v : Nat) (addr data : Option Nat) : (State.wrMsix s f v addr data).mem = s.mem ∧ (State.wrMsix s f v addr data).poison = s.poison := by
  unfold State.wrMsix
  try dsimp only
  (repeat' split) <;> simp_all
@[simp] theorem doMsixTableWrite_keeps (fn vec : Nat) (addr data : Option Nat) (s : State) : (doMsixTableWrite fn vec addr data s).mem = s.mem ∧ (doMsixTableWrite fn vec addr data s).poison = s.poison := by
  unfold doMsixTableWrite
  try dsimp only
  simp_all
@[simp] theorem State.flushMsgs_keeps (s : State) (f : Nat) : (State.flushMsgs s f).mem = s.mem ∧ (State.flushMsgs s f).poison = s.poison := by
  unfold State.flushMsgs
  try dsimp only
  simp_all
@[simp] theorem State.maskVec_keeps (s : State) (f v : Nat) (m : Bool) : (State.maskVec s f v m).mem = s.mem ∧ (State.maskVec s f v m).poison = s.poison := by
  unfold State.maskVec
  try dsimp only
  (repeat' split) <;> simp_all
@[simp] theorem doMsixUnmask_keeps (fn vec : Nat) (s : State) : (doMsixUnmask fn vec s).mem = s.mem ∧ (doMsixUnmask fn vec s).poison = s.poison := by
  unfold doMsixUnmask
  try dsimp only
  simp_all
@[simp] theorem doInterruptDisableWrite_keeps (pf : Nat) (disable : Bool) (s : State) : (doInterruptDisableWrite pf disable s).mem = s.mem ∧ (doInterruptDisableWrite pf disable s).poison = s.poison := by
  unfold doInterruptDisableWrite
  try dsimp only
  (repeat' split) <;> simp_all
@[simp] theorem doD3hotEntry_keeps (fn : Nat) (s : State) : (doD3hotEntry fn s).mem = s.mem ∧ (doD3hotEntry fn s).poison = s.poison := by
  unfold doD3hotEntry
  try dsimp only
  simp_all
@[simp] theorem doPmeSend_keeps (fn : Nat) (s : State) : (doPmeSend fn s).mem = s.mem ∧ (doPmeSend fn s).poison = s.poison := by
  unfold doPmeSend
  try dsimp only
  (repeat' split) <;> simp_all
@[simp] theorem doWakeEvent_keeps (src : WakeSrc) (s : State) : (doWakeEvent src s).mem = s.mem ∧ (doWakeEvent src s).poison = s.poison := by
  unfold doWakeEvent
  try dsimp only
  (repeat' split) <;> simp_all
@[simp] theorem doPmeTurnOff_keeps (link : Nat) (s : State) : (doPmeTurnOff link s).mem = s.mem ∧ (doPmeTurnOff link s).poison = s.poison := by
  unfold doPmeTurnOff
  try dsimp only
  (repeat' split) <;> simp_all
@[simp] theorem State.setPm_keeps (s : State) (l : Nat) (x : LinkPm) : (State.setPm s l x).mem = s.mem ∧ (State.setPm s l x).poison = s.poison := by
  unfold State.setPm
  try dsimp only
  simp_all
@[simp] theorem doAspmL1Entry_keeps (link : Nat) (s : State) : (doAspmL1Entry link s).mem = s.mem ∧ (doAspmL1Entry link s).poison = s.poison := by
  unfold doAspmL1Entry
  try dsimp only
  (repeat' split) <;> simp_all
@[simp] theorem doL0pWidthChange_keeps (link : Nat) (full : Bool) (s : State) : (doL0pWidthChange link full s).mem = s.mem ∧ (doL0pWidthChange link full s).poison = s.poison := by
  unfold doL0pWidthChange
  try dsimp only
  (repeat' split) <;> simp_all
@[simp] theorem State.takePtm_keeps (s : State) (master : Nat) : (State.takePtm s master).mem = s.mem ∧ (State.takePtm s master).poison = s.poison := by
  unfold State.takePtm
  try dsimp only
  (repeat' split) <;> simp_all
@[simp] theorem doPtmMeasure_keeps (master : Nat) (s : State) : (doPtmMeasure master s).mem = s.mem ∧ (doPtmMeasure master s).poison = s.poison := by
  unfold doPtmMeasure
  try dsimp only
  (repeat' split) <;> simp_all
@[simp] theorem doFaultLogPop_keeps (w : Writer) (val : Nat) (s : State) : (doFaultLogPop w val s).mem = s.mem ∧ (doFaultLogPop w val s).poison = s.poison := by
  unfold doFaultLogPop
  try dsimp only
  (repeat' split) <;> simp_all
@[simp] theorem State.testDead_keeps (s : State) : (State.testDead s).mem = s.mem ∧ (State.testDead s).poison = s.poison := by
  unfold State.testDead
  try dsimp only
  (repeat' split) <;> simp_all
@[simp] theorem State.gateDead_keeps (s : State) (u : Nat) : (State.gateDead s u).mem = s.mem ∧ (State.gateDead s u).poison = s.poison := by
  unfold State.gateDead
  try dsimp only
  (repeat' split) <;> simp_all
@[simp] theorem State.recordFree_keeps (s : State) (unit kind loc : Nat) : (State.recordFree s unit kind loc).mem = s.mem ∧ (State.recordFree s unit kind loc).poison = s.poison := by
  unfold State.recordFree
  try dsimp only
  simp_all
@[simp] theorem State.countFenced_keeps (s : State) : (State.countFenced s).mem = s.mem ∧ (State.countFenced s).poison = s.poison := by
  unfold State.countFenced
  simp_all
@[simp] theorem doFencedRequestDrop_keeps (unit : Nat) (s : State) : (doFencedRequestDrop unit s).mem = s.mem ∧ (doFencedRequestDrop unit s).poison = s.poison := by
  unfold doFencedRequestDrop
  try dsimp only
  (repeat' split) <;> simp_all
@[simp] theorem doFencedUnitGate_keeps (unit : Nat) (s : State) : (doFencedUnitGate unit s).mem = s.mem ∧ (doFencedUnitGate unit s).poison = s.poison := by
  unfold doFencedUnitGate
  try dsimp only
  (repeat' split) <;> simp_all
@[simp] theorem doLhsMismatch_keeps (s : State) : (doLhsMismatch s).mem = s.mem ∧ (doLhsMismatch s).poison = s.poison := by
  unfold doLhsMismatch
  try dsimp only
  simp_all
@[simp] theorem State.gateCore_keeps (s : State) (c : Nat) (b : Bool) : (State.gateCore s c b).mem = s.mem ∧ (State.gateCore s c b).poison = s.poison := by
  unfold State.gateCore
  try dsimp only
  simp_all
@[simp] theorem State.queueSwitch_keeps (s : State) (u : Nat) : (State.queueSwitch s u).mem = s.mem ∧ (State.queueSwitch s u).poison = s.poison := by
  unfold State.queueSwitch
  try dsimp only
  (repeat' split) <;> simp_all
@[simp] theorem State.testBegin_keeps (s : State) (u : Nat) (why : TestWhy) : (State.testBegin s u why).mem = s.mem ∧ (State.testBegin s u why).poison = s.poison := by
  unfold State.testBegin
  try dsimp only
  simp_all
@[simp] theorem doScheduledTest_keeps (unit : Nat) (s : State) : (doScheduledTest unit s).mem = s.mem ∧ (doScheduledTest unit s).poison = s.poison := by
  unfold doScheduledTest
  try dsimp only
  (repeat' split) <;> simp_all
@[simp] theorem State.testEnd_keeps (s : State) (result : Nat) : (State.testEnd s result).mem = s.mem ∧ (State.testEnd s result).poison = s.poison := by
  unfold State.testEnd
  try dsimp only
  simp_all
@[simp] theorem doLaneRecalibrate_keeps (unit : Nat) (warm ok : Bool) (s : State) : (doLaneRecalibrate unit warm ok s).mem = s.mem ∧ (doLaneRecalibrate unit warm ok s).poison = s.poison := by
  unfold doLaneRecalibrate
  try dsimp only
  (repeat' split) <;> simp_all
@[simp] theorem State.settleCond_keeps (s : State) : (State.settleCond s).mem = s.mem ∧ (State.settleCond s).poison = s.poison := by
  unfold State.settleCond
  try dsimp only
  (repeat' split) <;> simp_all
@[simp] theorem State.driveVid_keeps (s : State) (code : Nat) : (State.driveVid s code).mem = s.mem ∧ (State.driveVid s code).poison = s.poison := by
  unfold State.driveVid
  try dsimp only
  (repeat' split) <;> simp_all
@[simp] theorem State.settleVid_keeps (s : State) : (State.settleVid s).mem = s.mem ∧ (State.settleVid s).poison = s.poison := by
  unfold State.settleVid
  try dsimp only
  simp_all
@[simp] theorem State.tellCore_keeps (s : State) (c : Nat) : (State.tellCore s c).mem = s.mem ∧ (State.tellCore s c).poison = s.poison := by
  unfold State.tellCore
  try dsimp only
  simp_all
@[simp] theorem State.tellClock_keeps (s : State) (i old : Nat) : (State.tellClock s i old).mem = s.mem ∧ (State.tellClock s i old).poison = s.poison := by
  unfold State.tellClock
  try dsimp only
  (repeat' split) <;> simp_all
@[simp] theorem doPlanReset_keeps (w : Writer) (island : Nat) (s : State) : (doPlanReset w island s).mem = s.mem ∧ (doPlanReset w island s).poison = s.poison := by
  unfold doPlanReset
  try dsimp only
  (repeat' split) <;> simp_all
@[simp] theorem State.modSec_keeps (s : State) (f : Sec → Sec) : (State.modSec s f).mem = s.mem ∧ (State.modSec s f).poison = s.poison := by
  unfold State.modSec
  try dsimp only
  simp_all
@[simp] theorem State.keyEnd_keeps (s : State) (status : Nat) : (State.keyEnd s status).mem = s.mem ∧ (State.keyEnd s status).poison = s.poison := by
  unfold State.keyEnd
  try dsimp only
  simp_all
@[simp] theorem State.keyCmd_keeps (s : State) (w : Writer) (val op : Nat) (k : State → State) (hk : ∀ s : State, (k s).mem = s.mem ∧ (k s).poison = s.poison): (State.keyCmd s w val op k).mem = s.mem ∧ (State.keyCmd s w val op k).poison = s.poison := by
  unfold State.keyCmd
  try dsimp only
  (repeat' split) <;> simp_all
@[simp] theorem doKeyNop_keeps (w : Writer) (val : Nat) (s : State) : (doKeyNop w val s).mem = s.mem ∧ (doKeyNop w val s).poison = s.poison := by
  unfold doKeyNop
  try dsimp only
  simp_all
@[simp] theorem doKeyCmdDone_keeps (s : State) : (doKeyCmdDone s).mem = s.mem ∧ (doKeyCmdDone s).poison = s.poison := by
  unfold doKeyCmdDone
  try dsimp only
  (repeat' split) <;> simp_all
@[simp] theorem State.putMbox_keeps (s : State) (off : Nat) (b : Bytes) : (State.putMbox s off b).mem = s.mem ∧ (State.putMbox s off b).poison = s.poison := by
  unfold State.putMbox
  try dsimp only
  simp_all
@[simp] theorem doLogSeal_keeps (w : Writer) (s : State) : (doLogSeal w s).mem = s.mem ∧ (doLogSeal w s).poison = s.poison := by
  unfold doLogSeal
  try dsimp only
  (repeat' split) <;> simp_all
@[simp] theorem State.wrFwCtl_keeps (s : State) (w : Writer) (val : Nat) : (State.wrFwCtl s w val).mem = s.mem ∧ (State.wrFwCtl s w val).poison = s.poison := by
  unfold State.wrFwCtl
  try dsimp only
  simp_all
@[simp] theorem State.fwGo_keeps (s : State) (w : Writer) (val op : Nat) (states : List Nat) (k : State → State) (hk : ∀ s : State, (k s).mem = s.mem ∧ (k s).poison = s.poison): (State.fwGo s w val op states k).mem = s.mem ∧ (State.fwGo s w val op states k).poison = s.poison := by
  unfold State.fwGo
  try dsimp only
  (repeat' split) <;> simp_all
@[simp] theorem doFwNop_keeps (w : Writer) (val : Nat) (s : State) : (doFwNop w val s).mem = s.mem ∧ (doFwNop w val s).poison = s.poison := by
  unfold doFwNop
  try dsimp only
  simp_all
@[simp] theorem State.fwEnd_keeps (s : State) (result : Nat) : (State.fwEnd s result).mem = s.mem ∧ (State.fwEnd s result).poison = s.poison := by
  unfold State.fwEnd
  try dsimp only
  (repeat' split) <;> simp_all
@[simp] theorem State.olderCopy_keeps (s : State) (i : Nat) : (State.olderCopy s i).2.mem = s.mem ∧ (State.olderCopy s i).2.poison = s.poison := by
  unfold State.olderCopy
  try dsimp only
  (repeat' split) <;> simp_all
@[simp] theorem State.prefer_keeps (s : State) (k b : Nat) : (State.prefer s k b).mem = s.mem ∧ (State.prefer s k b).poison = s.poison := by
  unfold State.prefer
  try dsimp only
  (repeat' split) <;> simp_all
@[simp] theorem State.activateFw_keeps (s : State) : (State.activateFw s).mem = s.mem ∧ (State.activateFw s).poison = s.poison := by
  unfold State.activateFw
  try dsimp only
  (repeat' split) <;> simp_all
@[simp] theorem doFwActivate_keeps (w : Writer) (val : Nat) (s : State) : (doFwActivate w val s).mem = s.mem ∧ (doFwActivate w val s).poison = s.poison := by
  unfold doFwActivate
  try dsimp only
  simp_all
@[simp] theorem State.closeLantern_keeps (s : State) : (State.closeLantern s).mem = s.mem ∧ (State.closeLantern s).poison = s.poison := by
  unfold State.closeLantern
  try dsimp only
  simp_all
@[simp] theorem State.beginSwitch_keeps (s : State) (st result : Nat) : (State.beginSwitch s st result).mem = s.mem ∧ (State.beginSwitch s st result).poison = s.poison := by
  unfold State.beginSwitch
  try dsimp only
  (repeat' split) <;> simp_all
@[simp] theorem doFwYield_keeps (w : Writer) (s : State) : (doFwYield w s).mem = s.mem ∧ (doFwYield w s).poison = s.poison := by
  unfold doFwYield
  try dsimp only
  (repeat' split) <;> simp_all
@[simp] theorem doFwYieldTimeout_keeps (s : State) : (doFwYieldTimeout s).mem = s.mem ∧ (doFwYieldTimeout s).poison = s.poison := by
  unfold doFwYieldTimeout
  try dsimp only
  (repeat' split) <;> simp_all
@[simp] theorem doFwOpen_keeps (w : Writer) (s : State) : (doFwOpen w s).mem = s.mem ∧ (doFwOpen w s).poison = s.poison := by
  unfold doFwOpen
  try dsimp only
  (repeat' split) <;> simp_all
@[simp] theorem State.raiseFloor_keeps (s : State) (f v actor : Nat) : (State.raiseFloor s f v actor).mem = s.mem ∧ (State.raiseFloor s f v actor).poison = s.poison := by
  unfold State.raiseFloor
  try dsimp only
  (repeat' split) <;> simp_all
@[simp] theorem State.confirmFw_keeps (s : State) (w : Writer) : (State.confirmFw s w).mem = s.mem ∧ (State.confirmFw s w).poison = s.poison := by
  unfold State.confirmFw
  try dsimp only
  (repeat' split) <;> simp_all
@[simp] theorem doFwConfirm_keeps (w : Writer) (val : Nat) (s : State) : (doFwConfirm w val s).mem = s.mem ∧ (doFwConfirm w val s).poison = s.poison := by
  unfold doFwConfirm
  try dsimp only
  simp_all
@[simp] theorem doFwConfirmTimeout_keeps (s : State) : (doFwConfirmTimeout s).mem = s.mem ∧ (doFwConfirmTimeout s).poison = s.poison := by
  unfold doFwConfirmTimeout
  try dsimp only
  (repeat' split) <;> simp_all
@[simp] theorem State.setConn_keeps (s : State) (tr : Nat) (c : SpdmConn) : (State.setConn s tr c).mem = s.mem ∧ (State.setConn s tr c).poison = s.poison := by
  unfold State.setConn
  try dsimp only
  simp_all
@[simp] theorem State.deliver_keeps (s : State) (tr : Nat) (m : Bytes) : (State.deliver s tr m).mem = s.mem ∧ (State.deliver s tr m).poison = s.poison := by
  unfold State.deliver
  try dsimp only
  (repeat' split) <;> simp_all
@[simp] theorem doSpdmChunkGet_keeps (tr : Nat) (msg : Bytes) (s : State) : (doSpdmChunkGet tr msg s).mem = s.mem ∧ (doSpdmChunkGet tr msg s).poison = s.poison := by
  unfold doSpdmChunkGet
  try dsimp only
  (repeat' split) <;> simp_all
@[simp] theorem doBlockDim_keeps (b : Nat) (s : State) : (doBlockDim b s).mem = s.mem ∧ (doBlockDim b s).poison = s.poison := by
  unfold doBlockDim
  try dsimp only
  (repeat' split) <;> simp_all
@[simp] theorem State.dropCache_keeps (s : State) (c : Nat) : (State.dropCache s c).mem = s.mem ∧ (State.dropCache s c).poison = s.poison := by
  unfold State.dropCache
  try dsimp only
  simp_all
@[simp] theorem State.loseDark_keeps (s : State) (b : Nat) : (State.loseDark s b).mem = s.mem ∧ (State.loseDark s b).poison = s.poison := by
  unfold State.loseDark
  try dsimp only
  (repeat' split) <;> simp_all
@[simp] theorem doBlockDark_keeps (b : Nat) (s : State) : (doBlockDark b s).mem = s.mem ∧ (doBlockDark b s).poison = s.poison := by
  unfold doBlockDark
  try dsimp only
  (repeat' split) <;> simp_all
@[simp] theorem doBlockWake_keeps (b : Nat) (s : State) : (doBlockWake b s).mem = s.mem ∧ (doBlockWake b s).poison = s.poison := by
  unfold doBlockWake
  try dsimp only
  (repeat' split) <;> simp_all
@[simp] theorem doPwrFloorWrite_keeps (w : Writer) (b val : Nat) (s : State) : (doPwrFloorWrite w b val s).mem = s.mem ∧ (doPwrFloorWrite w b val s).poison = s.poison := by
  unfold doPwrFloorWrite
  try dsimp only
  (repeat' split) <;> simp_all
@[simp] theorem State.powerUp_keeps (s : State) : (State.powerUp s).mem = s.mem ∧ (State.powerUp s).poison = s.poison := by
  unfold State.powerUp
  try dsimp only
  simp_all
@[simp] theorem State.setRights_keeps (s : State) : (State.setRights s).mem = s.mem ∧ (State.setRights s).poison = s.poison := by
  unfold State.setRights
  try dsimp only
  simp_all
@[simp] theorem doMainPgRise_keeps (s : State) : (doMainPgRise s).mem = s.mem ∧ (doMainPgRise s).poison = s.poison := by
  unfold doMainPgRise
  try dsimp only
  (repeat' split) <;> simp_all
@[simp] theorem State.envLost_keeps (s : State) : (State.envLost s).mem = s.mem ∧ (State.envLost s).poison = s.poison := by
  unfold State.envLost
  try dsimp only
  simp_all
@[simp] theorem doTempSample_keeps (temps : List Int) (s : State) : (doTempSample temps s).mem = s.mem ∧ (doTempSample temps s).poison = s.poison := by
  unfold doTempSample
  try dsimp only
  (repeat' split) <;> simp_all
@[simp] theorem State.setSteps_keeps (s : State) (n : Nat) : (State.setSteps s n).mem = s.mem ∧ (State.setSteps s n).poison = s.poison := by
  unfold State.setSteps
  try dsimp only
  simp_all
@[simp] theorem doThrottleStep_keeps (s : State) : (doThrottleStep s).mem = s.mem ∧ (doThrottleStep s).poison = s.poison := by
  unfold doThrottleStep
  try dsimp only
  (repeat' split) <;> simp_all
@[simp] theorem doThrottleRelease_keeps (s : State) : (doThrottleRelease s).mem = s.mem ∧ (doThrottleRelease s).poison = s.poison := by
  unfold doThrottleRelease
  try dsimp only
  (repeat' split) <;> simp_all
@[simp] theorem doThermtrip_keeps (s : State) : (doThermtrip s).mem = s.mem ∧ (doThermtrip s).poison = s.poison := by
  unfold doThermtrip
  try dsimp only
  (repeat' split) <;> simp_all
@[simp] theorem doVrTimeout_keeps (s : State) : (doVrTimeout s).mem = s.mem ∧ (doVrTimeout s).poison = s.poison := by
  unfold doVrTimeout
  try dsimp only
  (repeat' split) <;> simp_all
@[simp] theorem doTrstAssert_keeps (s : State) : (doTrstAssert s).mem = s.mem ∧ (doTrstAssert s).poison = s.poison := by
  unfold doTrstAssert
  try dsimp only
  simp_all
@[simp] theorem doBadWidthAccess_keeps (w : Writer) (off bytes : Nat) (write : Bool) (_val : Nat) (s : State) : (doBadWidthAccess w off bytes write _val s).mem = s.mem ∧ (doBadWidthAccess w off bytes write _val s).poison = s.poison := by
  unfold doBadWidthAccess
  try dsimp only
  (repeat' split) <;> simp_all
@[simp] theorem State.bootAt_keeps (s : State) (b : Boot) : (State.bootAt s b).mem = s.mem ∧ (State.bootAt s b).poison = s.poison := by
  unfold State.bootAt
  try dsimp only
  simp_all
@[simp] theorem doBootStage0_keeps (s : State) : (doBootStage0 s).mem = s.mem ∧ (doBootStage0 s).poison = s.poison := by
  unfold doBootStage0
  try dsimp only
  (repeat' split) <;> simp_all
@[simp] theorem State.applyVfs_keeps (s : State) (l : List Nat) : (State.applyVfs s l).mem = s.mem ∧ (State.applyVfs s l).poison = s.poison := by
  unfold State.applyVfs
  try dsimp only
  (repeat' split) <;> simp_all
@[simp] theorem State.firstReady_keeps (s : State) : (State.firstReady s).mem = s.mem ∧ (State.firstReady s).poison = s.poison := by
  unfold State.firstReady
  try dsimp only
  (repeat' split) <;> simp_all
@[simp] theorem doConfigReady_keeps (s : State) : (doConfigReady s).mem = s.mem ∧ (doConfigReady s).poison = s.poison := by
  unfold doConfigReady
  try dsimp only
  (repeat' split) <;> simp_all
@[simp] theorem doRecoveryImage_keeps (object : Bytes) (s : State) : (doRecoveryImage object s).mem = s.mem ∧ (doRecoveryImage object s).poison = s.poison := by
  unfold doRecoveryImage
  try dsimp only
  (repeat' split) <;> simp_all
@[simp] theorem State.upermOr_keeps (s : State) (t bit word : Nat) (k : State → State) (hk : ∀ s : State, (k s).mem = s.mem ∧ (k s).poison = s.poison): (State.upermOr s t bit word k).mem = s.mem ∧ (State.upermOr s t bit word k).poison = s.poison := by
  unfold State.upermOr
  try dsimp only
  (repeat' split) <;> simp_all
@[simp] theorem doCryptRand_keeps (t : Nat) (rd : Reg5) (s : State) : (doCryptRand t rd s).mem = s.mem ∧ (doCryptRand t rd s).poison = s.poison := by
  unfold doCryptRand
  try dsimp only
  simp_all
@[simp] theorem State.addJob_keeps (s : State) (j : Job) : (State.addJob s j).2.mem = s.mem ∧ (State.addJob s j).2.poison = s.poison := by
  unfold State.addJob
  try dsimp only
  simp_all
@[simp] theorem State.subRefused_keeps (s : State) (t : Nat) (rd : Reg5) (st : SubStat) : (State.subRefused s t rd st).mem = s.mem ∧ (State.subRefused s t rd st).poison = s.poison := by
  unfold State.subRefused
  try dsimp only
  simp_all
@[simp] theorem State.submit_keeps (s : State) (t : Nat) (rd : Reg5) (i : Nat) (k : State → Nat → State)
    (hk : ∀ s n, (k s n).mem = s.mem ∧ (k s n).poison = s.poison) :
    (s.submit t rd i k).mem = s.mem ∧ (s.submit t rd i k).poison = s.poison := by
  unfold State.submit
  dsimp only
  simp [hk]
@[simp] theorem doDmaack_keeps (t : Nat) (rd ra rb : Reg5) (s : State) : (doDmaack t rd ra rb s).mem = s.mem ∧ (doDmaack t rd ra rb s).poison = s.poison := by
  unfold doDmaack
  try dsimp only
  simp_all
@[simp] theorem State.blkEnd_keeps (s : State) (t : Nat) (rd : Reg5) (v : Nat) : (State.blkEnd s t rd v).mem = s.mem ∧ (State.blkEnd s t rd v).poison = s.poison := by
  unfold State.blkEnd
  try dsimp only
  simp_all
@[simp] theorem State.blkIssue_keeps (s : State) (t q : Nat) (rd ra rb rc : Reg5) : (State.blkIssue s t q rd ra rb rc).mem = s.mem ∧ (State.blkIssue s t q rd ra rb rc).poison = s.poison := by
  unfold State.blkIssue
  try dsimp only
  simp_all
@[simp] theorem doBcopy_keeps (t : Nat) (rd ra rb rc : Reg5) (s : State) : (doBcopy t rd ra rb rc s).mem = s.mem ∧ (doBcopy t rd ra rb rc s).poison = s.poison := by
  unfold doBcopy
  try dsimp only
  simp_all
@[simp] theorem doBfill_keeps (t : Nat) (rd ra rb rc : Reg5) (s : State) : (doBfill t rd ra rb rc s).mem = s.mem ∧ (doBfill t rd ra rb rc s).poison = s.poison := by
  unfold doBfill
  try dsimp only
  simp_all
@[simp] theorem doBcmp_keeps (t : Nat) (rd ra rb rc : Reg5) (s : State) : (doBcmp t rd ra rb rc s).mem = s.mem ∧ (doBcmp t rd ra rb rc s).poison = s.poison := by
  unfold doBcmp
  try dsimp only
  simp_all
@[simp] theorem doBcrc_keeps (t : Nat) (rd ra rb rc : Reg5) (s : State) : (doBcrc t rd ra rb rc s).mem = s.mem ∧ (doBcrc t rd ra rb rc s).poison = s.poison := by
  unfold doBcrc
  try dsimp only
  simp_all
end Sys2Proof.Machine
end

