-- ==== Sys2Proof/Machine/ConfigSpace.lean ====
section
/-!
DEFINITION. What configuration space shows of a function (10_host_interface.md R446, R452, R453, R460 to R462, R464, R470 to R472, R491;
18_electrical_package.md R715). The table has no row for a configuration access, so these are views of the state, which no command
changes and no command answers; the settings that the host writes there are `State.fcfg`.
-/

namespace Sys2Proof.Machine

/-! ### Identity (R715, R453) -/

/-- Vendor ID (R715). -/
def pciVendor : Nat := 0x2BE7

/-- PF Device ID (R715). -/
def pfDevice : Part → Nat
  | .a28 => 0x9460 | .a24 => 0x9461 | .b24 => 0x9462

/-- SR-IOV VF Device ID (R715). -/
def vfDevice : Nat := 0x946F

/-- The NVMe personality of a function is in force (R405). -/
def State.nvmeOn (s : State) (f : Nat) : Bool := s.flag R.NVM_CTRL_CFG_ACTIVE f

/-- Class code (R715). -/
def State.classCode (s : State) (f : Nat) : Nat := if s.nvmeOn f then 0x010802 else 0x020000

/-- Revision ID: the low byte of STEPPING (R715, R687). -/
def State.revision (s : State) : Nat := s.stepping % 256

/-- The size in bytes of a BAR of a function, 0 where it has none (R453). BAR0 of a VF is VF BAR0 of its PF. -/
def barSize (f bar : Nat) : Nat :=
  if bar = 0 then (if f < 8 then 0x4000000 else 0x40000)
  else if bar = 2 ∧ f = 0 then 0x400000000
  else 0

/-! ### Routing (R446, R452) -/

/-- TotalVFs of a PF: the VFs provisioned to it (R446). -/
def State.totalVfs (s : State) (p : Nat) : Nat := s.rd R.HIF_PF_VF_ACT_COUNT p

/-- The function number of an enabled PF on its link (R452). -/
def State.pfNumber (s : State) (p : Nat) : Nat := (s.pfsOf (s.pfLink p).1).idxOf p

/-- First VF Offset of an enabled PF (R452). VF Stride is 1. -/
def State.firstVfOffset (s : State) (p : Nat) : Nat :=
  let on := s.pfsOf (s.pfLink p).1
  let k := s.pfNumber p
  (on.length - k) + ((on.take k).map s.totalVfs).sum

/-- The routing ID of a function on its link (R452). -/
def State.routingId (s : State) (f : Nat) : Option Nat :=
  (s.pfOf f).map fun p =>
    if f < 8 then s.pfNumber p
    else s.pfNumber p + s.firstVfOffset p + (f - s.rd R.HIF_PF_VF_ACT_FIRST p)

/-! ### Capabilities (R460, R461) -/

/-- The capabilities of R460. -/
inductive PciCap where
  | powerManagement | pciExpress | msix | aer | ari | sriov | ats | pasid | pri | acs | ltr | l1Substates | ptm | secondary
  | dataLinkFeature | phy16 | phy32 | phy64 | laneMargining | flitLogging | doe | serialNumber | readiness | vendor
  deriving DecidableEq, Repr

/-- Which functions carry a capability. -/
inductive CapIn where
  | all | pfs | function0
  deriving DecidableEq, Repr

/-- The rows of R460: capability, offset, and the functions that carry it. -/
def pciCaps : List (PciCap × Nat × CapIn) :=
  [(.powerManagement, 0x040, .all), (.pciExpress, 0x050, .all), (.msix, 0x090, .all), (.aer, 0x100, .all), (.ari, 0x180, .all),
   (.sriov, 0x188, .pfs), (.ats, 0x1C8, .all), (.pasid, 0x1D0, .pfs), (.pri, 0x1D8, .pfs), (.acs, 0x1E8, .pfs),
   (.ltr, 0x1F0, .function0), (.l1Substates, 0x1F8, .function0), (.ptm, 0x208, .function0), (.secondary, 0x214, .function0),
   (.dataLinkFeature, 0x240, .function0), (.phy16, 0x250, .function0), (.phy32, 0x280, .function0), (.phy64, 0x2B0, .function0),
   (.laneMargining, 0x2D0, .function0), (.flitLogging, 0x320, .function0), (.doe, 0x340, .function0), (.serialNumber, 0x360, .all),
   (.readiness, 0x370, .all), (.vendor, 0x400, .all)]

/-- A function carries the capabilities of a row of R460. -/
def State.carries (s : State) (f : Nat) : CapIn → Bool
  | .all => true
  | .pfs => decide (f < 8)
  | .function0 => decide (f < 8) && s.fn0 (s.pfLink f).1 == some f

/-- The capabilities of a function with their offsets (R460, R461). -/
def State.capsOf (s : State) (f : Nat) : List (PciCap × Nat) :=
  (pciCaps.filter fun c => s.carries f c.2.2).map fun c => (c.1, c.2.1)

/-- Limits that capabilities report: MPS supported in bytes (R460), Invalidate Queue Depth as coded (R470), Max PASID Width (R471),
Outstanding Page Request Capacity (R472), T_POWER_ON in microseconds (R488). -/
structure CapLimits where
  mps       : Nat
  invDepth  : Nat
  pasidBits : Nat
  priCap    : Nat
  tPowerOn  : Nat
  deriving DecidableEq, Repr

/-- Their values. -/
def capLimits : CapLimits := ⟨512, 0, 20, 512, 50⟩

/-- MSI-X Table Size as reported: the vectors of the function less one (R464). -/
def State.msixTableSize (s : State) (f : Nat) : Nat := s.vecCount f - 1

/-- The times of Readiness Time Reporting, in ms (R491). -/
structure ReadyTimes where
  reset  : Nat
  dlUp   : Nat
  flr    : Nat
  d3ToD0 : Nat
  deriving DecidableEq, Repr

/-- Their values. -/
def readyTimes : ReadyTimes := ⟨80, 2, 40, 1⟩

/-! ### The vendor-specific capability (R462) -/

/-- The dword at an offset of the vendor-specific capability, from 0x04 on; the header at 0x00 is PCI Express's. -/
def State.vsecWord (s : State) (f off : Nat) : Nat :=
  if off = 0x04 then 0x0001 + 1 * 2 ^ 16 + 0x018 * 2 ^ 20
  else if off = 0x08 then s.statusWord f 0 0 + b2n (s.nvmeOn f) * 2 ^ 18
  else if off = 0x0C then s.rd R.HIF_FN_ACT_SQ_COUNT f + s.rd R.HIF_FN_ACT_CQ_COUNT f * 2 ^ 17
  else if off = 0x10 then s.vecCount f
  else if off = 0x14 then s.rd R.BCN_NODE_NODE 0 + s.rd R.BCN_NODE_NODE_V 0 * 2 ^ 12
  else 0

/-- The Device Serial Number of R460: the 64-bit serial number of R687. -/
def State.deviceSerial (s : State) : Nat := s.serial

end Sys2Proof.Machine
end

