-- ==== Sys2Proof/WellFormed.lean ====
section
/-!
DEFINITION. Which commands a sender can send: every operand in the range the spec gives it. A command outside these ranges names nothing
that the device has; the meanings are total and say what the model does with it, which is nothing unless a rule says otherwise.
-/

namespace Sys2Proof

/-- A writer that the spec names: a thread of the 768 (R65), a function of the 4,096 (R446), or a fixed one. The writes of a signed blob
are made by Lighthouse itself (R669) and are no one's command. -/
def Writer.wf : Writer → Bool
  | .thread t => decide (t < 768)
  | .fn f => decide (f < 4096)
  | .jtag | .mctp | .lighthouse => true
  | .signed _ => false

/-- A host page: one of 4,096 functions, a PASID of 20 bits, a 4 KiB page of a 64-bit address (R222). -/
def HPage.wf (p : HPage) : Bool := decide (p.fn < 4096) && p.pasid.all (· < 2 ^ 20) && decide (p.page < 2 ^ 52)

/-- An upset of a row that the array has: 33 banks of 2,048 rows of 160 bits (R251, R277). -/
def RowUpset.wf (u : RowUpset) : Bool :=
  decide (u.phys < 33) && decide (u.row < 2048) && decide (u.value < 2 ^ 160) && decide (u.mask < 2 ^ 160)

/-- The fields of a HELLO in their widths (R572, R574). -/
def Hello.wf (h : Hello) : Bool :=
  decide (h.port < 8) && h.node.all (· < 4096) && decide (h.level < 64) && decide (h.term < 65536) && decide (h.serial < 2 ^ 64)

/-- The fields of a link header in their widths (R553); FTYPE 3 is reserved. -/
def Flit.wf (f : Flit) : Bool :=
  decide (f.ftype < 3) && decide (f.seq < 4096) && decide (f.ack < 4096) && decide (f.cvc < 4) && decide (f.cred < 1024)
    && decide (f.lanes < 16)

/-- Power blocks (R696). -/
def blockNumber : Nat := 323

/-- Every operand of the command lies in its range. -/
def Instr.wf : Instr → Bool
  | .regWrite w off val bytes => w.wf && decide (off < 2 ^ 32) && decide (val < 2 ^ 64) && [1, 2, 4, 8].contains bytes
  | .lowerHalfWrite w off val => w.wf && decide (off < 2 ^ 32) && off % 8 == 0 && decide (val < 2 ^ 64)
  | .upperHalfWrite w off val => w.wf && decide (off < 2 ^ 32) && off % 8 == 0 && decide (val < 2 ^ 64)
  | .badWidthAccess w off _ _ val => w.wf && decide (off < 2 ^ 32) && decide (val < 2 ^ 64)
  | .ethGrpModeWrite w n val => w.wf && decide (n < 4) && decide (val < 2 ^ 64)
  | .ethPortCfgWrite w e val => w.wf && decide (e < 16) && decide (val < 2 ^ 64)
  | .ethFrameReceive e _ => decide (e < 16)
  | .ethFrameTransmit e _ => decide (e < 16)
  | .ethLinkUp e _ => decide (e < 16)
  | .ethLinkDown e _ _ _ _ => decide (e < 16)
  | .eventLatch t ev => decide (t < 768) && decide (ev < 32)
  | .messageVisible chan => decide (chan < 3072)
  | .threadTimerFire t => decide (t < 768)
  | .leaseExpire t => decide (t < 768)
  | .irqSetWrite w cluster k val => w.wf && decide (cluster < 12) && decide (k < 8) && decide (val < 2 ^ 64)
  | .irqLatchClear w cluster k val => w.wf && decide (cluster < 12) && decide (k < 8) && decide (val < 2 ^ 64)
  | .interruptEntry t => decide (t < 768)
  | .fltqPop w core => w.wf && decide (core < 96)
  | .heartbeat w core => w.wf && decide (core < 96)
  | .heartbeatTimeout core => decide (core < 96)
  | .eclipse core => decide (core < 96)
  | .groupEclipse cluster g => decide (cluster < 12) && decide (g < 16)
  | .groupCtlWrite w cluster g _ val => w.wf && decide (cluster < 12) && decide (g < 16) && decide (val < 2 ^ 64)
  | .channelEnable w chan val => w.wf && decide (chan < 3072) && decide (val < 2 ^ 64)
  | .channelDisable w chan => w.wf && decide (chan < 3072)
  | .start w t => w.wf && decide (t < 768)
  | .kill w t _ => w.wf && decide (t < 768)
  | .debugHaltRequest w core mask => w.wf && decide (core < 96) && decide (mask < 256)
  | .debugHalt t => decide (t < 768)
  | .debugResume w core mask => w.wf && decide (core < 96) && decide (mask < 256)
  | .debugStep w core mask => w.wf && decide (core < 96) && decide (mask < 256)
  | .hwBreakpoint t => decide (t < 768)
  | .dbgdataWrite w t val => w.wf && decide (t < 768) && decide (val < 2 ^ 64)
  | .add t _ _ _ => decide (t < 768)
  | .sub t _ _ _ => decide (t < 768)
  | .and t _ _ _ => decide (t < 768)
  | .or t _ _ _ => decide (t < 768)
  | .xor t _ _ _ => decide (t < 768)
  | .andn t _ _ _ => decide (t < 768)
  | .shl t _ _ _ => decide (t < 768)
  | .shr t _ _ _ => decide (t < 768)
  | .sra t _ _ _ => decide (t < 768)
  | .ror t _ _ _ => decide (t < 768)
  | .clt t _ _ _ => decide (t < 768)
  | .cltu t _ _ _ => decide (t < 768)
  | .min t _ _ _ => decide (t < 768)
  | .max t _ _ _ => decide (t < 768)
  | .minu t _ _ _ => decide (t < 768)
  | .maxu t _ _ _ => decide (t < 768)
  | .addw t _ _ _ => decide (t < 768)
  | .subw t _ _ _ => decide (t < 768)
  | .clz t _ _ => decide (t < 768)
  | .ctz t _ _ => decide (t < 768)
  | .popc t _ _ => decide (t < 768)
  | .bswap t _ _ => decide (t < 768)
  | .ext t _ _ _ => decide (t < 768)
  | .ins t _ _ _ => decide (t < 768)
  | .addi t _ _ _ => decide (t < 768)
  | .andi t _ _ _ => decide (t < 768)
  | .ori t _ _ _ => decide (t < 768)
  | .xori t _ _ _ => decide (t < 768)
  | .shifti t _ _ _ _ => decide (t < 768)
  | .clti t _ _ _ => decide (t < 768)
  | .cltiu t _ _ _ => decide (t < 768)
  | .immz t _ _ _ => decide (t < 768)
  | .immk t _ _ _ => decide (t < 768)
  | .mul t _ _ _ => decide (t < 768)
  | .mulhu t _ _ _ => decide (t < 768)
  | .mulhs t _ _ _ => decide (t < 768)
  | .mulw t _ _ _ => decide (t < 768)
  | .divu t _ _ _ => decide (t < 768)
  | .divs t _ _ _ => decide (t < 768)
  | .remu t _ _ _ => decide (t < 768)
  | .rems t _ _ _ => decide (t < 768)
  | .ldbu t _ _ _ => decide (t < 768)
  | .ldhu t _ _ _ => decide (t < 768)
  | .ldwu t _ _ _ => decide (t < 768)
  | .ldd t _ _ _ => decide (t < 768)
  | .ldb t _ _ _ => decide (t < 768)
  | .ldh t _ _ _ => decide (t < 768)
  | .ldw t _ _ _ => decide (t < 768)
  | .stb t _ _ _ => decide (t < 768)
  | .sth t _ _ _ => decide (t < 768)
  | .stw t _ _ _ => decide (t < 768)
  | .std t _ _ _ => decide (t < 768)
  | .swap t _ _ _ _ => decide (t < 768)
  | .cas t _ _ _ _ => decide (t < 768)
  | .fadd t _ _ _ _ => decide (t < 768)
  | .fand t _ _ _ _ => decide (t < 768)
  | .fOr t _ _ _ _ => decide (t < 768)
  | .fxor t _ _ _ _ => decide (t < 768)
  | .fmin t _ _ _ _ => decide (t < 768)
  | .fmax t _ _ _ _ => decide (t < 768)
  | .fminu t _ _ _ _ => decide (t < 768)
  | .fmaxu t _ _ _ _ => decide (t < 768)
  | .fence t => decide (t < 768)
  | .ifence t => decide (t < 768)
  | .beq t _ _ _ => decide (t < 768)
  | .bne t _ _ _ => decide (t < 768)
  | .blt t _ _ _ => decide (t < 768)
  | .bge t _ _ _ => decide (t < 768)
  | .bltu t _ _ _ => decide (t < 768)
  | .bgeu t _ _ _ => decide (t < 768)
  | .call t _ _ => decide (t < 768)
  | .callr t _ _ _ => decide (t < 768)
  | .chwr t _ _ => decide (t < 768)
  | .chcommit t _ _ => decide (t < 768)
  | .chrd t _ _ => decide (t < 768)
  | .chresv t _ _ _ => decide (t < 768)
  | .chdiscard t _ => decide (t < 768)
  | .chrx t _ _ => decide (t < 768)
  | .evsend t _ _ _ => decide (t < 768)
  | .wait t _ _ => decide (t < 768)
  | .evpoll t _ _ => decide (t < 768)
  | .tlookLpm4 t _ _ _ => decide (t < 768)
  | .tlookLpm6 t _ _ _ _ => decide (t < 768)
  | .tlookMac t _ _ _ => decide (t < 768)
  | .tlookFlow t _ _ _ => decide (t < 768)
  | .tlookPsm t _ _ _ => decide (t < 768)
  | .dmaq t _ _ _ _ => decide (t < 768)
  | .dmaack t _ _ _ => decide (t < 768)
  | .aesenc t _ _ _ _ => decide (t < 768)
  | .aesdec t _ _ _ _ => decide (t < 768)
  | .cryptJob t _ _ _ _ => decide (t < 768)
  | .cryptRand t _ => decide (t < 768)
  | .ctrrd t _ _ => decide (t < 768)
  | .srr t _ _ => decide (t < 768)
  | .srw t _ _ => decide (t < 768)
  | .syscall t _ => decide (t < 768)
  | .eret t => decide (t < 768)
  | .brk t _ => decide (t < 768)
  | .ien t => decide (t < 768)
  | .idis t => decide (t < 768)
  | .tlbi t _ scope => decide (t < 768) && scope != 3
  | .nops t => decide (t < 768)
  | .bcopy t _ _ _ _ => decide (t < 768)
  | .bfill t _ _ _ _ => decide (t < 768)
  | .bcmp t _ _ _ _ => decide (t < 768)
  | .bcrc t _ _ _ _ => decide (t < 768)
  | .blockStepDone t => decide (t < 768)
  | .dmaRingEnable w cluster r val => w.wf && decide (cluster < 12) && decide (r < 256) && decide (val < 2 ^ 64)
  | .dmaTransferStart cluster ring _ => decide (cluster < 12) && decide (ring < 256)
  | .dmaTransferComplete cluster ring _ => decide (cluster < 12) && decide (ring < 256)
  | .xlfResponse w val => w.wf && decide (val < 2 ^ 64)
  | .xlfHoldTimeout cluster hold => decide (cluster < 12) && decide (hold < 64)
  | .patrolScrub addr upset => decide (addr < 2 ^ 48) && decide (upset < 2 ^ 80)
  | .tlbiGo w val => w.wf && decide (val < 2 ^ 64)
  | .tlbiDone => true
  | .atsTranslationCompletion pg _ => pg.wf
  | .pageRequestIssue pg => pg.wf
  | .prgResponse pg _ => pg.wf
  | .pageRequestTimeout pg => pg.wf
  | .atsInvalidateRequest fn _ pasid page _ => decide (fn < 4096) && pasid.all (· < 2 ^ 20) && decide (page < 2 ^ 52)
  | .invalidationCompletion fn _ => decide (fn < 4096)
  | .prismInputEnqueue p _ => decide (p < 4)
  | .prismParse p => decide (p < 4)
  | .prismSearch p upset _ => decide (p < 4) && upset.all RowUpset.wf
  | .suspectRowRewrite p bank row => decide (p < 4) && decide (bank < 32) && decide (row < 2048)
  | .prismScrubRow p upsets _ => decide (p < 4) && upsets.all RowUpset.wf
  | .psmBatchGo w p val => w.wf && decide (p < 4) && decide (val < 2 ^ 64)
  | .psmHoldBegin p => decide (p < 4)
  | .psmBatchApply p => decide (p < 4)
  | .psmPlaceGo w p val => w.wf && decide (p < 4) && decide (val < 2 ^ 64)
  | .psmPlaceDone p => decide (p < 4)
  | .psmReadback w p val => w.wf && decide (p < 4) && decide (val < 2 ^ 64)
  | .forwardDecision p => decide (p < 4)
  | .lpmDrainGo w => w.wf
  | .lpmDrainDone => true
  | .flowTableEnable w val => w.wf && decide (val < 2 ^ 64)
  | .flowBatchGo w val => w.wf && decide (val < 2 ^ 64)
  | .cuckooRelocate table => table.all (· < 4)
  | .flowBatchDone => true
  | .learnApply p => decide (p < 4)
  | .macAgeSweep p _ => decide (p < 4)
  | .reconTick p => decide (p < 4)
  | .macCmdGo w p val => w.wf && decide (p < 4) && decide (val < 2 ^ 64)
  | .macNop p => decide (p < 4)
  | .macInsert p => decide (p < 4)
  | .macDelete p => decide (p < 4)
  | .clearFlap p => decide (p < 4)
  | .flushDest p => decide (p < 4)
  | .flushFd p => decide (p < 4)
  | .tmEnqueue p _ _ => decide (p < 4)
  | .tmDecision o _ => decide (o < 18 ∨ (24 ≤ o ∧ o < 32))
  | .shaperRelease => true
  | .coarseSlotEnter => true
  | .tmRecordRead w val _ => w.wf && decide (val < 2 ^ 64)
  | .tmRecordWrite w val => w.wf && decide (val < 2 ^ 64)
  | .tmIndDone => true
  | .pktNop w val => w.wf && decide (val < 2 ^ 64)
  | .pktFree w val => w.wf && decide (val < 2 ^ 64)
  | .pktCopy w val _ => w.wf && decide (val < 2 ^ 64)
  | .pktInject w val => w.wf && decide (val < 2 ^ 64)
  | .pktReparse w val => w.wf && decide (val < 2 ^ 64)
  | .pktCmdDone => true
  | .heldFrameExpire handle => decide (handle < 2 ^ 18)
  | .ctxTableEnable w val => w.wf && decide (val < 2 ^ 64)
  | .ctxFreeze w val => w.wf && decide (val < 2 ^ 64)
  | .ctxRelease w val => w.wf && decide (val < 2 ^ 64)
  | .ctxCmdNop w val => w.wf && decide (val < 2 ^ 64)
  | .ctxFreezeDone => true
  | .rootSlotDisable w slot val => w.wf && decide (slot < 16) && decide (val < 2 ^ 64)
  | .glintJobStart .. => true
  | .glintTagVerdict .. => true
  | .glintJobComplete .. => true
  | .glintChanStall .. => true
  | .glintInlineStart p => decide (p < 4)
  | .glintInlineVerdict cl => decide (cl < 32)
  | .drbgReseed cl => cl.all (· < 32)
  | .entropyHealthFail => true
  | .nvmEnable w val => w.wf && decide (val < 2 ^ 64)
  | .nvmeSqDoorbell fn id tail => decide (fn < 4096) && decide (id < 65536) && decide (tail < 65536)
  | .nvmeCqDoorbell fn id head => decide (fn < 4096) && decide (id < 65536) && decide (head < 65536)
  | .nvmeArbitrate .. => true
  | .nvmeCommandCheck slot _ _ => decide (slot < 32768)
  | .nvmeHandoff slot => decide (slot < 32768)
  | .nvmDone w val => w.wf && decide (val < 2 ^ 64)
  | .nvmeComplete slot _ _ => decide (slot < 32768)
  | .nvmeRead slot _ _ => decide (slot < 32768)
  | .nvmeWrite slot _ => decide (slot < 32768)
  | .nvmeFlush slot => decide (slot < 32768)
  | .nvmeWriteZeroes slot => decide (slot < 32768)
  | .nvmeDatasetMgmt slot _ => decide (slot < 32768)
  | .nvmeIdentify slot => decide (slot < 32768)
  | .nvmeGetLogPage slot => decide (slot < 32768)
  | .nvmeAsyncEventRequest slot => decide (slot < 32768)
  | .nvmeCreateIoSq slot => decide (slot < 32768)
  | .nvmeDeleteIoSq slot => decide (slot < 32768)
  | .nvmeCreateIoCq slot => decide (slot < 32768)
  | .nvmeDeleteIoCq slot => decide (slot < 32768)
  | .nvmeAbort slot _ => decide (slot < 32768)
  | .nvmeSetArbitration slot => decide (slot < 32768)
  | .nvmeGetArbitration slot => decide (slot < 32768)
  | .nvmeSetPowerMgmt slot => decide (slot < 32768)
  | .nvmeGetPowerMgmt slot => decide (slot < 32768)
  | .nvmeSetNumQueues slot => decide (slot < 32768)
  | .nvmeGetNumQueues slot => decide (slot < 32768)
  | .nvmeSetIntCoalescing slot => decide (slot < 32768)
  | .nvmeGetIntCoalescing slot => decide (slot < 32768)
  | .nvmeSetIntVectorCfg slot => decide (slot < 32768)
  | .nvmeGetIntVectorCfg slot => decide (slot < 32768)
  | .nvmePowerStateEntered fn => decide (fn < 4096)
  | .nvmeCcEnable fn cc => decide (fn < 4096) && decide (cc < 2 ^ 32)
  | .nvmeCcDisable fn cc => decide (fn < 4096) && decide (cc < 2 ^ 32)
  | .nvmeRdyClear fn => decide (fn < 4096)
  | .nvmeShutdownNormal fn cc => decide (fn < 4096) && decide (cc < 2 ^ 32)
  | .nvmeShutdownAbrupt fn cc => decide (fn < 4096) && decide (cc < 2 ^ 32)
  | .nvmeShutdownComplete fn => decide (fn < 4096)
  | .nvmeFwactPause w => w.wf
  | .nvmeFwactDrainTimeout => true
  | .nvmeFwactResume w => w.wf
  | .perstAssert port => decide (port < 2)
  | .perstDeassert port => decide (port < 2)
  | .hotReset link => decide (link < 4)
  | .pcieLinkUp link _ _ _ => decide (link < 4)
  | .pcieLinkDown link => decide (link < 4)
  | .flrStart fn => decide (fn < 4096)
  | .flrDone fn => decide (fn < 4096)
  | .vfEnableClear pf numVfs _ => decide (pf < 8) && decide (numVfs < 4096)
  | .bmeClear fn => decide (fn < 4096)
  | .bmeSet fn => decide (fn < 4096)
  | .atsEnableClear fn => decide (fn < 4096)
  | .msixTableWrite fn vec addr data => decide (fn < 4096) && decide (vec < 2048) && addr.all (· < 2 ^ 64) && data.all (· < 2 ^ 32)
  | .msixUnmask fn vec => decide (fn < 4096) && decide (vec < 2048)
  | .barMemoryRequest fn bar _ _ _ val => decide (fn < 4096) && decide (bar < 6) && decide (val < 2 ^ 64)
  | .hostReadCompletion .. => true
  | .completionTimeout .. => true
  | .d3hotEntry fn => decide (fn < 4096)
  | .d0Entry fn => decide (fn < 4096)
  | .pmeSend fn => decide (fn < 4096)
  | .wakeEvent .. => true
  | .pmeTurnOff link => decide (link < 4)
  | .aspmL1Entry link => decide (link < 4)
  | .l0pWidthChange link _ => decide (link < 4)
  | .ptmMeasure master => decide (master < 2 ^ 64)
  | .qmEnable w val => w.wf && decide (val < 2 ^ 64)
  | .sqEnable w q val => w.wf && decide (q < 65536) && decide (val < 2 ^ 64)
  | .cqEnable w c val => w.wf && decide (c < 16384) && decide (val < 2 ^ 64)
  | .sqDoorbell fn idx pi => decide (fn < 4096) && decide (idx < 65536) && decide (pi < 65536)
  | .cqHeadDoorbell fn idx head => decide (fn < 4096) && decide (idx < 65536) && decide (head < 65536)
  | .cqOvfClr fn idx => decide (fn < 4096) && decide (idx < 65536)
  | .fetchVisit link _ => decide (link < 4)
  | .descriptorCheck q _ => decide (q < 65536)
  | .descNop q => decide (q < 65536)
  | .ethSend q => decide (q < 65536)
  | .ethSendComplete .. => true
  | .rxPost q => decide (q < 65536)
  | .glintJob q => decide (q < 65536)
  | .fwRequest q => decide (q < 65536)
  | .rxFrameDeliver q _ => decide (q < 65536)
  | .fwCompletionPost w val => w.wf && decide (val < 2 ^ 64)
  | .spillMove c => decide (c < 16384)
  | .coalTimerExpire c => decide (c < 16384)
  | .funcNoticeCommit => true
  | .quiesceSet w fn _ => w.wf && decide (fn < 4096)
  | .quiesceClear w fn => w.wf && decide (fn < 4096)
  | .mirrorEnable w m val => w.wf && decide (m < 64) && decide (val < 2 ^ 64)
  | .harvest w m => w.wf && decide (m < 64)
  | .harvestDone m => decide (m < 64)
  | .harvestNoFlush m => decide (m < 64)
  | .flitReceive p f => decide (p < 8) && f.wf
  | .nakResendTimer p => decide (p < 8)
  | .replayTimeout p => decide (p < 8)
  | .fabricPortTrained p peerLanes _ => decide (p < 8) && decide (peerLanes < 16)
  | .retrainTimeout p => decide (p < 8)
  | .fabricPacketSend p _ => decide (p < 8)
  | .creditStall p vc => decide (p < 8) && decide (vc < 4)
  | .fabricTransit p vc => decide (p < 8) && decide (vc < 4)
  | .fabricRead p => decide (p < 8)
  | .fabricWrite p => decide (p < 8)
  | .fabricReadData p => decide (p < 8)
  | .fabricAck p => decide (p < 8)
  | .fabricNak p => decide (p < 8)
  | .fabricFrame p => decide (p < 8)
  | .fabricReqTimeout .. => true
  | .fencedRequestDrop unit => decide (unit < 65536)
  | .helloSend p => decide (p < 8)
  | .helloReceive p h => decide (p < 8) && h.wf
  | .coordDeclare => true
  | .coordHeartbeatSend => true
  | .coordHeartbeatReceive p term _ serial _ => decide (p < 8) && decide (term < 65536) && decide (serial < 2 ^ 64)
  | .coordTimeout => true
  | .nodeIdRequest p serial pref _ path => decide (p < 8) && decide (serial < 2 ^ 64) && pref.all (· < 4096) && path.all (· < 8)
  | .nodeIdGrant p serial id path => decide (p < 8) && decide (serial < 2 ^ 64) && id.all (· < 4096) && path.all (· < 8)
  | .nodeIdRetry => true
  | .nodeIdHoldExpire id => decide (id < 4096)
  | .routeUpdateSend => true
  | .routeUpdateReceive p first _ _ => decide (p < 8) && [0, 1024, 2048, 3072].contains first
  | .routeEntryWrite w d val => w.wf && decide (d < 4096) && decide (val < 2 ^ 64)
  | .laneRetire p lane => decide (p < 8) && decide (lane < 4)
  | .lensCommit w => w.wf
  | .lensCommitDone => true
  | .lensCommitForce => true
  | .lensWrDrain w => w.wf
  | .lensWrDrainDone => true
  | .faultReport unit kind loc _ _ => decide (unit < 65536) && decide (kind < 256) && decide (loc < 2 ^ 32)
  | .faultLogPop w val => w.wf && decide (val < 2 ^ 64)
  | .switchOver unit _ _ => decide (unit < 65536)
  | .fencedUnitGate unit => decide (unit < 65536)
  | .lhsMismatch => true
  | .testRequest w val => w.wf && decide (val < 2 ^ 64)
  | .scheduledTest unit => decide (unit < 65536)
  | .testSpareFree => true
  | .testDeadline => true
  | .testDone .. => true
  | .laneRecalibrate unit _ _ => decide (unit < 65536)
  | .fadeReading island _ _ _ => decide (island < 40)
  | .fadeRun w val _ _ _ => w.wf && decide (val < 2 ^ 64)
  | .planReset w island => w.wf && decide (island < 40)
  | .snapshotGo w => w.wf
  | .snapshotPeriodic => true
  | .snapshotTake => true
  | .snapshotDone => true
  | .counterBlockClear w b => w.wf && decide (b < 71)
  | .freezeAll w _ => w.wf
  | .clearAll w => w.wf
  | .counterParityCheck errors => errors.all (· < 568)
  | .roleCommand _ w val _ _ => w.wf && decide (val < 2 ^ 64)
  | .keyNop w val => w.wf && decide (val < 2 ^ 64)
  | .keyGenerate w val => w.wf && decide (val < 2 ^ 64)
  | .keyDeriveDevice w val => w.wf && decide (val < 2 ^ 64)
  | .keyImport w val => w.wf && decide (val < 2 ^ 64)
  | .keyErase w val => w.wf && decide (val < 2 ^ 64)
  | .keyCmdDone => true
  | .logSeal w => w.wf
  | .fwNop w val => w.wf && decide (val < 2 ^ 64)
  | .fwStage w val _ => w.wf && decide (val < 2 ^ 64)
  | .fwActivate w val => w.wf && decide (val < 2 ^ 64)
  | .fwYield w => w.wf
  | .fwYieldTimeout => true
  | .fwTrialStart => true
  | .fwOpen w => w.wf
  | .fwConfirm w val => w.wf && decide (val < 2 ^ 64)
  | .fwConfirmTimeout => true
  | .bootStage0 => true
  | .bootStage1 => true
  | .configReady => true
  | .bootStage2 => true
  | .recoveryImage .. => true
  | .spdmGetVersion tr _ => decide (tr ≤ 4 ∨ (8 ≤ tr ∧ tr < 12))
  | .spdmGetCapabilities tr _ => decide (tr ≤ 4 ∨ (8 ≤ tr ∧ tr < 12))
  | .spdmNegotiateAlgorithms tr _ => decide (tr ≤ 4 ∨ (8 ≤ tr ∧ tr < 12))
  | .spdmGetDigests tr _ => decide (tr ≤ 4 ∨ (8 ≤ tr ∧ tr < 12))
  | .spdmGetCertificate tr _ => decide (tr ≤ 4 ∨ (8 ≤ tr ∧ tr < 12))
  | .spdmChallenge tr _ _ => decide (tr ≤ 4 ∨ (8 ≤ tr ∧ tr < 12))
  | .spdmGetMeasurements tr _ _ => decide (tr ≤ 4 ∨ (8 ≤ tr ∧ tr < 12))
  | .spdmChunkSend tr _ _ => decide (tr ≤ 4 ∨ (8 ≤ tr ∧ tr < 12))
  | .spdmChunkGet tr _ => decide (tr ≤ 4 ∨ (8 ≤ tr ∧ tr < 12))
  | .spdmVendorDefinedRequest tr _ => decide (tr ≤ 4 ∨ (8 ≤ tr ∧ tr < 12))
  | .blockDim b => decide (b < blockNumber)
  | .blockDark b => decide (b < blockNumber)
  | .blockWake b => decide (b < blockNumber)
  | .pwrFloorWrite w b val => w.wf && decide (b < blockNumber) && decide (val < 2 ^ 64)
  | .pllLockLoss pll => decide (pll < 6)
  | .powerOnReset => true
  | .porRelease gpio => decide (gpio < 2 ^ 16)
  | .mainPgRise => true
  | .mainPgFall => true
  | .deviceSoftReset w => w.wf
  | .tempSample temps => temps.length == 40
  | .throttleStep => true
  | .throttleRelease => true
  | .thermtrip => true
  | .railFault rail => decide (rail < 8)
  | .vrTimeout => true
  | .illegalInstruction t word => decide (t < 768) && decide (word < 2 ^ 32)
  | .instructionFetchFault t => decide (t < 768)
  | .entropyHealthPass => true
  | .interruptDisableWrite pf _ => decide (pf < 8)
  | .priEnable pf alloc => decide (pf < 8) && decide (alloc < 2 ^ 32)
  | .fabricSignalLoss p => decide (p < 8)
  | .fabricSignalDetect p => decide (p < 8)
  | .trstAssert => true

end Sys2Proof
end

