-- ==== Sys2Proof/Tests/Slice0.lean ====
section
/-!
SUPPORT. Tests: for each statement, states and operands that meet its hypotheses, one for each of its clauses; terms that the checks of
WellFormed refuse, one for each check; worked examples of the spec and published vectors of the standards it names.
-/


namespace Sys2Proof.Tests

set_option Elab.async false

open Sys2Proof Sys2Proof.Machine

/-- The device at work, with nothing in it. -/
def up : State := State.reset.modPwr fun x => { x with boot := .running, perst := [] }

/-- Fields of a register set to values. -/
def set_ (i : Nat) (l : List (Fld × Nat)) : State := up.wrs i l

/-- Thread 9 runs at 0x1000 of HBM, at PL1, with g1, g2 and g3 given. -/
def at9 (s : State) (a b c : Word) : State :=
  s.setThr 9 ((((({ Thread.fresh with st := .run, pc := 0x1000 } : Thread).setG 1 a).setG 2 b).setG 3 c))

/-- The same at PL0. -/
def user9 (s : State) (a b c : Word) : State := (at9 s a b c).modThr 9 fun th => { th with pl1 := false }

theorem reaches_lighthouse (s : State) : s.Reaches .lighthouse := fun _ => rfl

/-- AluResults, ImmediateResults, MultiplyDivideResults, BranchAndCall, RegisterInstructionFrame. -/
theorem test_witness_ready : (at9 up 5 6 7).Ready 9 := ⟨by decide, rfl⟩

/-- DivisionCorners: b = 0, and the greatest negative dividend with b = -1. -/
theorem test_witness_DivisionCorners :
    (at9 up 5 0 0).Ready 9 ∧ ((at9 up 5 0 0).thr 9).greg 2 = 0
    ∧ ((at9 up (BitVec.intMin 64) (-1) 0).thr 9).greg 1 = BitVec.intMin 64 ∧ ((at9 up (BitVec.intMin 64) (-1) 0).thr 9).greg 2 = -1 :=
  ⟨⟨by decide, rfl⟩, by decide, by decide, by decide⟩

/-- SystemInstructions: registers at both ends of the list, and each scope that TLBI takes. -/
theorem test_witness_SystemInstructions :
    (at9 up 5 6 7).ReadyPl1 9 ∧ (0 : BitVec 12).toNat ∈ sysRegs ∧ (0x12 : BitVec 12).toNat ∈ sysRegs ∧ (2 : BitVec 2) ≠ 3 :=
  ⟨⟨⟨by decide, rfl⟩, rfl⟩, by decide, by decide, by decide⟩

/-- TrapsAndCounterRead: without and with a debugger, a word that is no instruction, a PC in reserved space, a block open to PL0. -/
theorem test_witness_TrapsAndCounterRead :
    (at9 up 70 0 0).Ready 9 ∧ (at9 up 70 0 0).flag R.LTN_DBG_CTL_BP_EN 1 = false
    ∧ (at9 (set_ 1 [(R.LTN_DBG_CTL_BP_EN, 1)]) 0 0 0).Ready 9 ∧ (at9 (set_ 1 [(R.LTN_DBG_CTL_BP_EN, 1)]) 0 0 0).flag R.LTN_DBG_CTL_BP_EN 1 = true
    ∧ legalWord 0xFFFFFFFF = false
    ∧ (∃ cls info, ((at9 up 0 0 0).reach 9 0x200000000000 .fetch false).1 = .exc cls info)
    ∧ bitsAt ((at9 up 70 0 0).thr 9 |>.greg 1).toNat 0 7 < 71
    ∧ ((user9 (set_ 70 [(R.LUM_BLK_CTL_USER, 1)]) 70 0 0).thr 9).pl1 = false
    ∧ (user9 (set_ 70 [(R.LUM_BLK_CTL_USER, 1)]) 70 0 0).flag R.LUM_BLK_CTL_USER 70 = true :=
  ⟨⟨by decide, rfl⟩, by decide, ⟨by decide, rfl⟩, by decide, by decide, ⟨_, _, rfl⟩, by decide, by decide, by decide⟩

/-- Channel 0, of thread 9, is open to its core with room for four messages. -/
def chan0 : State := set_ 0 [(R.LTN_CH_CFG_ENABLE, 1), (R.LTN_CH_CFG_READER, 9), (R.LTN_CH_CFG_SIZE_LOG2, 2)]

/-- ChannelInstructions, StagingBuffer: staging empty, full less one and full; room and no reservation; a reservation of 4. -/
theorem test_witness_ChannelInstructions :
    let s := at9 chan0 0 4 0
    let t := s.modThr 9 fun th => { th with stage := [1, 2, 3, 4, 5, 6, 7] }
    s.ReadyChan 9 ∧ t.ReadyChan 9 ∧ (s.thr 9).stage.length < 8 ∧ (t.thr 9).stage.length < 8 ∧ (t.thr 9).stage ≠ [] ∧ (t.thr 9).resv = none
      ∧ t.chanOpen 0 = true ∧ t.chanAdmits 9 0 = true ∧ 0 < t.freeSlots 0 ∧ chanOf ((s.thr 9).greg 1) = 0
      ∧ 1 ≤ ((s.thr 9).greg 2).toNat ∧ ((s.thr 9).greg 2).toNat ≤ 16 ∧ ((s.thr 9).greg 2).toNat ≤ s.freeSlots 0 :=
  ⟨⟨⟨by decide, rfl⟩, rfl⟩, ⟨⟨by decide, rfl⟩, rfl⟩, by decide⟩

/-- StagingBuffer: a staging buffer that is full. -/
theorem test_witness_StagingBuffer :
    let t := (at9 chan0 0 4 0).modThr 9 fun th => { th with stage := [1, 2, 3, 4, 5, 6, 7, 8] }
    t.ReadyChan 9 ∧ 8 ≤ (t.thr 9).stage.length ∧ (∃ n, exec (.chdiscard 9 1) t = .next n) ∧ ∃ n, exec (.chwr 9 1 2) t = .next n :=
  ⟨⟨⟨by decide, rfl⟩, rfl⟩, by decide, ⟨_, rfl⟩, ⟨_, rfl⟩⟩

/-- ChannelReceive: a void slot before a visible one, read by the reader. -/
theorem test_witness_ChannelReceive :
    let s := (at9 chan0 0 0 0).setSlots 0 [⟨0, .void, ⟨[], false, false, 9⟩⟩, ⟨1, .visible, ⟨[7], false, false, 9⟩⟩]
    s.ReadyChan 9 ∧ chanOf ((s.thr 9).greg 1) = 0 ∧ s.chanOpen 0 = true ∧ s.reader 0 = 9
      ∧ (dropVoid (s.slots 0)).2 = [⟨1, .visible, ⟨[7], false, false, 9⟩⟩] :=
  ⟨⟨⟨by decide, rfl⟩, rfl⟩, by decide⟩

/-- EventInstructions: input 5 of thread 9 bound as EV for its core; pending events inside and outside the set. -/
theorem test_witness_EventInstructions :
    let s := at9 (set_ (bindIx 9 5) [(R.LTN_EVBIND_SRC_TYPE, 3)]) 9 5 0
    let p := (at9 up 9 5 0).wr R.LTN_THR_EVPEND_PEND 9 1
    s.Ready 9 ∧ s.bindTy 9 5 = 3 ∧ s.bindAdmits 9 9 5 = true ∧ p.Ready 9 ∧ p.rd R.LTN_THR_EVPEND_PEND 9 &&& 9 ≠ 0
      ∧ s.rd R.LTN_THR_EVPEND_PEND 9 &&& 9 = 0 ∧ (s.thr 9).stepping = false :=
  ⟨⟨by decide, rfl⟩, by decide, by decide, ⟨by decide, rfl⟩, by decide⟩

/-- EventsAndLeases: an event on its way, a message on its way, a timer that is due and a lease that ends now. -/
theorem test_witness_EventsAndLeases :
    (9, 31) ∈ ({ up with ltn := { up.ltn with flights := [(9, 31)] } } : State).ltn.flights
    ∧ (∃ sl ∈ (up.setSlots 3071 [⟨0, .flight, ⟨[], false, false, 9⟩⟩]).slots 3071, sl.st = .flight)
    ∧ (let s := ({ up with time := 7 } : State).wr R.LTN_THR_TIMER_TIMER 9 7
       s.rd R.LTN_THR_TIMER_TIMER 9 ≠ 0 ∧ s.rd R.LTN_THR_TIMER_TIMER 9 ≤ s.time)
    ∧ (let s := ({ up with time := 7 } : State).modThr 9 fun th => { th with resv := some ⟨0, 7⟩ }
       ∃ r, (s.thr 9).resv = some r ∧ r.till ≤ s.time) :=
  ⟨by decide, ⟨_, List.mem_cons_self, rfl⟩, by decide, ⟨_, rfl, by decide⟩⟩

/-- Line 0 of cluster 0 is routed to thread 9 and latched. -/
def irq9 : State :=
  ((at9 up 0 0 0).modThr 9 fun th => { th with ie := true }).wrs 0
    [(R.LTN_CL_IRQMAP_EN, 1), (R.LTN_CL_IRQMAP_CORE, 1), (R.LTN_CL_IRQMAP_THREAD, 1), (R.LTN_CL_IRQ_LATCH_LATCH, 1)]

/-- InterruptsAndHalts: a pending line, a halt request, a breakpoint at the PC; clusters, cores and latches at the ends of their ranges. -/
theorem test_witness_InterruptsAndHalts :
    up.Reaches .lighthouse ∧ (11 < 12 ∧ 7 < 8 ∧ 95 < 96)
    ∧ ((irq9.thr 9).st = .run ∧ (irq9.thr 9).atBoundary = true ∧ irq9.lives 9 = true ∧ irq9.irqReady 9 = true ∧ irq9.haltReq 9 = false
      ∧ irq9.bpMatch 9 = false)
    ∧ (let s := (at9 up 0 0 0).wr R.LTN_DBG_CTL_HALT_REQ 1 2
       (s.thr 9).st = .run ∧ (s.thr 9).atBoundary = true ∧ s.haltReq 9 = true)
    ∧ (let s := ((at9 up 0 0 0).wr R.LTN_DBG_CTL_BP_EN 1 1).wrs 4 [(R.LTN_DBG_BP_EN, 1), (R.LTN_DBG_BP_ADDR, 0x400)]
       s.canIssue 9 = true ∧ s.bpMatch 9 = true ∧ (s.thr 9).stepping = false) :=
  ⟨reaches_lighthouse _, by decide, ⟨rfl, rfl, rfl, rfl, rfl, rfl⟩, by decide, by decide⟩

/-- HeartbeatAndEclipse: a core that answers, one that does not, and a census of a core and of a group. -/
theorem test_witness_HeartbeatAndEclipse :
    (let s := up.setThr 760 { Thread.fresh with st := .run }
     s.mayWrite (.thread 760) (Reg.LTN_CORE_HB.off 95) = true)
    ∧ (let s := ({ up with time := 1000000 } : State).modCore 1 fun k => { k with hbStart := some 0 }
       ∃ b, (s.core 1).hbStart = some b ∧ b + 1000 * (s.core 1).hbPeriod ≤ s.time)
    ∧ (let s := up.setThr 9 { Thread.fresh with st := .wait }
       s.coreCensus 1 = true ∧ s.flag R.LTN_CORE_ECL_ARMED 1 = true)
    ∧ (let s := ((up.setThr 9 { Thread.fresh with st := .wait }).wrMembers 0 (2 ^ 9)).wr R.LTN_GRP_CTL_EN 0 1
       s.groupCensus 0 = true ∧ s.flag R.LTN_GRP_CTL_ARMED 0 = true) :=
  ⟨by decide, ⟨_, rfl, by decide⟩, by decide, by decide⟩

/-- ThreadAndChannelControl: a group that is off, a channel off that may be enabled and one on, a thread that may be controlled, the
debug right, a halted thread whose register 31 is chosen. -/
theorem test_witness_ThreadAndChannelControl :
    up.Reaches .lighthouse ∧ up.flag R.LTN_GRP_CTL_EN 191 = false ∧ up.flag R.LTN_CH_CFG_ENABLE 0 = false
    ∧ (up.wrChanCfg 0 (2 * 2 ^ 2 + 1)).chanRefused 0 = false ∧ chan0.flag R.LTN_CH_CFG_ENABLE 0 = true
    ∧ up.mayControl .lighthouse 767 = true ∧ slotOf 767 ≠ 0 ∧ up.holds .lighthouse .debug = true
    ∧ (let s := ((at9 up 0 0 0).modThr 9 fun th => { th with st := .halt }).wr R.LTN_THR_DBGSEL_SEL 9 31
       s.rd R.LTN_THR_DBGSEL_SEL 9 = (31 : Reg5).val ∧ (s.thr 9).st = .halt) :=
  ⟨reaches_lighthouse _, by decide +kernel⟩

/-- An outbound window over the first 64 KiB of the Lens region. -/
def lens0 : State := set_ 0 [(R.LNS_ACT_OUT_EN, 1), (R.LNS_ACT_OUT_WR, 1), (R.LNS_ACT_OUT_RD, 1), (R.LNS_ACT_OUT_LOCAL_BASE, 0x10000000),
  (R.LNS_ACT_OUT_LOCAL_LAST, 0x10000000), (R.LNS_ACT_OUT_NODE, 3)]

/-- LoadResults and StoreResults: an aligned address in HBM, at the top of it, in the register space and in the Lens region. -/
theorem test_witness_LoadStoreResults :
    let h := at9 up 0x17FFFFFFF8 0 0
    let r := at9 up 0xF000000000 0 0
    let l := at9 lens0 0x100000000000 0 0
    (h.Ready 9 ∧ r.Ready 9 ∧ l.Ready 9)
    ∧ (h.reachMem 9 (effAddr (h.thr 9) 1 0) .load false = (.pa 0x17FFFFFFF8, h) ∧ h.badRange 0x17FFFFFFF8 8 = false
      ∧ region h.part 0x17FFFFFFF8 = .hbm ∧ h.reachMem 9 (effAddr (h.thr 9) 1 0) .store false = (.pa 0x17FFFFFFF8, h))
    ∧ (r.reachMem 9 (effAddr (r.thr 9) 1 0) .load false = (.pa 0xF000000000, r) ∧ region r.part 0xF000000000 = .regSpace
      ∧ r.reachMem 9 (effAddr (r.thr 9) 1 0) .store false = (.pa 0xF000000000, r))
    ∧ (l.reachMem 9 (effAddr (l.thr 9) 1 0) .load false = (.pa 0x100000000000, l) ∧ region l.part 0x100000000000 = .lens
      ∧ l.reachMem 9 (effAddr (l.thr 9) 1 0) .store false = (.pa 0x100000000000, l)) :=
  ⟨⟨⟨by decide +kernel, rfl⟩, ⟨by decide +kernel, rfl⟩, ⟨by decide +kernel, rfl⟩⟩, ⟨rfl, rfl, by decide +kernel, rfl⟩, ⟨rfl, by decide +kernel, rfl⟩, rfl, by decide +kernel, rfl⟩

/-- AtomicResults. -/
theorem test_witness_AtomicResults :
    let h := at9 up 0x17FFFFFFF8 0 0
    h.Ready 9 ∧ ((h.thr 9).greg 1).toNat % 8 = 0 ∧ h.reachMem 9 ((h.thr 9).greg 1).toNat .atomic false = (.pa 0x17FFFFFFF8, h)
      ∧ h.badRange 0x17FFFFFFF8 8 = false :=
  ⟨⟨by decide +kernel, rfl⟩, by decide +kernel, rfl, rfl⟩

/-- Thread 9 at PL0 with every grant of UPERM. -/
def granted9 (s : State) (a b c : Word) : State := (user9 s a b c).modThr 9 fun th => { th with uperm := 7 }

/-- LookupResults: the grant, a leaf at the root of VRF 0, of VRF 4095 for 128 bits, a MAC entry, a flow entry and a Prism entry. -/
theorem test_witness_LookupResults :
    (granted9 up 0 0 0).ReadyUnit 9 0
    ∧ (let s := (set_ 0 [(R.FWD_VRF_V4_EN, 1)]).setVal trieBase 4 (1 + 24 * 2 ^ 2 + 5 * 2 ^ 10)
       lpm s 0 0 32 = .hit 5 24)
    ∧ (let s := (set_ 4095 [(R.FWD_VRF_V6_EN, 1)]).setVal trieBase 4 (1 + 24 * 2 ^ 2 + 5 * 2 ^ 10)
       lpm s 4095 0 128 = .hit 5 24) :=
  ⟨⟨⟨by decide +kernel, rfl⟩, rfl⟩, by decide +kernel, by decide +kernel⟩

/-- LookupResults: a MAC entry found, and none. -/
theorem test_witness_LookupResults_mac :
    (let s := (granted9 up 0 0 0).cWrite (some 3) (((up.ctab (some 3)).cands 0).headD 0) (2 ^ 64)
     (s.cCount (s.ctab (some 3)) 0).cFind (s.ctab (some 3)) 0 = some (((up.ctab (some 3)).cands 0).headD 0))
    ∧ (up.cCount (up.ctab (some 0)) 0).cFind (up.ctab (some 0)) 0 = none ∧ (up.cCount (up.ctab (some 0)) 0).cPoison (up.ctab (some 0)) 0 = none :=
  ⟨by decide +kernel, by decide +kernel, by decide +kernel⟩

/-- LookupResults: a flow entry found. -/
theorem test_witness_LookupResults_flow :
    let u := (granted9 up 0x2000 0 0).wrs 0 [(R.FWD_FLOW_CFG_EN, 1), (R.FWD_FLOW_CFG_BASE, 1), (R.FWD_FLOW_CFG_SIZE_LOG2, 10)]
    let s := u.setVal ((u.ctab none).addr (((u.ctab none).cands 0).headD 0)) 64 (2 ^ 320)
    s.ReadyUnit 9 0 ∧ s.reach 9 0x2000 .load false = (.pa 0x2000, s) ∧ region s.part 0x2000 = .hbm ∧ s.badRange 0x2000 64 = false
      ∧ s.flag R.FWD_FLOW_CFG_EN 0 = true ∧ flowTabKey (sliceB (s.bytes 0x2000 64) 0 40) 0 = 0
      ∧ ((s.cCount (s.ctab none) 0).cFind (s.ctab none) 0).isSome = true :=
  by
  refine ⟨⟨⟨?_, ?_⟩, ?_⟩, ?_⟩ <;> decide +kernel

/-- LookupResults: a Prism entry found. -/
theorem test_witness_LookupResults_psm :
    let x : Prism := { Prism.fresh with
      cfg := [(R.PRS_PROF_EN.key 0, 1), (R.PSM_PROF_BANKS_BANKS.key 0, 1), (R.PSM_BANK_CFG_EN.key 0, 1), (R.PSM_RG_EN.key 0, 1)]
      arr := [(0, ⟨0, 0, true⟩)], shadow := [(0, ⟨0, 0, true, 0, 7, false⟩)] }
    let s := (granted9 up 0x2000 0 0).setPrism 0 x
    s.ReadyUnit 9 0 ∧ s.reach 9 0x2000 .load false = (.pa 0x2000, s) ∧ (s.prism 0).on R.PRS_PROF_EN 0 = true ∧ (s.prism 0).hold = false
      ∧ (s.psmSearch 0 (leVal (sliceB (s.bytes 0x2000 128) 0 80)) (leVal (sliceB (s.bytes 0x2000 128) 80 1))
          ((s.prism 0).val R.PSM_PROF_BANKS_BANKS 0)).1 = .hit 0 0 :=
  ⟨⟨⟨by decide +kernel, rfl⟩, rfl⟩, rfl, by decide +kernel, by decide +kernel, by decide +kernel⟩

/-- Accesses that translation leaves at their own addresses. -/
def flat (l : List MemAcc) : List MemAcc := l.map fun a => { a with pa := a.va }

/-- CryptResults: three aligned operands in HBM, a cluster, a label of slot 0 with its right; a running DRBG; a descriptor that is read. -/
theorem test_witness_CryptResults :
    let s := (granted9 up 0x2000 0x3000 0x4000).wrs 0 [(R.GLT_ROOT_STATE, 1), (R.GLT_ROOT_ALLOW_PL0, 1)]
    let l := aesAccs (s.thr 9) 1 2 3
    s.ReadyUnit 9 1 ∧ firstFault (misaligned l) = none ∧ s.reachAll 9 false l = ([], flat l, s)
      ∧ s.gather ((flat l).filter fun a => a.kind == .load) (s.thr 9).lensIn = .all [zeros 16, zeros 32]
      ∧ s.chooseCluster.1 = some 0 ∧ labelGood (zeros 32) = true ∧ algBlock (labelAlg (zeros 32)) = true
      ∧ s.chooseCluster.2.granted (labelSlot (zeros 32)) (.crypt (s.thr 9).pl1) = true
      ∧ (s.count 69 0x03 1).flag R.GLT_RNG_STAT_SVC_FAIL 0 = false
      ∧ s.reachAll 9 false (pageAccs 0x2000 64 .load) = ([], flat (pageAccs 0x2000 64 .load), s)
      ∧ s.gather (flat (pageAccs 0x2000 64 .load)) (s.thr 9).lensIn = .all [zeros 64] := by
  refine ⟨⟨⟨?_, ?_⟩, ?_⟩, ?_⟩ <;> decide +kernel

/-- RingSubmission: a ring of thread 9 with room, a transfer to the host with Bus Master Enable, two entries to acknowledge. -/
theorem test_witness_RingSubmission :
    let s := ((granted9 up 1 2 (0x100000000 + 0x2000001)).wrs 1
      [(R.LTN_DMA_RING_CFG_ENABLE, 1), (R.LTN_DMA_RING_CFG_OWNER, 9), (R.LTN_DMA_RING_CFG_SIZE_LOG2, 4), (R.LTN_DMA_RING_STAT_UNACKED, 2)]).setFcfg 0
        { FnCfg.fresh with bme := true }
    let ctl := ((s.thr 9).greg 3).toNat
    s.ReadyUnit 9 2 ∧ bitsAt ctl 0 24 ≠ 0 ∧ bitsAt ctl 27 5 = 0 ∧ s.ringRefuses 9 (ringIx 0 (bitsAt ctl 32 8)) = none ∧ bitAt ctl 25 = true
      ∧ (s.fcfg (bitsAt (s.thr 9).dmactx.toNat 0 12)).bme = true
      ∧ s.rd R.LTN_DMA_RING_CFG_OWNER (ringIx 0 1) = 9 ∧ ((s.thr 9).greg 2).toNat ≠ 0
      ∧ ((s.thr 9).greg 2).toNat ≤ s.rd R.LTN_DMA_RING_STAT_UNACKED (ringIx 0 1) := by
  refine ⟨⟨⟨?_, ?_⟩, ?_⟩, ?_⟩ <;> decide +kernel

/-- BlockInstructions, ProgressBad: a record that has just begun, one that is complete, one with DONE past LEN, one with ACC; and a step in
progress whose ranges lie in HBM. -/
theorem test_witness_BlockInstructions :
    (∀ prg : Word, prg ∈ [0, 100, 101, 0x100000000] → ((at9 up 0x2000 0x3000 100).modThr 9 fun th => { th with prg := prg }).Ready 9)
    ∧ (let o := fun (prg : Word) => (((at9 up 0x2000 0x3000 100).modThr 9 fun th => { th with prg := prg }).thr 9).blkOps 1 2 3
       (o 0).done < (o 0).n ∧ (o 0).acc = 0 ∧ (o 100).done = (o 100).n ∧ (o 101).n < (o 101).done ∧ (o 0x100000000).acc ≠ 0)
    ∧ (let s := (at9 up 0x2000 0x3000 100).modThr 9 fun th => { th with blk := some (0, 0, 1, 2, 3) }
       let a := ((s.thr 9).blkOps 1 2 3).accs 0
       9 < 768 ∧ (s.thr 9).st = .run ∧ (s.thr 9).lens = none ∧ s.lives 9 = true ∧ s.reachAll 9 true a = ([], flat a, s)
         ∧ s.gather ((flat a).filter fun a => a.kind == .load) (s.thr 9).lensIn = .all [zeros 64]) := by
  refine ⟨fun prg h => ?_, ?_, ?_⟩
  · fin_cases h <;> exact ⟨by decide +kernel, by decide +kernel⟩
  · decide +kernel
  · decide +kernel

/-- BlockInstructions: BCMP over equal bytes finds no difference. -/
theorem test_witness_BlockInstructions_bcmp :
    let o := ((at9 up 0x2000 0x3000 100).thr 9).blkOps 1 2 3
    firstDiff (o.step 2).2 (zeros 128) = none := by decide +kernel

/-- Fabric port 0 in a state, with all lanes good and Beacon in use. -/
def port0 (st : Nat) : State :=
  set_ 0 [(R.BCN_PORT_STAT_STATE, st), (R.BCN_PORT_STAT_LANES_OK, 15), (R.BCN_CFG_EN, 1), (R.BCN_PORT_CFG_EN, 1)]

/-- A packet of a type for a node, with 4 bytes. -/
def fpkt (ty dst : Nat) : FPkt := ⟨ty, 8, false, 7, dst, 0, 5, 0, 0, 4, [1, 2, 3, 4], 0, none⟩

/-- FabricLinks, port by port: training with lanes in common, training for 100 ms, trained, off with a signal. -/
theorem test_witness_FabricLinks :
    ((port0 1).rd R.BCN_PORT_STAT_STATE 0 = 1 ∧ widthOf ((port0 1).rd R.BCN_PORT_STAT_LANES_OK 0 &&& 1) ≠ 0)
    ∧ ((({ port0 1 with time := 100000000 } : State).fport 0).since + 100000000 ≤ ({ port0 1 with time := 100000000 } : State).time)
    ∧ (port0 2).portLit 0 = true ∧ (port0 3).portLit 0 = true
    ∧ ((port0 0).rd R.BCN_PORT_STAT_STATE 0 = 0 ∧ (port0 0).flag R.BCN_PORT_CFG_EN 0 = true ∧ (port0 0).flag R.BCN_CFG_EN 0 = true
      ∧ (port0 0).rd R.BCN_PORT_STAT_LANES_OK 0 ≠ 0)
    ∧ (let f : Flit := ⟨true, 0, 0, 4095, false, 3, 1023, [], 15⟩
       let s1 := (((port0 3).countPort 0 0x02 1).takeCredit 0 (f.cvc % 4) f.cred).modFport 0 fun x => { x with unack := dropAcked f.ack x.unack }
       f.good = true ∧ f.nak = false ∧ f.ftype = 0 ∧ f.seq = (s1.fport 0).expect) := by decide +kernel

/-- FabricLinks: a NAK that waits, a flit sent 20 µs ago, a packet with credit, a starved channel, a lane that fails. -/
theorem test_witness_FabricLinks_timers :
    (let s := ({ port0 3 with time := 20000 } : State).modFport 0 fun x => { x with nakAt := some 0, unack := [⟨0, 0, 0⟩] }
     (s.fport 0).nakAt = some 0 ∧ (s.fport 0).unack = [⟨0, 0, 0⟩] ∧ s.portLit 0 = true ∧ 0 + 20000 ≤ s.time)
    ∧ (let s := (port0 3).modFport 0 fun x => { x with outq := [(1, [⟨fpkt 3 7, false⟩])], credit := [(1, 1000)] }
       s.nextVc 0 = some 1 ∧ (s.fport 0).outs 1 = [⟨fpkt 3 7, false⟩]
         ∧ (s.fport 0).unack.length + ((fpkt 3 7).size + 471) / 236 ≤ 2048)
    ∧ (let s := ({ port0 3 with time := 10 ^ 12 } : State).modFport 0 fun x => { x with empty := [(2, 0)] }
       KMap.find (s.fport 0).empty 2 = some 0 ∧ s.portUp 0 = true ∧ KMap.getD (s.fport 0).told 2 false = false
         ∧ 0 + 1000000 * s.rd R.BCN_TMO_STALL_MS 0 ≤ s.time)
    ∧ (let s := (port0 3).modFport 0 fun x => { x with peerLanes := 15 }
       let left := clearMask 15 (1 <<< 3)
       bitAt (s.rd R.BCN_PORT_STAT_LANES_OK 0) 3 = true ∧ (s.wr R.BCN_PORT_STAT_LANES_OK 0 left).portLit 0 = true
         ∧ widthOf (left &&& ((s.wr R.BCN_PORT_STAT_LANES_OK 0 left).fport 0).peerLanes) ≠ 0)
    ∧ widthOf (clearMask 15 (1 <<< 3) &&& (((port0 3).modFport 0 fun x => { x with peerLanes := 8 }).fport 0).peerLanes) = 0 := by
  decide +kernel

/-- Port 0 is UP with a packet at the head of a virtual channel; the device is node 3 and has a window over its first 64 KiB. -/
def arrived (vc : Nat) (f : FPkt) : State :=
  ((port0 3).wrs 0 [(R.BCN_NODE_NODE, 3), (R.BCN_NODE_NODE_V, 1), (R.LNS_ACT_IN_EN, 1), (R.LNS_ACT_IN_RD, 1), (R.LNS_ACT_IN_WR, 1)]).modFport 0
    fun x => { x with inq := [(vc, [⟨f, 0⟩])] }

/-- FabricPackets: transit with a route; a READ and a WRITE that a window admits and ones that none does; answers with and without their
request; a FRAME; a request that is overdue. -/
theorem test_witness_FabricPackets :
    (let s := (arrived 0 (fpkt 0 7)).wrs 7 [(R.BCN_ROUTE_V, 1), (R.BCN_ROUTE_PORT_0, 0), (R.BCN_ROUTE_VU_0, 1)]
     (s.takeIn 0 0).map (·.1.pkt) = some (fpkt 0 7) ∧ (fpkt 0 7).dst ≠ s.node
       ∧ ((s.takeIn 0 0).map fun x => x.2.route 7 0 8 false) = some (.port 0))
    ∧ (∀ ty ∈ [0, 1], let s := arrived 0 (fpkt ty 3)
       (s.takeIn 0 0).map (·.1.pkt) = some (fpkt ty 3) ∧ (fpkt ty 3).dst = s.node ∧ s.nodeV = true
       ∧ ((s.takeIn 0 0).map fun x => (x.2.countOld.count 36 0x02 1).inWindow x.1 4) = some (some 0)
       ∧ ((s.takeIn 0 0).map fun x => ((x.2.wr R.LNS_ACT_IN_EN 0 0).countOld.count 36 0x02 1).inWindow x.1 4) = some none)
    ∧ ((arrived 0 (fpkt 0 0)).wr R.BCN_NODE_NODE_V 0 0).nodeV = false
    ∧ (∀ ty ∈ [2, 3, 4], let s := arrived 1 (fpkt ty 3)
       (s.takeIn 0 1).map (·.1.pkt) = some (fpkt ty 3) ∧ (fpkt ty 3).dst = s.node
       ∧ KMap.find s.fab.reqs 5 = none
       ∧ (KMap.find ({ s with fab := { s.fab with reqs := [(5, ⟨false, 7, 0, 4, .store, 0⟩)] } } : State).fab.reqs 5).isSome = true)
    ∧ (let s := arrived 2 (fpkt 5 3)
       (s.takeIn 0 2).map (·.1.pkt) = some (fpkt 5 3) ∧ (fpkt 5 3).poison = 0
       ∧ ((s.takeIn 0 2).bind fun x => x.2.newFrame { Pkt.fresh with data := [1, 2, 3, 4] }).isSome = true)
    ∧ (let s : State := { up with time := 10 ^ 12, fab := { up.fab with reqs := [(65535, ⟨false, 7, 0, 4, .store, 0⟩)] } }
       KMap.find s.fab.reqs 65535 = some ⟨false, 7, 0, 4, .store, 0⟩ ∧ 0 + 1000000 * s.rd R.BCN_TMO_REQ_TMO_MS 0 ≤ s.time) := by
  decide +kernel

/-- FabricCoordinator: a port whose HELLO has changed, one that hears its peer; a candidate of 2 ms, a heartbeat that is due, a coordinator
silent for 5 ms; a refusal of 100 ms and a grant past its hold. -/
theorem test_witness_FabricCoordinator :
    ((port0 2).portLit 0 = true ∧ ((port0 2).settleCand.fport 0).mine ≠ some ((port0 2).settleCand.helloOf 0))
    ∧ (∀ f ∈ [fpkt 6 3], ((arrived 3 f).portUp 0 = true ∧ ((arrived 3 f).takeIn 0 3).isSome = true))
    ∧ (let s : State := { port0 2 with time := 2000000, fab := { up.fab with cand := some up.ownKey } }
       let c := s.settleCand
       c.flag R.BCN_CFG_EN 0 = true ∧ c.flag R.BCN_NODE_COORD_V 0 = false ∧ c.fab.cand = some c.ownKey ∧ c.fab.candAt + 2000000 ≤ c.time)
    ∧ (let s := set_ 0 [(R.BCN_NODE_IS_COORD, 1), (R.BCN_NODE_COORD_V, 1)]
       s.flag R.BCN_NODE_IS_COORD 0 = true ∧ s.fab.sentAt = 0)
    ∧ (let s : State := { set_ 0 [(R.BCN_NODE_COORD_V, 1)] with time := 5000000 }
       s.flag R.BCN_NODE_COORD_V 0 = true ∧ s.flag R.BCN_NODE_IS_COORD 0 = false ∧ s.fab.beatAt + 5000000 ≤ s.time)
    ∧ (let s := (arrived 3 (fpkt 6 3)).wr R.BCN_NODE_IS_COORD 0 1
       ((s.takeIn 0 3).map fun x => x.2.flag R.BCN_NODE_IS_COORD 0) = some true)
    ∧ (let s : State := { up with time := 10 ^ 14, fab := { up.fab with refused := some 0, grants := [(4095, ⟨1, some 0, none⟩)] } }
       s.fab.refused = some 0 ∧ 0 + 100000000 ≤ s.time ∧ KMap.find s.fab.grants 4095 = some ⟨1, some 0, none⟩
       ∧ 0 + 1000000000 * s.rd R.BCN_TMO_ID_HOLD_S 0 ≤ s.time) := by decide +kernel

/-- RoutesAndWindows: distances that changed, a peer that sends its own, a commit that is not done, with nothing left and at 10 µs, and a
drain with nothing left. -/
theorem test_witness_RoutesAndWindows :
    up.Reaches .lighthouse ∧ (({ up with fab := { up.fab with dirty := true } } : State).fab.dirty = true)
    ∧ ((arrived 3 (fpkt 6 3)).portUp 0 = true ∧ ((arrived 3 (fpkt 6 3)).takeIn 0 3).isSome = true)
    ∧ (let s : State := { set_ 0 [(R.LNS_STATUS_COMMIT_DONE, 0), (R.LNS_WR_DRAIN_DONE, 0)] with time := 10000 }
       s.flag R.LNS_STATUS_COMMIT_DONE 0 = false ∧ s.oldPending = 0 ∧ s.fab.commitAt + 10000 ≤ s.time
       ∧ s.flag R.LNS_WR_DRAIN_DONE 0 = false ∧ s.fab.drain = []) :=
  ⟨reaches_lighthouse _, by decide +kernel⟩

/-- LumenCommands: a period that has passed, a snapshot that is due and one taken, a block and a counter at the ends of their ranges. -/
theorem test_witness_LumenCommands :
    up.Reaches .lighthouse
    ∧ (let s := ({ up with time := 5000 } : State).wr R.LUM_SNAP_CTL_PERIOD_US 0 5
       1000 * s.rd R.LUM_SNAP_CTL_PERIOD_US 0 ≠ 0 ∧ s.lum.base + 1000 * s.rd R.LUM_SNAP_CTL_PERIOD_US 0 ≤ s.time
         ∧ s.flag R.LUM_SNAP_CTL_BUSY 0 = false)
    ∧ (let s : State := { up with time := 200, lum := { up.lum with snapAt := some 200, taken := some 200 } }
       s.lum.snapAt = some 200 ∧ 200 ≤ s.time ∧ s.lum.taken = some 200)
    ∧ 70 < 71 ∧ 567 < 568 :=
  ⟨reaches_lighthouse _, by decide +kernel⟩

/-- A frame of 64 bytes in pipeline 0 with an action record. -/
def frame (act : Nat) : Pkt := { Pkt.fresh with data := zeros 64, act := act }

/-- ForwardingCommands: a frame that no table forwards, one whose MAC is not learned, one that is sent and one of a VRF without root; a
drain, a flow batch at its end, a chain of the flow table and one of a learn engine. -/
theorem test_witness_ForwardingCommands :
    up.Reaches .lighthouse
    ∧ (let s := up.setPrism 0 { Prism.fresh with acted := [frame 0] }
       (s.prism 0).acted = [frame 0] ∧ (forward (s.setPrism 0 { s.prism 0 with acted := [] }) (frame 0)).2.1 = .nhBad)
    ∧ ({ up with fwd := { up.fwd with drain := true } } : State).fwd.drain = true
    ∧ (let s : State := { up with fwd := { up.fwd with flowOp := some (2, 2) } }
       s.fwd.flowOp = some (2, 2) ∧ 2 ≤ 2 ∧ s.fwd.flowChain = [])
    ∧ (let s : State := { up with fwd := { up.fwd with flowChain := [⟨0, [], none⟩] } }
       s.fwd.flowChain = [⟨0, [], none⟩])
    ∧ (let s := up.setLearn 3 { LearnEng.fresh with chain := [⟨0, [], none⟩] }
       (s.learnEng 3).chain = [⟨0, [], none⟩] ∧ (s.learnEng 3).cmdBusy = false) :=
  ⟨reaches_lighthouse _, by decide +kernel⟩

/-- Learn engine 3 with a MAC command at the front of its queue; key 0 is in the table when `known`. -/
def macCmd (op d : Nat) (known : Bool) : State :=
  let s := up.setLearn 3 { LearnEng.fresh with queue := [.cmd op d] }
  if known then s.cWrite (some 3) (((up.ctab (some 3)).cands 0).headD 0) (2 ^ 64) else s

/-- LearnCommands: a record, a sweep and a tick that are due, each command, with DEST kinds 0, 1, 3 and 4 of INSERT. -/
theorem test_witness_LearnCommands :
    up.Reaches .lighthouse
    ∧ (let s := up.setLearn 3 { LearnEng.fresh with queue := [.learn 0 1 2] }
       (s.learnEng 3).chain = [] ∧ (s.learnEng 3).queue = [.learn 0 1 2])
    ∧ (let s : State := { up with time := 10 ^ 14 }
       (s.learnEng 3).sweepAt + 1000000000 * s.rd R.FWD_MAC_CFG_SWEEP_S 3 ≤ s.time ∧ (s.learnEng 3).chain = []
         ∧ (s.learnEng 3).reconAt + 1000000 * s.rd R.FWD_MAC_CFG_RECON_MS 3 ≤ s.time)
    ∧ (∀ o ∈ [0, 1, 2, 3, 4, 5], ((macCmd o 0 false).learnEng 3).queue = [.cmd o 0] ∧ ((macCmd o 0 false).learnEng 3).chain = [])
    ∧ bitsAt 0 76 4 = 0 ∧ 3 < bitsAt (4 * 2 ^ 76) 76 4
    ∧ (∀ d ∈ [2 ^ 76, 3 * 2 ^ 76], let s := macCmd 1 d true
       let s1 := s.setLearn 3 { s.learnEng 3 with queue := [] }
       bitsAt d 76 4 ≠ 0 ∧ bitsAt d 76 4 ≤ 3
         ∧ ((s1.cCount (s1.ctab (some 3)) (d % 2 ^ 64)).cFind (s1.ctab (some 3)) (d % 2 ^ 64)).isSome = true) :=
  ⟨reaches_lighthouse _, by decide +kernel⟩

/-- PrismCommands: an arrival with room, frames whose profile is off and on, a search that misses and one that hits, a suspect row, a scrub
below the last row, a batch before and in its hold, a placement. -/
theorem test_witness_PrismCommands :
    let hit : Prism := { Prism.fresh with
      cfg := [(R.PRS_PROF_EN.key 0, 1), (R.PSM_PROF_BANKS_BANKS.key 0, 1), (R.PSM_BANK_CFG_EN.key 0, 1), (R.PSM_RG_EN.key 0, 1)]
      arr := [(0, ⟨0, 0, true⟩)], shadow := [(0, ⟨0, 0, true, 0, 7, false⟩)] }
    up.Reaches .lighthouse
    ∧ ((up.enterPrism (frame 0)).arrivals 0 = [frame 0] ∧ (frame 0).reparse = false ∧ (up.prism 0).hold = false
      ∧ (up.prism 0).inq.length < 4096)
    ∧ (let x : Prism := { Prism.fresh with inq := [frame 0] }
       x.inq = [frame 0] ∧ (frame 0).forced = none ∧ x.hold = false ∧ x.on R.PRS_PROF_EN (x.val R.PRS_SRC_PROF_PROFILE 0) = false)
    ∧ (let x : Prism := { hit with inq := [frame 0] }
       x.on R.PRS_PROF_EN (x.val R.PRS_SRC_PROF_PROFILE 0) = true ∧ (parseWalk x 0 0 (frame 0).data).trunc = false
         ∧ (parseWalk x 0 0 (frame 0).data).lenc = false)
    ∧ (let s := up.setPrism 0 { Prism.fresh with parsed := [] }
       psmFind s 0 (s.prism 0) 0 0 1 [] = none ∧ (s.psmSearch 0 0 0 1).1 = .miss)
    ∧ (let s := up.setPrism 0 { hit with parsed := [] }
       psmFind s 0 (s.prism 0) 0 0 1 [] = some (0, 0) ∧ (s.psmSearch 0 0 0 1).1 = .hit 0 0)
    ∧ (let x : Prism := { Prism.fresh with suspect := [(2048 * 31 + 2047, true)] }
       KMap.getD x.suspect (2048 * 31 + 2047) false = true)
    ∧ (up.prism 0).scrub ≠ 2047
    ∧ (let x : Prism := { Prism.fresh with batch := some 0 }
       x.batch.isSome = true ∧ x.hold = false ∧ (up.flag R.PSM_UPD_CTL_HOLD_GATE 0 = true → x.inq = []))
    ∧ (let x : Prism := { Prism.fresh with batch := some 0, hold := true }
       x.batch = some 0 ∧ x.hold = true ∧ x.parsed = []
         ∧ (psmBatch (fun b => b) (fun _ => 1) (fun _ => 2048) (up.batchOps 0 0) 0 0 x) = .inr x)
    ∧ (let x : Prism := { Prism.fresh with placing := true }
       x.placing = true ∧ psmWidth x 0 (up.rd R.PSM_PLACE_BANK 0) * bandPlace x 0 (up.rd R.PSM_PLACE_BANK 0) (up.rd R.PSM_PLACE_BAND 0) < 2048) := by
  refine ⟨reaches_lighthouse _, ?_⟩
  decide +kernel

/-- A tree of one path under output 16 with a frame in its leaf. -/
def tree : State :=
  let s := (List.range 4).foldl (fun s n =>
    s.setRing (ringKey (entKey n (if n = 0 then 16 else 0)) 0) ⟨[entKey (n + 1) 0], 0⟩) up
  let s1 := (List.range 5).foldl (fun s n => s.setEnt (entKey n (if n = 0 then 16 else 0)) { Ent.fresh with w0 := 1 + 2 ^ 5 }) s
  s1.setEnt (entKey 4 0) { Ent.fresh with w0 := 1 + 2 ^ 5, frames := [frame 0], fill := 1 }

/-- TrafficCommands: a frame for port 15 that is not metered, one that a meter drops, a choice, slots that are due, a record read in
progress, a packet command that may start and one at its end, a held frame past HOLD_MS. -/
theorem test_witness_TrafficCommands :
    up.Reaches .lighthouse
    ∧ (let f := { frame 0 with dest := some (.eth 15) }
       let s : State := { up with tm := { up.tm with inq := [(0, [f])] } }
       KMap.getD s.tm.inq 0 [] = [f] ∧ f.dest = some (.eth 15)
         ∧ (({ s with tm := { s.tm with inq := KMap.setD s.tm.inq 0 [] [] } } : State).metered f false).1.isSome = true)
    ∧ (let f := frame (2 ^ 50)
       let s : State := up.setMeter 0 { Meter.fresh with w0 := 1 }
       (s.metered f false).1 = none)
    ∧ (outputCode 16 = true ∧ tree.ready 4 (entKey 0 16) = true ∧ (tree.descend (tree.rd R.TM_OMAP_LEN_ADJ 16) 4 (entKey 0 16)).isSome = true
      ∧ (tree.descend (tree.rd R.TM_OMAP_LEN_ADJ 16) 4 (entKey 0 16)).map (·.leaf) = some (entKey 4 0)
      ∧ (tree.ent (entKey 4 0)).frames = [frame 0] ∧ tree.outputTakes 16 64 = true)
    ∧ (let s : State := { up with time := 24, tm := { up.tm with wheel := [⟨0, .fine 3⟩], fineAt := 2 } }
       s.releaseSlots.head? = some 3 ∧ 8 * Nat.max 3 s.tm.fineAt ≤ s.time)
    ∧ (let s : State := { up with time := 65536, tm := { up.tm with wheel := [⟨0, .coarse 1⟩] } }
       leastOf (s.tm.wheel.map OnWheel.coarseSlot) = some 1 ∧ 65536 * 1 ≤ s.time)
    ∧ (set_ 0 [(R.TM_IND_CTL_BUSY, 1)]).flag R.TM_IND_CTL_BUSY 0 = true
    ∧ up.flag R.TM_PKT_CMD_BUSY 0 = false ∧ bitsAt 0 32 3 = 0
    ∧ ({ up with tm := { up.tm with cmd := some (.done 0) } } : State).tm.cmd = some (.done 0)
    ∧ (let s : State := { up with time := 10 ^ 14, pb := { up.pb with held := [(262143, ⟨frame 0, 0⟩)] } }
       KMap.find s.pb.held 262143 = some ⟨frame 0, 0⟩ ∧ 0 + 1000000 * s.rd R.TM_PKT_CFG_HOLD_MS 0 ≤ s.time) :=
  ⟨reaches_lighthouse _, by decide +kernel⟩

/-- Ethernet port 15 in use, its link up or not. -/
def eth15 (link : Nat) : State := (set_ 15 [(R.ETH_PORT_CFG_EN, 1), (R.ETH_PORT_STAT_LINK_UP, link)])

/-- EthernetCommands. -/
theorem test_witness_EthernetCommands :
    up.Reaches .lighthouse ∧ (eth15 0).portOn 15 = true ∧ (eth15 0).flag R.ETH_PORT_STAT_LINK_UP 15 = false
    ∧ (eth15 1).portOn 15 = true ∧ (eth15 1).flag R.ETH_PORT_STAT_LINK_UP 15 = true ∧ (false && true && !false && !false) = false
    ∧ (eth15 1).rd R.ETH_PORT_CFG_LOOPBACK 15 = 0
    ∧ KMap.getD ({ eth15 1 with ethTx := [(15, [frame 0])] } : State).ethTx 15 [] = [frame 0] :=
  ⟨reaches_lighthouse _, by decide +kernel⟩

/-- RegisterAccesses: a 64-bit register written whole, by its lower half and by its upper half with the lower one held; a width that no
register has; a BAR that is shut; the ends of BAR2. -/
theorem test_witness_RegisterAccesses :
    let off := Reg.LTN_THR_TIMER.off 0
    (∃ d i b, regFind off = some (d, i, b) ∧ up.mayWrite .lighthouse off = true ∧ widthOk d b 8 = true ∧ widthOk d b 4 = true ∧ off % 8 = 0
      ∧ d.w ≠ 32 ∧ b % 8 = 0)
    ∧ (∃ d i b, regFind (off + 4) = some (d, i, b) ∧ b % 8 ≠ 0 ∧ widthOk d b 4 = true
      ∧ KMap.find (up.setHalf (halfKey d i (b / 8)) (some (.lighthouse, 5))).halves (halfKey d i (b / 8)) = some (.lighthouse, 5))
    ∧ (let s := set_ 1 [(R.LHS_RIGHTS_RIGHTS, 0xFFFF)]
       widthBad off 2 = true ∧ s.mayRead (.fn 0) off = true ∧ s.holds (.fn 0) .manager = true)
    ∧ up.barShut 0 = true
    ∧ (0 < 0x100000000 ∧ 0xFFFFFFF8 + 8 ≤ 0x400000000 ∧ 0x100000000 ≤ 0x3FFFFFFF8 ∧ 0x3FFFFFFF8 + 8 ≤ 0x400000000) :=
  ⟨⟨_, _, _, rfl, by decide +kernel⟩, ⟨_, _, _, rfl, by decide +kernel⟩, by decide +kernel, by decide +kernel, by decide +kernel⟩

/-- Function 0 with every enable set. -/
def host0 : State :=
  up.setFcfg 0 { FnCfg.fresh with bme := true, mse := true, vfMse := true, atsEn := true, priEn := true, priAlloc := 8, vfEn := true, ptmEn := true, aspmL1 := true, numVfs := 4 }

/-- A descriptor of an opcode, for 64 bytes at 0x1000 of the host. -/
def desc (opc : Nat) : Bytes := leBytes 1 opc ++ zeros 7 ++ leBytes 8 0x1000 ++ leBytes 4 64 ++ zeros 12

/-- SQ 5 of function 0 is enabled with one descriptor that has passed its checks. -/
def sq5 (opc kind : Nat) : State :=
  ((host0.wrs 5 [(R.QM_SQ_EN, 1), (R.QM_SQ_KIND, kind)]).setSqRun 5 { SqRun.fresh with
    fetched := [⟨0, desc opc, none, true, [(0x1000, 64)]⟩], credit := 1 })

/-- Job 1 of SQ 5, on cluster 0 when `on`, all of whose input has come. -/
def job1 (opc : Nat) (on : Bool) : Job :=
  { Job.fresh (.sq 5 0) with opc := opc, desc := desc opc, fn := some 0, cluster := if on then some 0 else none }

/-- The device with job 1 and, when `keyed`, its key. -/
def jobs1 (j : Job) (keyed : Bool) : State :=
  let s := host0.setJob 1 j
  if keyed then s.modGlint fun g => { g with keys := [(1, ⟨0, zeros 64, none⟩)] } else s

/-- An inline frame of context 5 that has been processed on cluster 31. -/
def inl31 (r : Option Nat) : State := up.modGlint fun g => { g with inl := [⟨31, 5, frame 0, 0, [], r, true⟩] }

/-- Job 1 has read all its input and waits for its verdict, with a tag of `n` bytes. -/
def judged (n : Nat) : Job := { job1 8 true with input := leBytes 1 1 ++ zeros 55 ++ leBytes 1 n ++ zeros 7, passed := false }

/-- GlintCommands: slot 15 with and without the right, the three context commands, a freeze and a release that end, a job that is handed on
and starts, one stalled too long, one whose tag is judged and one that is complete, inline frames, and the randomness source. -/
theorem test_witness_GlintCommands :
    ((up.wr R.LHS_RIGHTS_RIGHTS 9 0).holds .jtag .keys = false ∧ up.holds .lighthouse .keys = true ∧ 15 < 16)
    ∧ (∀ c ∈ [0, 1, 2], bitAt (2 ^ 18 + c * 2 ^ 16) 18 = true ∧ bitsAt (2 ^ 18 + c * 2 ^ 16) 16 2 = c)
    ∧ (let s := up.modGlint fun g => { g with cmd := some (1, 7) }
       s.glint.cmd = some (1, 7) ∧ KMap.getD s.glint.frozen 7 false = false ∧ s.ctxBusy 7 = false)
    ∧ (let s := up.modGlint fun g => { g with cmd := some (2, 7), frozen := [(7, true)] }
       s.glint.cmd = some (2, 7) ∧ KMap.getD s.glint.frozen 7 false = true)
    ∧ (((sq5 8 2).handOn 5 (fun o => o == 8)).isSome = true ∧ ((sq5 8 2).handOn 5 (fun o => o == 8)).bind (fun x => x.2.chooseCluster.1) = some 0)
    ∧ (let j := { job1 8 true with table := false }
       let s := jobs1 j false
       KMap.find s.jobs 1 = some j ∧ j.cluster = some 0 ∧ j.opc = 8 ∧ j.status = none ∧ KMap.find s.glint.keys 1 = none ∧ s.clHeld 0 = false
         ∧ j.table = false ∧ Nat.min 64 j.src.len ≤ s.avail 1 j ∧ s.glint.stopped.contains 0 = false)
    ∧ (let j := { job1 8 true with stall := some 0 }
       let s : State := { jobs1 j false with time := 10 ^ 14 }
       KMap.find s.jobs 1 = some j ∧ j.stall = some 0 ∧ j.status = none ∧ 0 + 1000000 * s.rd R.GLT_CFG_CHAN_TMO_MS 0 ≤ s.time)
    ∧ (∀ n ∈ [0, 16], let j := judged n
       (KMap.find (jobs1 j true).jobs 1 == some j && (jobs1 j true).verdictDue 1 j && !(jobHdr j.input).first
         && ((KMap.find (jobs1 j true).glint.keys 1).map fun k => ((jobHdr j.input).mac k.alg k.z (sliceB j.input 64 (jobHdr j.input).aadLen)
           ((j.input.drop (64 + (jobHdr j.input).aadLen)).take (jobHdr j.input).payLen) == (jobHdr j.input).tag.take (jobHdr j.input).tagLen))
             == some (decide (n = 0))) = true)
    ∧ (let j := { job1 8 false with passed := true }
       let s := (jobs1 j true).pump 1
       (KMap.find s.jobs 1).map (fun k => k.opc == 8 && !k.torn && k.hold.isNone && k.cluster.isNone && k.scrub.isNone && k.status.isNone &&
           k.origin == .sq 5 0) = some true
         ∧ (KMap.find s.jobs 1).map (fun k => s.glintEnded 1 k) = some true)
    ∧ (let s : State := { up with toGlint := [(3, [frame (5 * 2 ^ 72)])] }
       KMap.getD s.toGlint 3 [] = [frame (5 * 2 ^ 72)] ∧ s.clHeld (s.home (bitsAt (frame (5 * 2 ^ 72)).act 72 16)) = false
         ∧ ((List.range 32).all fun k => s.glint.stopped.contains k || s.flag R.GLT_CL_STAT_OUT k) = false ∧ s.flag R.GLT_CTX_BASE_EN 0 = false)
    ∧ (∀ r ∈ ([some 0x23, none] : List (Option Nat)),
       ((inl31 r).glint.inl.find? (fun e => e.cl == 31 && !(inl31 r).clHeld 31)).map (fun e => (e.reason, e.good, e.seq)) = some (r, true, 0)
         ∧ ((inl31 r).ctxRec 5).isSome = true ∧ (((inl31 r).ctxRec 5).bind fun b => inlineAccept b 0).isSome = true)
    ∧ ((set_ 0 [(R.GLT_RNG_STAT_ES_OK, 1)]).flag R.GLT_RNG_STAT_ES_OK 0 = true ∧ up.flag R.GLT_RNG_STAT_ES_FAIL 0 = false) := by
  decide +kernel

/-- QueueCommands: registers at their ends, doorbells of an open BAR, a queue to fetch for, descriptors that fail, that do not pass and that
pass, one of each kind, a frame whole in its job, a frame with a buffer that is too small and one that is not, a spill and a timer. -/
theorem test_witness_QueueCommands :
    host0.Reaches .lighthouse ∧ host0.filtered .lighthouse = none
    ∧ (let s := host0.wrs 5 [(R.QM_SQ_EN, 1), (R.QM_CQ_EN, 1)]
       s.barShut 0 = false ∧ s.localSq 0 0 = some 5 ∧ s.localCq 0 0 = some 5)
    ∧ (let s := (sq5 0 0).wrs 5 [(R.QM_SQ_PI, 2)]
       let t := (s.setSqRun 5 { SqRun.fresh with credit := 1 }).wr R.QM_CFG_EN 0 1
       t.nextSq ((s.pfLink 0).1) = some 5)
    ∧ (∀ b ∈ [some 3, none], ∀ d ∈ [desc 1, desc 0x55],
       let x : FDesc := ⟨0, d, b, false, []⟩
       let s := host0.setSqRun 5 { SqRun.fresh with fetched := [x] }
       (s.sqRun 5).fetched.find? (fun x => !x.passed) = some x ∧ descGood d (s.rd R.QM_SQ_KIND 5) = decide (d = desc 1))
    ∧ leVal (sliceB (desc 1) 0 1) = 1 ∧ leVal (sliceB (desc 1) 4 1) = 0
    ∧ (((sq5 0 2).handOn 5 (fun o => o == 0)).isSome = true ∧ (sq5 0 2).ordered 5 = false)
    ∧ ((sq5 1 0).handOn 5 (fun o => o == 1)).isSome = true ∧ ((sq5 2 1).handOn 5 (fun o => o == 2)).isSome = true
    ∧ (let s := (sq5 0x1F 3).wr R.LTN_CH_CFG_ENABLE 0 1
       (s.handOn 5 isFwOpc).isSome = true ∧ s.flag R.LTN_CH_CFG_ENABLE (s.rd R.QM_SQ_CHAN 5) = true ∧ s.chanRoom (s.rd R.QM_SQ_CHAN 5) = true)
    ∧ (let j := job1 1 false
       let s := jobs1 j false
       KMap.find s.jobs 1 = some j ∧ j.origin = .sq 5 0 ∧ j.opc = 1 ∧ j.torn = false ∧ s.oldestSq 5 = some 1 ∧ j.status = none
         ∧ j.src.len ≤ s.avail 1 j ∧ s.flag R.QM_SQ_PAIR_V 5 = false ∧ (s.newFrame { Pkt.fresh with data := j.input.take j.src.len }).isSome = true)
    ∧ (∀ n ∈ [64, 65], let f := { frame 0 with data := zeros n }
       let x : FDesc := ⟨0, desc 2, none, true, [(0x1000, 64)]⟩
       let s : State := { host0.setSqRun 5 { SqRun.fresh with posted := [x] } with tm := { host0.tm with rxq := [(5, [f])] } }
       KMap.getD s.tm.rxq 5 [] = [f] ∧ (s.sqRun 5).posted = [x] ∧ (decide (descLen x.bytes < f.data.length) = decide (n = 65)))
    ∧ (let s : State := { host0.wrs 5 [(R.QM_CQ_EN, 1), (R.QM_CQ_IRQ_EN, 1), (R.QM_CQ_COAL_US, 3)] with
         time := 3000, qm := { host0.qm with cq := [(5, { CqRun.fresh with first := some 0 })] } }
       s.flag R.QM_CQ_EN 5 = true ∧ (s.cqRun 5).first = some 0 ∧ s.flag R.QM_CQ_IRQ_EN 5 = true ∧ s.rd R.QM_CQ_COAL_US 5 ≠ 0
         ∧ 0 + 1000 * s.rd R.QM_CQ_COAL_US 5 ≤ s.time) :=
  ⟨reaches_lighthouse _, by decide +kernel⟩

/-- FunctionControl: a notice with its channel off and on, a harvest that its job ends and one without a job after 2 µs. -/
theorem test_witness_FunctionControl :
    up.Reaches .lighthouse ∧ up.filtered .lighthouse = none
    ∧ (let s : State := { up with hif := { up.hif with notices := [(1, 2)] } }
       s.hif.notices = [(1, 2)] ∧ s.flag R.LTN_CH_CFG_ENABLE (s.rd R.HIF_NOTICE_CFG_CHAN 0) = false)
    ∧ (let s := up.wr R.LTN_CH_CFG_ENABLE 0 1
       s.flag R.LTN_CH_CFG_ENABLE (s.rd R.HIF_NOTICE_CFG_CHAN 0) = true ∧ s.chanRoom (s.rd R.HIF_NOTICE_CFG_CHAN 0) = true)
    ∧ (let j : Job := { Job.fresh (.flush 63) with got := 1 }
       let s : State := { (set_ 63 [(R.HIF_MIR_CTL_BUSY, 1)]).setJob 1 j with hif := { up.hif with mir := [(63, { MirRun.fresh with job := some 1 })] } }
       (s.mir 63).job = some 1 ∧ KMap.find s.jobs 1 = some j ∧ s.flag R.HIF_MIR_CTL_BUSY 63 = true ∧ j.status = none ∧ 1 ≤ s.avail 1 j)
    ∧ (let s : State := { set_ 63 [(R.HIF_MIR_CTL_BUSY, 1)] with time := 2000 }
       (s.mir 63).job = none ∧ s.flag R.HIF_MIR_CTL_BUSY 63 = true ∧ (s.mir 63).began + 2000 ≤ s.time) :=
  ⟨reaches_lighthouse _, by decide +kernel⟩

/-- A page of function 0. -/
def page0 : HPage := ⟨0, none, false, 1⟩

/-- A translation of it that waits. -/
def treq0 (w : TWait) : State :=
  { host0 with time := 10 ^ 15, hif := { host0.hif with treqs := [⟨page0, true, false, w, false, false, 0, 0⟩] } }

/-- TranslationCommands. -/
theorem test_witness_TranslationCommands :
    host0.Reaches .lighthouse
    ∧ (11 < 12 ∧ 255 < 256)
    ∧ (let j : Job := { Job.fresh (.ring 11 255 7) with opc := 0xFE }
       let s := up.setJob 1 j
       s.ringJob 11 255 7 = some (1, j) ∧ j.opc = 0xFE ∧ j.order = false ∧ j.started = false ∧ j.fn = none)
    ∧ (let j : Job := { Job.fresh (.ring 11 255 7) with opc := 0xFE, started := true }
       let s := up.setJob 1 j
       s.ringJob 11 255 7 = some (1, j) ∧ j.opc = 0xFE ∧ j.started = true ∧ s.moved 1 j = true)
    ∧ (let s : State := { up with time := 7, ltn := { up.ltn with holds := [(63, (0, 7, true))] } }
       (KMap.find s.ltn.holds (64 * 0 + 63)).map (fun x => x.2.1) = some 7 ∧ 63 < 64 ∧ 7 ≤ s.time)
    ∧ (region up.part 0x400FFFFFF8 = .mac ∧ (set_ 0 [(R.MEM_SCRUB_CTL_SRAM_EN, 1)]).flag R.MEM_SCRUB_CTL_SRAM_EN 0 = true)
    ∧ (let s : State := { up with ltn := { up.ltn with tlbi := some (2, 0, 3, 4) } }
       s.ltn.tlbi = some (2, 0, 3, 4))
    ∧ (∀ w ∈ [TWait.transReq, .pageSlot, .pageReq], ((treq0 w).treq page0).map (fun q => (q.wait, q.stale)) = some (w, false)
       ∧ (treq0 w).mayIssue 0 = true)
    ∧ (((treq0 .pageSlot).hif.treqs.filter fun r => r.wait == .pageReq && (treq0 .pageSlot).priOf r.pg.fn == (treq0 .pageSlot).priOf 0).length
        < ((treq0 .pageSlot).fcfg ((treq0 .pageSlot).priOf 0)).priAlloc ∧ 0 + 1000000 * (treq0 .pageReq).rd R.MEM_PRI_TMO_TMO_MS 0 ≤ (treq0 .pageReq).time)
    ∧ (host0.fnExists 0 = true ∧ host0.cfgOpen 0 = true ∧ 0 < 8)
    ∧ (set_ 0 [(R.HIF_FN_STAT_FLR_BUSY, 1)]).flag R.HIF_FN_STAT_FLR_BUSY 0 = true
    ∧ (let v : Inval := ⟨0, 31, []⟩
       let s : State := { up with hif := { up.hif with invals := [v] } }
       s.hif.invals.find? (fun v => v.fn == 0 && v.tag == 31) = some v ∧ (v.reads.all fun t => (KMap.find s.hif.reads t).isNone) = true)
    ∧ (∀ d ∈ [Dead.no, .bme], let r : HRead := ⟨1, 0, 4, 0, none, 0, d⟩
       let s : State := { up with time := 10 ^ 12, hif := { up.hif with reads := [(5, r)] } }
       KMap.find s.hif.reads 5 = some r ∧ r.dead = d ∧ r.since + s.cplTimeout r.fn ≤ s.time) :=
  ⟨reaches_lighthouse _, by decide +kernel⟩

/-- HostInterfaceCommands: function 0 exists and is open; ports, links and settings as each clause asks. -/
theorem test_witness_HostInterfaceCommands :
    (host0.fnExists 0 = true ∧ host0.cfgOpen 0 = true)
    ∧ (let s := host0.modPwr fun x => { x with perst := [1] }
       s.fnExists 0 = true ∧ s.cfgOpen 0 = true ∧ s.pwr.perst.contains 1 = true
         ∧ ((s.applyPort 1).modPwr fun x => { x with perst := x.perst.filter fun k => k != 1 }).hif.wake = false)
    ∧ (let s1 := (portLinks 1).foldl (fun s l => (s.resetLink l 4).linkDrop l) host0
       let s2 := ((s1.applyPort 1).applyVfs ((List.range 8).filter fun p => (host0.pfLink p).1 / 2 == 1)).modPwr fun x =>
         { x with perst := addOnce 1 x.perst }
       host0.pwr.perst.contains 1 = false ∧ s2.allPerst = false)
    ∧ (host0.linkExists 0 = true ∧ (host0.wr R.HIF_LINK_STAT_UP 0 1).flag R.HIF_LINK_STAT_UP 0 = true)
    ∧ (host0.mayTrain 0 = true ∧ host0.flag R.HIF_LINK_STAT_UP 0 = false
      ∧ pcieWidth (Nat.min 16 (if (host0.portCfg 0).1 = 1 then 8 else 16)) ≠ 0)
    ∧ (let s := host0.wrs 0 [(R.HIF_PF_VF_ACT_FIRST, 8), (R.HIF_PF_VF_ACT_COUNT, 4)]
       s.fnExists 8 = true ∧ s.cfgOpen 8 = true ∧ 8 ≤ 8)
    ∧ (host0.fcfg 0).vfEn = true ∧ (host0.fcfg 0).bme = true ∧ (up.fcfg 0).bme = false ∧ up.fnExists 0 = true ∧ up.cfgOpen 0 = true
    ∧ host0.barShut 0 = false ∧ host0.rd R.HIF_FN_STAT_DSTATE 0 ≠ 3 ∧ (host0.wr R.HIF_FN_STAT_DSTATE 0 3).rd R.HIF_FN_STAT_DSTATE 0 ≠ 0
    ∧ (let s : State := { (host0.wr R.HIF_FN_STAT_DSTATE 0 3).setFcfg 0 { FnCfg.fresh with pmeEn := true } with tm := { up.tm with rxq := [(5, [frame 0])] } }
       s.fnExists 0 = true ∧ s.cfgOpen 0 = true ∧ s.rd R.HIF_FN_STAT_DSTATE 0 = 3 ∧ (s.fcfg 0).pmeEn = true ∧ (s.fcfg 0).pmeStat = false
         ∧ s.wakeDue 0 = true)
    ∧ (let s := host0.wr R.HIF_LINK_STAT_UP 0 1
       s.flag R.HIF_LINK_STAT_UP 0 = true ∧ s.fn0 0 = some 0 ∧ (s.fcfg 0).aspmL1 = true ∧ s.hif.reads = [] ∧ s.hif.treqs = [] ∧ s.linkPm 0 ≠ .l1)
    ∧ (let s := host0.wrs 0 [(R.HIF_LINK_STAT_UP, 1), (R.HIF_LINK_STAT_FLIT, 1)]
       s.flag R.HIF_LINK_STAT_FLIT 0 = true ∧ s.linkPm 0 = .l0 ∧ (s.setPm 0 .l0pHalf).linkPm 0 = .l0pHalf)
    ∧ (host0.fn0 (host0.rd R.PWR_TB_CFG_PTM_LINK 0) = some 0 ∧ (host0.fcfg 0).ptmEn = true) := by
  decide +kernel

/-- FaultAndTestCommands: listed units and kinds at their ends, a log with a record and its POP, a unit out of use, one dead for 1 ms, a
request held while a test sheds, one that is taken, a scheduled test, a test that passed, a lane, an island and plan at the end of the range,
writers with the right and without. -/
theorem test_witness_FaultAndTestCommands :
    up.Reaches .jtag
    ∧ unitListed 0 = true ∧ unitListed 0xF800 = true
    ∧ (∀ k ∈ [1, 0x10, 0x14], (1 ≤ k ∧ k ≤ 0x10) ∨ k = 0x14)
    ∧ (let r : FaultRec := ⟨0, 1, 1, 0, 0, 0, 65536⟩
       (up.modLhs fun x => { x with flog := [r] }).lhs.flog = [r] ∧ up.holds .jtag .safety = true ∧ bitAt 65536 16 = true
         ∧ bitsAt 65536 0 16 = r.time % 65536)
    ∧ (up.wr R.LHS_RIGHTS_RIGHTS 9 0).holds .jtag .safety = false
    ∧ (unitListed 8 = true ∧ unitTy 8 ≤ 2 ∧ up.rd R.LHS_UNIT_STAT_ROLE 8 ≠ 0)
    ∧ (let d : DeadUnit := ⟨0, 1, 0, false, false, false⟩
       let s : State := { up.modLhs fun x => { x with dead := [(0, d)] } with time := 1000000 }
       KMap.find s.lhs.dead 0 = some d ∧ d.since + 1000000 ≤ s.time ∧ s.lhs.swq.contains 0 = false)
    ∧ (set_ 0 [(R.LHS_TEST_STAT_STATE, 2)]).rd R.LHS_TEST_STAT_STATE 0 = 2
    ∧ (let s1 := up.wrReg .jtag Reg.LHS_TEST_REQ 0 0
       let v := s1.rd R.LHS_TEST_REQ_UNIT 0
       up.rd R.LHS_TEST_STAT_STATE 0 = 0 ∧ unitListed v = true ∧ unitTy v ≤ 2 ∧ s1.rd R.LHS_UNIT_STAT_ROLE v = 0 ∧ s1.lhs.test = none
         ∧ s1.testHeld = false)
    ∧ (let s : State := { set_ 0 [(R.LHS_TEST_SCHED_EN, 1), (R.LHS_TEST_SCHED_PERIOD_H, 1)] with time := hourNs }
       s.flag R.LHS_TEST_SCHED_EN 0 = true ∧ KMap.getD s.lhs.lastTest 0 0 + s.rd R.LHS_TEST_SCHED_PERIOD_H 0 * hourNs ≤ s.time
         ∧ s.rd R.LHS_UNIT_STAT_ROLE 0 = 0 ∧ s.rd R.LHS_TEST_STAT_STATE 0 = 0 ∧ s.lhs.test = none ∧ s.testHeld = false
         ∧ s.lhs.swq.contains 0 = false ∧ s.spareFree 0 = true)
    ∧ (let q : TestReq := ⟨0, 1, 0⟩
       let s : State := { up.modLhs fun x => { x with req := some q } with time := 1000000000 }
       s.lhs.req = some q ∧ s.lhs.test = none ∧ s.testHeld = false ∧ q.asked + q.deadline * 1000000000 ≤ s.time ∧ s.spareFree q.unit = true)
    ∧ (let r : TestRun := ⟨2048, .request, false, true⟩
       let s := (up.wr R.LHS_TEST_STAT_STATE 0 1).modLhs fun x => { x with test := some r }
       s.lhs.test = some r ∧ r.running = true ∧ unitTy r.unit = 1 ∧ s.rd R.LHS_TEST_STAT_STATE 0 ≠ 2 ∧ r.why = .request)
    ∧ (∀ t ∈ [5, 7], unitListed (2048 * t) = true ∧ unitTy (2048 * t) = t)
    ∧ (let s : State := { up.modPwr fun x => { x with mainPg := true } with time := hourNs }
       39 < 40 ∧ KMap.getD s.lhs.fadeAt 39 0 + hourNs ≤ s.time ∧ s.fadeReady = true)
    ∧ up.holds .jtag .maker = true :=
  ⟨fun _ => rfl, by decide +kernel⟩

/-- PowerCommands: blocks at each step, an island and a rail at the ends, the states of power and reset that each clause asks, temperatures
above and below. -/
theorem test_witness_PowerCommands :
    up.Reaches .jtag
    ∧ (let s := set_ 322 [(R.PWR_BLK_STAT_POWER, 0), (R.PWR_BLK_CFG_FLOOR, 1)]
       322 < blockCount ∧ s.rd R.PWR_BLK_STAT_POWER 322 = 0 ∧ s.rd R.PWR_BLK_CFG_FLOOR 322 ≤ 1 ∧ s.blockIdle 322 = true)
    ∧ (let s : State := { set_ 0 [(R.PWR_BLK_STAT_POWER, 1), (R.PWR_BLK_CFG_FLOOR, 0), (R.PWR_BLK_CFG_DARK_MS, 1)] with time := 1000000 }
       s.darkAfter 0 = some 1000000 ∧ s.rd R.PWR_BLK_STAT_POWER 0 = 1 ∧ s.rd R.PWR_BLK_CFG_FLOOR 0 = 0
         ∧ KMap.getD s.pwr.dimAt 0 0 + 1000000 ≤ s.time ∧ s.mayDark 0 = true)
    ∧ (up.islandsOn = true ∧ 310 < 311)
    ∧ (let s1 := up.wrReg .jtag Reg.PWR_BLK_CFG 0 0
       s1.rd R.PWR_BLK_CFG_FLOOR 0 + s1.rd R.PWR_BLK_STAT_POWER 0 ≤ 2)
    ∧ (∀ p ∈ [0, 5], bitAt ((set_ 0 [(R.PWR_PLL_STAT_RUNNING, 63)]).rd R.PWR_PLL_STAT_RUNNING 0) p = true)
    ∧ State.reset.pwr.boot = .held
    ∧ (let s := up.modPwr fun x => { x with boot := .rom }
       s.pwr.mainPg = false ∧ s.pwr.boot = .rom)
    ∧ (up.modPwr fun x => { x with mainPg := true }).pwr.mainPg = true
    ∧ up.holds .jtag .manager = true ∧ up.pwr.boot = .running
    ∧ ((List.replicate 40 (105 : Int)).length = 40 ∧ (hottest (List.replicate 40 105)).1 ≤ 105)
    ∧ (let s := set_ 0 [(R.PWR_ENV_STAT_TJ_C, 100)]
       (s.rd R.PWR_THERM_CFG_THROTTLE_C 0 : Int) ≤ s.tj ∧ s.rd R.PWR_ENV_STAT_STEPS 0 = 0)
    ∧ (let s : State := { set_ 0 [(R.PWR_ENV_STAT_TJ_C, 100), (R.PWR_ENV_STAT_STEPS, 11)] with time := 20000000 }
       (s.rd R.PWR_THERM_CFG_THROTTLE_C 0 : Int) ≤ s.tj ∧ s.rd R.PWR_ENV_STAT_STEPS 0 = 11 ∧ s.pwr.stepAt + 20000000 ≤ s.time)
    ∧ (let s : State := { set_ 0 [(R.PWR_ENV_STAT_TJ_C, 94), (R.PWR_ENV_STAT_STEPS, 12)] with time := 200000000 }
       s.tj < (s.rd R.PWR_THERM_CFG_THROTTLE_C 0 : Int) - 5 ∧ 0 < s.rd R.PWR_ENV_STAT_STEPS 0 ∧ s.pwr.stepAt + 200000000 ≤ s.time)
    ∧ up.flag R.PWR_ENV_STAT_TRIP 0 = false
    ∧ (let s : State := { up.modLhs fun x => { x with vrWait := some (0, 0) } with time := 100000 }
       s.lhs.vrWait = some (0, 0) ∧ 0 + 100000 ≤ s.time) :=
  ⟨fun _ => rfl, by decide +kernel⟩

/-- Lighthouse runs an LHS_FW. -/
def lhs0 : State := up.modSec fun x => { x with lhs := some (0, []) }

/-- SecurityCommands: the key commands, one that ends, and the states of an activation. -/
theorem test_witness_SecurityCommands :
    lhs0.Reaches .jtag
    ∧ lhs0.lhsRuns = true ∧ lhs0.flag R.LHS_KEY_CMD_BUSY 0 = false
    ∧ (∀ op ∈ [0, 4], let k := lhs0.wrReg .jtag Reg.LHS_KEY_CMD 0 (putBits 0 4 3 op)
       k.holds .jtag .keys = true ∧ k.lhsRuns = true ∧ k.canLog false = true)
    ∧ (lhs0.modSec fun x => { x with keyJob := some 2 }).sec.keyJob = some 2
    ∧ (∀ op ∈ [0, 1, 2, 3], let s := lhs0.wrFwCtl .jtag (putBits 0 0 2 op)
       s.holds .jtag .manager = true ∧ s.lhsRuns = true ∧ [0, 2].contains (s.rd R.LHS_FW_STAT_STATE 0) = true)
    ∧ accessorOf (.thread 9) = some 0
    ∧ (let s := (lhs0.wr R.LHS_FW_STAT_STATE 0 3).modSec fun x => { x with fwHeld := true }
       s.rd R.LHS_FW_STAT_STATE 0 = 3 ∧ s.lhs.swq = [] ∧ s.sec.deadline ≤ s.time ∧ s.sec.fwHeld = true)
    ∧ (lhs0.rd R.LHS_FW_STAT_STATE 0 ≠ 4 ∧ lhs0.rd R.LHS_FW_STAT_STATE 0 ≠ 6)
    ∧ (let s := (lhs0.wr R.LHS_FW_STAT_STATE 0 4).modSec fun x => { x with act := some (0, []) }
       s.rd R.LHS_FW_STAT_STATE 0 = 4 ∧ s.ringsEmpty = true ∧ s.rd R.NVM_FWACT_STATE 0 ≠ 1 ∧ s.sec.act = some (0, []))
    ∧ (let s := lhs0.wrs 0 [(R.LHS_FW_STAT_STATE, 5), (R.LHS_LOG_STAT_BROKEN, 1)]
       s.rd R.LHS_FW_STAT_STATE 0 = 5 ∧ s.sec.deadline ≤ s.time ∧ ((s.wrFwact 1).modSec fun x => { x with act := x.prev }).canLog true = false) :=
  ⟨fun _ => rfl, by decide +kernel⟩

/-- SpdmCommands: the SMBus and a DOE and a VDM mailbox of a link that is up, a first part of two sizes, and a response of which a last
part is left. -/
theorem test_witness_SpdmCommands :
    lhs0.spdmUp 4 = true ∧ (lhs0.wr R.HIF_LINK_STAT_UP 0 1).spdmUp 0 = true ∧ (lhs0.wr R.HIF_LINK_STAT_UP 0 1).spdmUp 8 = true
    ∧ (∀ c ∈ [0x84, 0xE1, 0xE3, 0x81, 0x82, 0x83, 0xE0, 0xFE], obNat [0x12, BitVec.ofNat 8 c] 1 1 = c)
    ∧ (let m := [0x12, 0x85, 0, 1, 0, 0, 0, 0, 4, 0, 0, 0, 8, 0, 0, 0, 1, 2, 3, 4].map (BitVec.ofNat 8)
       let s := lhs0.setConn 4 { lhs0.conn 4 with stage := 2 }
       obNat m 1 1 = 0x85 ∧ 2 ≤ (s.conn 4).stage ∧ obNat m 4 2 = 0 ∧ bitAt (obNat m 2 1) 0 = false ∧ obNat m 12 4 ≤ spdmMax
         ∧ ((m.drop 16).take (obNat m 8 4)).length ≤ obNat m 12 4)
    ∧ (let m := [0x12, 0x86, 0, 1, 1, 0].map (BitVec.ofNat 8)
       let s := lhs0.setConn 4 { lhs0.conn 4 with out := zeros 8, outAt := 4, outHnd := 1, outNext := 1 }
       let c := s.conn 4
       obNat m 1 1 = 0x86 ∧ c.out ≠ [] ∧ obNat m 3 1 = c.outHnd ∧ obNat m 4 2 = c.outNext ∧ c.outNext ≠ 0
         ∧ c.out.length ≤ c.outAt + Nat.min (spdmPart - 12) (c.out.length - c.outAt)) := by
  decide +kernel

/-- The admin queue and one I/O queue of function 0. -/
def nsq (id : Nat) : NSq := ⟨0, id, 0x1000, 16, 0, 1, id, 0, false⟩
def ncq (id : Nat) : NCq := ⟨0, id, 0x1000, 16, 0, 0, true, true, 0, 0, [], false⟩

/-- Controller 0 is active; its CC, CSTS and so on are as `c` says. -/
def ctl0 (c : NCtl) : State :=
  (host0.wrs 0 [(R.NVM_CTRL_CFG_ACTIVE, 1), (R.NVM_CFG_EN, 1), (R.NVM_CTRL_CFG_WEIGHT, 4)]).modNvm fun x => { x with ctls := [(0, c)] }

/-- A command of opcode `opc` with two of its words, in a queue of function 0. -/
def cmd0 (q opc d10 d11 : Nat) (ph : NPhase) : NSlot :=
  ⟨7, 0, some q, q, 7, leBytes 4 opc ++ zeros 36 ++ leBytes 4 d10 ++ leBytes 4 d11 ++ zeros 16, none, ph, false, NWalk.none_, none, none,
    [], [], (0, 0, 0), 0, false, none, none⟩

/-- A device with both queues that holds the command as its slot 7. -/
def slot7 (x : NSlot) : State :=
  State.reset.modNvm fun n => { n with
    sqs := [(0, nsq 0), (1, nsq 1)], cqs := [(0, ncq 0), (1, ncq 1)], slots := [(7, x)] }

/-- NvmeControllers: a controller with each state that a clause asks. -/
theorem test_witness_NvmeControllers :
    up.Reaches .jtag
    ∧ (∀ c ∈ [{ NCtl.fresh with rdy := true }, { NCtl.fresh with cc := 1 }, { NCtl.fresh with shst := 1, shut := .abrupt },
        { NCtl.fresh with shst := 1, shut := .normal, flushed := true }, { NCtl.fresh with want := some 2 }],
       (ctl0 c).barShut 0 = false ∧ (ctl0 c).flag R.NVM_CTRL_CFG_ACTIVE 0 = true ∧ (ctl0 c).nctl 0 = c ∧ (ctl0 c).slotsOf 0 = []
         ∧ (ctl0 c).nvm.sqs = [] ∧ (ctl0 c).quietCtl 0 = true ∧ ((ctl0 c).slotsOf 0).all (fun e => e.2.posted) = true)
    ∧ ({ NCtl.fresh with rdy := true } : NCtl).en = false ∧ ({ NCtl.fresh with cc := 1 } : NCtl).en = true
    ∧ ({ NCtl.fresh with cc := 1 } : NCtl).shut = .none_ ∧ NCtl.fresh.flushed = false
    ∧ (bitAt 1 0 = true ∧ bitAt 0 0 = false ∧ bitsAt (2 ^ 14) 14 2 = 1 ∧ bitsAt (2 ^ 15) 14 2 = 2)
    ∧ (let s := (ctl0 { NCtl.fresh with cc := 1, rdy := true }).modNvm fun n => { n with sqs := [(0, nsq 0)], cqs := [(0, ncq 0)] }
       s.nvmeRoom = true ∧ s.ctlReady s.nvm.visit = true ∧ s.nvm.taken < s.rd R.NVM_CTRL_CFG_WEIGHT s.nvm.visit)
    ∧ (let s : State := { set_ 0 [(R.NVM_FWACT_STATE, 1)] with time := 200000000 }
       s.rd R.NVM_FWACT_STATE 0 = 1 ∧ s.nvm.paused + 200000000 ≤ s.time) :=
  ⟨fun _ => rfl, by decide +kernel⟩

/-- NvmeCommandFlow: commands that fail and pass their checks, one of each kind, hand-offs to a service that is open and that is closed, an
answer. -/
theorem test_witness_NvmeCommandFlow :
    (let x := cmd0 0 0x55 0 0 .fetched
     (slot7 x).nslot 7 = some x ∧ x.phase = .fetched ∧ (slot7 x).checkFails 7 x false = some (0, 0x01))
    ∧ (let x := cmd0 0 9 1 0 .fetched
       let s := slot7 x
       let s1 := (s.setNslot 7 { x with phase := if s.plainService x then .ready else .checked, sep := false, walk := s.walkStart x false
                                        buf := s.shrunk x false }).walkRun 7 []
       s.nslot 7 = some x ∧ s.checkFails 7 x false = none ∧ (s1.nslot 7).map (fun z => z.walk.bad.isNone) = some true)
    ∧ (∀ o ∈ [0, 1, 2, 8, 9], ((slot7 (cmd0 1 o 0 0 .checked)).checkedAs 7 fun x => (slot7 (cmd0 1 o 0 0 .checked)).isIo x o)
        = some (cmd0 1 o 0 0 .checked))
    ∧ (∀ o ∈ [2, 6, 0x0C], ((slot7 (cmd0 0 o 0 0 .checked)).checkedAs 7 fun x => (slot7 (cmd0 0 o 0 0 .checked)).isAdm x o)
        = some (cmd0 0 o 0 0 .checked))
    ∧ (∀ b ∈ [0, 1], let x := cmd0 0 6 0 0 .ready
       let s := (slot7 x).wrs 0 [(R.NVM_SVC_CHAN_EN, b), (R.LTN_CH_CFG_ENABLE, 1)]
       s.nvm.msgs = [] ∧ s.nslot 7 = some x ∧ x.phase = .ready ∧ s.heldByWrite 7 x = false ∧ s.svcOpen (s.svcOf x) = decide (b = 1)
         ∧ s.chanRoom (s.rd R.NVM_SVC_CHAN_CHAN (s.svcOf x)) = true)
    ∧ (let x := cmd0 0 0x0C 0 0 .answered
       let s := slot7 x
       s.nslot 7 = some x ∧ x.phase = .answered ∧ s.isAdm x 8 = false ∧ (s.moveOut 7 [] none).1 = true
         ∧ ((s.moveOut 7 [] none).2.nslot 7).isSome = true)
    ∧ (∀ ph ∈ [NPhase.checked, .answered], let x := cmd0 1 2 0 0 ph
       (slot7 x).nslot 7 = some x ∧ (slot7 x).isIo x 2 = true ∧ x.phase = ph) := by
  decide +kernel

/-- NvmeAdminCommands but for the creation of queues: identifiers in and out of use, and each feature with values at the ends. -/
theorem test_witness_NvmeAdminCommands :
    (let x := cmd0 0 0 1 0 .checked
     let s := (slot7 x).modNvm fun n => { n with slots := [(7, x)] }
     s.checkedAs 7 (fun z => s.isAdm z 0) = some x ∧ x.dw 10 % 65536 ≠ 0 ∧ (s.findSq x.fn (x.dw 10 % 65536)).isSome = true
       ∧ (s.nvm.slots.any fun y => y.2.sq == some 1 && !y.2.posted) = false)
    ∧ (let x := cmd0 0 4 1 0 .checked
       let s := (slot7 x).modNvm fun n => { n with sqs := [(0, nsq 0)] }
       s.checkedAs 7 (fun z => s.isAdm z 4) = some x ∧ x.dw 10 % 65536 ≠ 0 ∧ s.findCq x.fn (x.dw 10 % 65536) = some (1, ncq 1)
         ∧ (s.nvm.sqs.any fun y => y.2.cq == 1) = false ∧ (ncq 1).spilled = [] ∧ s.jobs = [])
    ∧ (let x := cmd0 0 8 5 0 .checked
       let s := slot7 x
       s.checkedAs 7 (fun z => s.isAdm z 8) = some x ∧ ((s.slotsOf x.fn).filter fun e => s.isAdm e.2 8 && !e.2.posted).length ≤ 8
         ∧ s.findSq x.fn (x.dw 10 % 65536) = none)
    ∧ (∀ o ∈ [9, 0x0A], ∀ f ∈ [1, 2, 7, 8, 9], let x := cmd0 0 o f 0 .checked
       (slot7 x).checkedAs 7 (fun z => (slot7 x).isFeat z o f) = some x)
    ∧ (let x := cmd0 0 9 2 2 .checked
       bitsAt (x.dw 11) 0 5 ≤ 2 ∧ ((slot7 x).nctl x.fn).waits.contains 7 = false)
    ∧ (let x := cmd0 0 9 7 0xFFFEFFFE .checked
       let s := (slot7 x).modNvm fun n => { n with cqs := [(0, ncq 0)] }
       bitsAt (x.dw 11) 0 16 ≠ 0xFFFF ∧ bitsAt (x.dw 11) 16 16 ≠ 0xFFFF ∧ (s.nvm.cqs.any fun e => e.2.fn == x.fn && e.2.id != 0) = false)
    ∧ (let x := cmd0 0 9 9 0 .checked
       bitsAt (x.dw 11) 0 16 ≤ (slot7 x).rd R.HIF_FN_ACT_VEC_M1 x.fn) := by
  decide +kernel

/-- Of two numbers in a row one is not 0. -/
theorem pickFree_some (d m : Nat) (used : Nat → Bool) (hm : 2 ≤ m) (h : ∀ t, used t = true → t = 0) : ∃ q, pickFree d m 1 used = some q := by
  rcases hq : pickFree d m 1 used with _ | q
  · simp only [pickFree, List.find?_eq_none, List.mem_map, List.mem_range] at hq
    have a := h _ (by simpa using hq ((d + 0) % m) ⟨0, by omega, rfl⟩)
    have b := h _ (by simpa using hq ((d + 1) % m) ⟨1, by omega, rfl⟩)
    have c : (d + 1) % m = (d % m + 1) % m := (Nat.mod_add_mod d m 1).symm
    have a : d % m = 0 := a
    rw [a, Nat.zero_add, Nat.mod_eq_of_lt (by omega : 1 < m)] at c
    omega
  · exact ⟨q, rfl⟩

/-- NvmeAdminCommands, the creation of queues: the greatest identifier and size, and a pool with a free queue. -/
theorem test_witness_NvmeAdminCommands_create :
    (let x := cmd0 0 1 (1 + 4095 * 2 ^ 16) (1 + 2 ^ 16) .checked
     let s := (slot7 x).modNvm fun n => { n with sqs := [(0, nsq 0)] }
     let c := s.nctl x.fn
     (s.checkedAs 7 (fun z => s.isAdm z 1) = some x ∧ 0 < x.dw 10 % 65536 ∧ x.dw 10 % 65536 ≤ c.nsq ∧ 2 ≤ bitsAt (x.dw 10) 16 16 + 1
       ∧ bitsAt (x.dw 10) 16 16 + 1 ≤ 4096 ∧ bitAt (x.dw 11) 0 = true ∧ leVal (sliceB x.cmd 24 8) % c.page = 0
       ∧ s.findSq x.fn (x.dw 10 % 65536) = none ∧ bitsAt (x.dw 11) 16 16 ≠ 0 ∧ s.findCq x.fn (bitsAt (x.dw 11) 16 16) = some (1, ncq 1))
     ∧ ∃ q s1, s.poolSq = (some q, s1))
    ∧ (let x := cmd0 0 5 (1 + 1 * 2 ^ 16) 1 .checked
       let s := (slot7 x).modNvm fun n => { n with cqs := [(0, ncq 0)] }
       let c := s.nctl x.fn
       (s.checkedAs 7 (fun z => s.isAdm z 5) = some x ∧ 0 < x.dw 10 % 65536 ∧ x.dw 10 % 65536 ≤ c.ncq ∧ 2 ≤ bitsAt (x.dw 10) 16 16 + 1
         ∧ bitsAt (x.dw 10) 16 16 + 1 ≤ 4096 ∧ bitAt (x.dw 11) 0 = true ∧ leVal (sliceB x.cmd 24 8) % c.page = 0
         ∧ s.findCq x.fn (x.dw 10 % 65536) = none ∧ bitsAt (x.dw 11) 16 16 ≤ s.rd R.HIF_FN_ACT_VEC_M1 x.fn)
       ∧ ∃ q s1, s.poolCq = (some q, s1)) := by
  refine ⟨⟨by decide +kernel, ?_⟩, by decide +kernel, ?_⟩
  · obtain ⟨q, h⟩ := pickFree_some (Config.free 0 % 65536) 65536 (fun t => (KMap.find [(0, nsq 0)] t).isSome) (by omega)
      (by intro t ht; by_contra e; simp [KMap.find, Ne.symm e] at ht)
    exact ⟨q, _, Prod.ext h rfl⟩
  · obtain ⟨q, h⟩ := pickFree_some (Config.free 0 % 16384) 16384 (fun t => (KMap.find [(0, ncq 0)] t).isSome) (by omega)
      (by intro t ht; by_contra e; simp [KMap.find, Ne.symm e] at ht)
    exact ⟨q, _, Prod.ext h rfl⟩

/-- A signed object of KIND 1 (LHS_FW) or 2 (DEV_FW): 16 zero bytes, signed by the maker but for its signature. -/
def image0 (k : Nat) : Bytes :=
  leBytes 4 0x4D494C47 ++ leBytes 1 1 ++ leBytes 1 k ++ zeros 2 ++ zeros 32 ++ leBytes 4 16 ++ zeros 4 ++ zeros 64
    ++ shake256 (zeros 16) 64 ++ zeros 80 ++ zeros 16

/-- The same with its signature. -/
def image (k : Nat) : Bytes := image0 k ++ zeros 29792

theorem image0_length (k : Nat) : (image0 k).length = 272 := by
  have h : (shake256 (zeros 16) 64).length = 64 := by decide +kernel
  have z : ∀ n, (zeros n).length = n := fun n => List.length_replicate
  simp only [image0, List.length_append, h, z, show ∀ v, (leBytes 1 v).length = 1 from fun _ => rfl,
    show ∀ v, (leBytes 4 v).length = 4 from fun _ => rfl]

/-- A field of an image. -/
theorem image_slice (k a n : Nat) (h : a + n ≤ 272) : sliceB (image k) a n = sliceB (image0 k) a n := by
  have := image0_length k
  rw [sliceB, sliceB, image, List.drop_append_of_le_length (by omega),
    List.take_append_of_le_length (by rw [List.length_drop]; omega)]

theorem image_nat (k a n : Nat) (h : a + n ≤ 272) : obNat (image k) a n = obNat (image0 k) a n := by
  rw [obNat, obNat, image_slice k a n h]

/-- A device in whose OTP the maker's key of `image` is fused, at a stage of the boot, with an image in bank A of each kind. -/
def fused (b : Boot) : State :=
  let v := leVal (shake256 (zeros 64) 32)
  (State.reset.modPwr fun x => { x with boot := b }).modSec fun x => { x with
    otp := [(8, ⟨v, true, otpCheck 2 0 v⟩)], flash := [(0, image 1), (2, image 2)] }

/-- The signature of `image` passes. -/
def SigPasses (k : Nat) : Prop :=
  Config.slhValid (zeros 64) ((image k).take 256) (ascii "ELVUM" ++ leBytes 1 k) (zeros 29792) = true

/-- What the header of an image says. -/
theorem image_fields (k : Nat) (hk : k ∈ [1, 2]) :
    obKind (image k) = k ∧ obLen (image k) = 16 ∧ obSigner (image k) = 0 ∧ obNat (image k) 16 8 = 0 ∧ obSvn (image k) = 0
      ∧ obLoad (image k) = 0 ∧ obEntry (image k) = 0 ∧ obHash (image k) = shake256 (zeros 16) 64 ∧ obBody (image k) = zeros 16
      ∧ sliceB (image k) 48 64 = zeros 64 := by
  have l : obLen (image k) = 16 := by
    rw [obLen, image_nat _ _ _ (by omega)]; exact (by decide +kernel : ∀ k ∈ [1, 2], obNat (image0 k) 40 4 = 16) k hk
  have body : obBody (image k) = sliceB (image k) 256 16 := by rw [obBody, l]; rfl
  rw [body, l, obKind, obSigner, obSvn, obLoad, obEntry, obHash]
  simp only [image_nat _ _ _ (by omega : 5 + 1 ≤ 272), image_nat _ _ _ (by omega : 6 + 1 ≤ 272), image_nat _ _ _ (by omega : 8 + 4 ≤ 272),
    image_nat _ _ _ (by omega : 16 + 8 ≤ 272), image_nat _ _ _ (by omega : 24 + 8 ≤ 272), image_nat _ _ _ (by omega : 32 + 8 ≤ 272),
    image_slice _ _ _ (by omega : 112 + 64 ≤ 272), image_slice _ _ _ (by omega : 48 + 64 ≤ 272),
    image_slice _ _ _ (by omega : 256 + 16 ≤ 272)]
  exact (by decide +kernel : ∀ k ∈ [1, 2], obNat (image0 k) 5 1 = k ∧ True ∧ obNat (image0 k) 6 1 = 0 ∧ obNat (image0 k) 16 8 = 0
    ∧ obNat (image0 k) 8 4 = 0 ∧ obNat (image0 k) 24 8 = 0 ∧ obNat (image0 k) 32 8 = 0
    ∧ sliceB (image0 k) 112 64 = shake256 (zeros 16) 64 ∧ sliceB (image0 k) 256 16 = zeros 16 ∧ sliceB (image0 k) 48 64 = zeros 64) k hk

/-- Its form is good, and its signature is found where the header says. -/
theorem image_form (k : Nat) (hk : k ∈ [1, 2]) :
    obForm (image k) = true ∧ sliceB (image k) (obSigAt (image k)) 29792 = zeros 29792 := by
  obtain ⟨f1, f2, -, -, -, f6, f7, -, -, -⟩ := image_fields k hk
  have l := image0_length k
  constructor
  · rw [obForm, f1, obSize, obSigAt, f2]
    simp only [image_nat _ _ _ (by omega : 0 + 4 ≤ 272), image_nat _ _ _ (by omega : 4 + 1 ≤ 272), image_nat _ _ _ (by omega : 7 + 1 ≤ 272),
      image_nat _ _ _ (by omega : 44 + 4 ≤ 272), image_nat _ _ _ (by omega : 208 + 48 ≤ 272), image_nat _ _ _ (by omega : 12 + 4 ≤ 272),
      image_nat _ _ _ (by omega : 24 + 8 ≤ 272), image_nat _ _ _ (by omega : 32 + 8 ≤ 272), image_nat _ _ _ (by omega : 176 + 32 ≤ 272),
      image_nat _ _ _ (by omega : 256 + 16 + (256 + (16 + 15) / 16 * 16 - 256 - 16) ≤ 272),
      show (image k).length = 272 + 29792 by simp only [image, zeros, List.length_append, List.length_replicate, l]]
    revert k; decide +kernel
  · rw [obSigAt, f2, sliceB, image, List.drop_append_of_le_length (by omega), List.drop_of_length_le (by omega), List.nil_append]
    have z : (zeros 29792).length = 29792 := List.length_replicate
    have t : (zeros 29792).take 29792 = zeros 29792 := List.take_of_length_le (Nat.le_of_eq z)
    simp only [t, z, Nat.sub_self, show zeros 0 = [] from rfl, List.append_nil]

/-- A device accepts the maker's key, and the place of the image. -/
theorem fused_accepts (b : Boot) (hb : b ∈ [Boot.powered, .ready, .recovery]) (k : Nat) (hk : k ∈ [1, 2]) :
    (fused b).maySign 0 k = true ∧ (fused b).otpField 2 = some (leVal (shake256 (zeros 64) 32)) ∧ (fused b).serial = 0
      ∧ (fused b).counter (floorOf k) = 0 ∧ inHbm (fused b).part 0 16 = true :=
  (by decide +kernel : ∀ b ∈ [Boot.powered, .ready, .recovery], ∀ k ∈ [1, 2],
    (fused b).maySign 0 k = true ∧ (fused b).otpField 2 = some (leVal (shake256 (zeros 64) 32)) ∧ (fused b).serial = 0
      ∧ (fused b).counter (floorOf k) = 0 ∧ inHbm (fused b).part 0 16 = true) b hb k hk

/-- An image whose signature passes is good. -/
theorem image_good (b : Boot) (hb : b ∈ [Boot.powered, .ready, .recovery]) (k : Nat) (hk : k ∈ [1, 2]) (h : SigPasses k) :
    (fused b).verifyAs k (image k) = .ok := by
  obtain ⟨f1, f2, f3, f4, f5, f6, f7, f8, f9, f10⟩ := image_fields k hk
  obtain ⟨g1, g2⟩ := image_form k hk
  obtain ⟨c1, c2, c3, c4, c5⟩ := fused_accepts b hb k hk
  have h5 : k ≠ 5 := by rintro rfl; simp at hk
  have hv : (fused b).verify (image k) = .ok := by
    unfold SigPasses at h
    unfold State.verify
    simp only [f1, f3, f4, f5, f8, f9, f10, g1, g2, c1, c2, c3, c4, h, h5, Bool.not_true, Bool.false_eq_true, if_false, ne_eq,
      not_true_eq_false, false_and, not_false_eq_true, Nat.not_lt_zero, and_false, Nat.add_zero]
  have hp : (fused b).fwPlace (image k) = true := by
    unfold State.fwPlace
    simp only [f2, f6, f7, c5]
    decide
  unfold State.verifyAs
  simp only [hv, f1, hp, ne_eq, not_true_eq_false, and_false, if_false, Bool.true_eq_false]

/-- BootStages: banks without an image at each stage, and, where the signatures pass, banks with one; a part held in LIFE 0. -/
theorem test_witness_BootStages :
    (let s := State.reset.modPwr fun x => { x with boot := .powered }
     s.pwr.boot = .powered ∧ s.bootImage 0 1 0 = none)
    ∧ (fused .loaded).pwr.boot = .loaded ∧ (fused .applied).pwr.boot = .applied ∧ (fused .ready).pwr.boot = .ready
    ∧ (fused .ready).life ≠ 3 := by
  decide +kernel

/-- BootStages with images. -/
theorem test_witness_BootStages_image (h1 : SigPasses 1) (h2 : SigPasses 2) :
    ((fused .powered).pwr.boot = .powered ∧ (fused .powered).bootImage 0 1 0 = some (0, image 1))
    ∧ ((fused .ready).pwr.boot = .ready ∧ (fused .ready).bootImage 1 2 2 = some (0, image 2))
    ∧ ((fused .recovery).pwr.boot = .recovery ∧ (fused .recovery).verifyAs 1 (image 1) = .ok) := by
  have g1 := image_good .powered (by decide) 1 (by decide) h1
  have g2 := image_good .ready (by decide) 2 (by decide) h2
  have e1 : KMap.find (fused .powered).sec.flash (0 + 0) = some (image 1) := rfl
  have e2 : KMap.find (fused .ready).sec.flash (2 + 0) = some (image 2) := rfl
  have p1 : (fused .powered).preferred 0 = 0 := by decide +kernel
  have p2 : (fused .ready).preferred 1 = 0 := by decide +kernel
  refine ⟨⟨rfl, ?_⟩, ⟨rfl, ?_⟩, rfl, image_good .recovery (by decide) 1 (by decide) h1⟩
  · simp only [State.bootImage, p1, List.findSome?_cons, e1, g1, if_true]
  · simp only [State.bootImage, p2, List.findSome?_cons, e2, g2, if_true]

/-- StepRunsFrontCommand: a queue with a command at its front. -/
theorem test_witness_StepRunsFrontCommand : ({ up with pending := [.nops 9, .ifence 9] } : State).pending = .nops 9 :: [.ifence 9] := rfl

/-- EmptyQueueTicks, CommandsAlwaysAnswer, QueueDrains, InvariantKept: empty queues, while power-on reset stands and when it does not. -/
theorem test_witness_EmptyQueueTicks :
    State.reset.pending = [] ∧ State.reset.pwr.boot = .held ∧ up.pending = [] ∧ up.pwr.boot ≠ .held := ⟨rfl, rfl, rfl, by decide⟩

/-- InvariantKept: states that meet the invariant and step. -/
theorem test_witness_InvariantKept :
    (up.Inv .a28 ∧ ∃ n, step up = .next n) ∧ State.reset.Inv .a28 ∧ ∃ n, step State.reset = .next n :=
  ⟨⟨⟨rfl, by decide, by decide⟩, _, rfl⟩, ⟨rfl, by decide, by decide⟩, _, rfl⟩

/-- CommandsAlwaysAnswer: a command after which power-on reset stands, and one after which it does not. -/
theorem test_witness_CommandsAlwaysAnswer :
    (∃ n, exec .powerOnReset up = .next n ∧ n.pwr.boot = .held) ∧ ∃ n, exec (.nops 9) up = .next n ∧ n.pwr.boot ≠ .held :=
  ⟨⟨_, rfl, by decide +kernel⟩, _, rfl, by decide +kernel⟩

/-- MemoryReadAfterWrite: bytes on either side, words written whole and in part; reset memory has the canonical form. -/
theorem test_witness_MemoryReadAfterWrite :
    (let a := 4
     let n := (zeros 12).length
     (3 < a ∨ a + n ≤ 3) ∧ (16 < a ∨ a + n ≤ 16) ∧ (a ≤ 8 * (8 / 8) ∧ 8 * (8 / 8) + 8 ≤ a + n)
       ∧ (8 * (7 / 8) < a ∨ a + n < 8 * (7 / 8) + 8))
    ∧ Memory.wf up.mem = true := by decide

/-- MisalignedAccess: an address of each width that is not aligned to it. -/
theorem test_witness_MisalignedAccess :
    (at9 up 0x2001 6 7).Ready 9
    ∧ (∀ n ∈ [2, 4, 8], effAddr ((at9 up 0x2001 6 7).thr 9) (1 : Reg5) 0 % n ≠ 0 ∧ ((((at9 up 0x2001 6 7).thr 9).greg 1).toNat) % n ≠ 0) :=
  ⟨⟨by decide, rfl⟩, by decide⟩

/-- PrivilegeChecks: a thread at PL0 without a grant, a system register in reach of PL0 and one out of it, a block that is not open, and
an address that translation leaves in the register space. -/
theorem test_witness_PrivilegeChecks :
    ((user9 up 70 0 0).Ready 9 ∧ ((user9 up 70 0 0).thr 9).pl1 = false)
    ∧ ((0 : BitVec 12).toNat ∈ sysRegs ∧ (0 : BitVec 12).toNat ∉ [0x10, 0x11, 0x12, 7] ∧ (2 : BitVec 2) ≠ 3)
    ∧ (∀ b ∈ [0, 1, 2], bitAt ((user9 up 70 0 0).thr 9).uperm b = false)
    ∧ (let a := (((user9 up 70 0 0).thr 9).greg 1).toNat
       bitsAt a 0 7 < 71 ∧ (user9 up 70 0 0).flag R.LUM_BLK_CTL_USER (bitsAt a 0 7) = false)
    ∧ (let s := user9 up 0xF000000000 0 0
       let va := effAddr (s.thr 9) 1 0
       va % 8 = 0 ∧ s.translate 9 va .load = (.pa 0xF000000000, s) ∧ region s.part 0xF000000000 ∈ [.regSpace, .trie, .pktBuf, .l2, .sysCache, .mac]
         ∧ (s.thr 9).pl1 = false) :=
  ⟨⟨⟨by decide, rfl⟩, rfl⟩, by decide, by decide, by decide, by decide +kernel⟩

/-- RegisterInstructionFrame, CommandsAlwaysAnswer: an instruction answers. -/
theorem test_witness_RegisterInstructionFrame : (at9 up 5 6 7).Ready 9 ∧ ∃ n, exec (.add 9 1 2 3) (at9 up 5 6 7) = .next n :=
  ⟨⟨by decide, rfl⟩, _, rfl⟩

/-- LoadStoreFrame: a load, a store and an atomic of HBM and of the trie window. -/
theorem test_witness_LoadStoreFrame :
    (∀ a ∈ [0x2000, 0x4000000000], let s := at9 up (BitVec.ofNat 64 a) 6 7
       (∀ k ∈ [AKind.load, .store, .atomic], s.reachMem 9 a k false = (.pa a, s)) ∧ effAddr (s.thr 9) 1 0 = a ∧ a % 8 = 0
         ∧ region s.part a ≠ .lens ∧ (region s.part a ∈ [.hbm, .pktBuf, .mac] ∨ region s.part a = .trie))
    ∧ (∀ a ∈ [0x2000, 0x4000000000], (at9 up (BitVec.ofNat 64 a) 6 7).canIssue 9 = true) := by
  decide +kernel

/-- MemoryUntouched: a command that stores nothing, and its next state. -/
theorem test_witness_MemoryUntouched : storesNothing (.add 9 1 2 3) = true ∧ ∃ n, exec (.add 9 1 2 3) (at9 up 5 6 7) = .next n :=
  ⟨rfl, _, rfl⟩

/-- Commands with every operand in its range are well formed. -/
theorem test_wf_accepts_0 :
    ∀ c ∈ ([.regWrite .jtag 0 0 8, .lowerHalfWrite .jtag 0 0, .ethGrpModeWrite .jtag 0 0, .ethPortCfgWrite .jtag 0 0, .eventLatch 0 0,
      .messageVisible 0, .irqSetWrite .jtag 0 0 0, .fltqPop .jtag 0, .groupEclipse 0 0, .debugHaltRequest .jtag 0 0, .tlbi 0 0 0,
      .dmaRingEnable .jtag 0 0 0, .dmaTransferStart 0 0 0, .xlfHoldTimeout 0 0, .patrolScrub 0 0,
      .atsTranslationCompletion ⟨0, none, false, 0⟩ .failed, .atsInvalidateRequest 0 0 none 0 0, .prismInputEnqueue 0 0,
      .prismSearch 0 none false, .suspectRowRewrite 0 0 0, .prismScrubRow 0 [] [], .cuckooRelocate none, .tmDecision 0 none,
      .heldFrameExpire 0, .rootSlotDisable .jtag 0 0] : List Instr), c.wf = true := by
  decide

/-- Commands with every operand in its range are well formed. -/
theorem test_wf_accepts_1 :
    ∀ c ∈ ([.glintInlineVerdict 0, .drbgReseed none, .nvmeSqDoorbell 0 0 0, .nvmeCqDoorbell 0 0 0, .nvmeCommandCheck 0 false [],
      .nvmeCcEnable 0 0, .perstAssert 0, .hotReset 0, .vfEnableClear 0 0 false, .msixTableWrite 0 0 none none,
      .barMemoryRequest 0 0 0 0 false 0, .ptmMeasure 0, .sqEnable .jtag 0 0, .cqEnable .jtag 0 0, .sqDoorbell 0 0 0,
      .mirrorEnable .jtag 0 0, .flitReceive 0 ⟨true, 0, 0, 0, false, 0, 0, [], 0⟩, .fabricPortTrained 0 0 [], .creditStall 0 0,
      .fencedRequestDrop 0, .helloReceive 0 ⟨0, 0, true, 0, none, 0, 0, none⟩, .coordHeartbeatReceive 0 0 0 0 0,
      .nodeIdRequest 0 0 none false [], .nodeIdGrant 0 0 none [], .nodeIdHoldExpire 0] : List Instr), c.wf = true := by
  decide

/-- Commands with every operand in its range are well formed. -/
theorem test_wf_accepts_2 :
    ∀ c ∈ ([.routeUpdateReceive 0 0 [] [], .routeEntryWrite .jtag 0 0, .laneRetire 0 0, .faultReport 0 0 0 0 false,
      .fadeReading 0 [] 0 false, .counterBlockClear .jtag 0, .counterParityCheck [], .spdmGetVersion 0 [], .blockDim 0,
      .pllLockLoss 0, .porRelease 0, .tempSample (List.replicate 40 0), .railFault 0, .illegalInstruction 0 0,
      .priEnable 0 0] : List Instr), c.wf = true := by
  decide

/-- Commands with one operand past its range, one for each check, are ill formed. -/
theorem test_wf_refuses_0 :
    ∀ c ∈ ([.regWrite (.thread 768) 0 0 8, .regWrite (.fn 4096) 0 0 8, .regWrite (.signed 0) 0 0 8, .regWrite .jtag (2 ^ 32) 0 8,
      .regWrite .jtag 0 (2 ^ 64) 8, .regWrite .jtag 0 0 3, .lowerHalfWrite .jtag (2 ^ 32) 0, .lowerHalfWrite .jtag 4 0,
      .ethGrpModeWrite .jtag 4 0, .ethPortCfgWrite .jtag 16 0, .eventLatch 768 0, .eventLatch 0 32, .messageVisible 3072,
      .irqSetWrite .jtag 12 0 0, .irqSetWrite .jtag 0 8 0, .fltqPop .jtag 96, .groupEclipse 0 16, .debugHaltRequest .jtag 0 256,
      .tlbi 0 0 3, .dmaRingEnable .jtag 0 256 0] : List Instr), c.wf = false := by
  decide

/-- Commands with one operand past its range, one for each check, are ill formed. -/
theorem test_wf_refuses_1 :
    ∀ c ∈ ([.dmaTransferStart 0 256 0, .xlfHoldTimeout 0 64, .patrolScrub (2 ^ 48) 0, .patrolScrub 0 (2 ^ 80),
      .atsTranslationCompletion ⟨4096, none, false, 0⟩ .failed, .atsTranslationCompletion ⟨0, some (2 ^ 20), false, 0⟩ .failed,
      .atsTranslationCompletion ⟨0, none, false, 2 ^ 52⟩ .failed, .atsInvalidateRequest 4096 0 none 0 0,
      .atsInvalidateRequest 0 0 (some (2 ^ 20)) 0 0, .atsInvalidateRequest 0 0 none (2 ^ 52) 0, .prismInputEnqueue 4 0,
      .prismSearch 0 (some ⟨33, 0, 0, 0, true⟩) false, .prismSearch 0 (some ⟨0, 2048, 0, 0, true⟩) false,
      .prismSearch 0 (some ⟨0, 0, 2 ^ 160, 0, true⟩) false, .prismSearch 0 (some ⟨0, 0, 0, 2 ^ 160, true⟩) false,
      .suspectRowRewrite 0 32 0, .suspectRowRewrite 0 0 2048, .prismScrubRow 0 [⟨33, 0, 0, 0, true⟩] [],
      .cuckooRelocate (some (4)), .tmDecision 18 none] : List Instr), c.wf = false := by
  decide

/-- Commands with one operand past its range, one for each check, are ill formed. -/
theorem test_wf_refuses_2 :
    ∀ c ∈ ([.tmDecision 23 none, .tmDecision 32 none, .heldFrameExpire (2 ^ 18), .rootSlotDisable .jtag 16 0, .glintInlineVerdict 32,
      .drbgReseed (some (32)), .nvmeSqDoorbell 0 65536 0, .nvmeSqDoorbell 0 0 65536, .nvmeCqDoorbell 0 0 65536,
      .nvmeCommandCheck 32768 false [], .nvmeCcEnable 0 (2 ^ 32), .perstAssert 2, .hotReset 4, .vfEnableClear 8 0 false,
      .vfEnableClear 0 4096 false, .msixTableWrite 0 2048 none none, .msixTableWrite 0 0 (some (2 ^ 64)) none,
      .msixTableWrite 0 0 none (some (2 ^ 32)), .barMemoryRequest 0 6 0 0 false 0, .ptmMeasure (2 ^ 64)] : List Instr), c.wf = false := by
  decide

/-- Commands with one operand past its range, one for each check, are ill formed. -/
theorem test_wf_refuses_3 :
    ∀ c ∈ ([.sqEnable .jtag 65536 0, .cqEnable .jtag 16384 0, .sqDoorbell 0 65536 0, .sqDoorbell 0 0 65536, .mirrorEnable .jtag 64 0,
      .flitReceive 8 ⟨true, 0, 0, 0, false, 0, 0, [], 0⟩, .flitReceive 0 ⟨true, 3, 0, 0, false, 0, 0, [], 0⟩,
      .flitReceive 0 ⟨true, 0, 4096, 0, false, 0, 0, [], 0⟩, .flitReceive 0 ⟨true, 0, 0, 4096, false, 0, 0, [], 0⟩,
      .flitReceive 0 ⟨true, 0, 0, 0, false, 4, 0, [], 0⟩, .flitReceive 0 ⟨true, 0, 0, 0, false, 0, 1024, [], 0⟩,
      .flitReceive 0 ⟨true, 0, 0, 0, false, 0, 0, [], 16⟩, .fabricPortTrained 0 16 [], .creditStall 0 4, .fencedRequestDrop 65536,
      .helloReceive 0 ⟨2 ^ 64, 0, true, 0, none, 0, 0, none⟩, .helloReceive 0 ⟨0, 0, true, 8, none, 0, 0, none⟩,
      .helloReceive 0 ⟨0, 0, true, 0, some 4096, 0, 0, none⟩, .helloReceive 0 ⟨0, 0, true, 0, none, 64, 0, none⟩,
      .helloReceive 0 ⟨0, 0, true, 0, none, 0, 65536, none⟩] : List Instr), c.wf = false := by
  decide

/-- Commands with one operand past its range, one for each check, are ill formed. -/
theorem test_wf_refuses_4 :
    ∀ c ∈ ([.coordHeartbeatReceive 0 65536 0 0 0, .coordHeartbeatReceive 0 0 0 (2 ^ 64) 0, .nodeIdRequest 0 0 (some (4096)) false [],
      .nodeIdRequest 0 0 none false [8], .nodeIdGrant 0 0 (some (4096)) [], .nodeIdHoldExpire 4096,
      .routeUpdateReceive 0 512 [] [], .routeEntryWrite .jtag 4096 0, .laneRetire 0 4, .faultReport 0 256 0 0 false,
      .faultReport 0 0 (2 ^ 32) 0 false, .fadeReading 40 [] 0 false, .counterBlockClear .jtag 71, .counterParityCheck [568],
      .spdmGetVersion 5 [], .spdmGetVersion 12 [], .blockDim 323, .pllLockLoss 6, .porRelease (2 ^ 16),
      .tempSample [0]] : List Instr), c.wf = false := by
  decide

/-- Commands with one operand past its range, one for each check, are ill formed. -/
theorem test_wf_refuses_5 :
    ∀ c ∈ ([.railFault 8, .illegalInstruction 0 (2 ^ 32), .priEnable 0 (2 ^ 32)] : List Instr), c.wf = false := by
  decide


/-! ### Worked examples of the spec, and published vectors of the standards that it names -/

/-- A 64-bit register written in halves (00_scope.md, R15, R16): nothing changes at the lower half; the upper half writes both. -/
theorem test_halves :
    let s := set_ 0 [(R.MEM_TLBI_ARG_ARG, 0x0000000100000010)]
    let s1 := doLowerHalfWrite .lighthouse (Reg.MEM_TLBI_ARG.off 0) 0x200 s
    let s2 := doUpperHalfWrite .lighthouse (Reg.MEM_TLBI_ARG.off 0) 3 s1
    s1.rd R.MEM_TLBI_ARG_ARG 0 = 0x0000000100000010 ∧ s2.rd R.MEM_TLBI_ARG_ARG 0 = 0x0000000300000200
      ∧ (doUpperHalfWrite .lighthouse (Reg.MEM_TLBI_ARG.off 0) 3 s).rd R.MEM_TLBI_ARG_ARG 0 = 0x0000000300000010 := by
  decide +kernel

/-- The trie of "adding a /25" (06_forwarding_learning.md): VRF 7 and the words at the addresses that the example gives. -/
def trie25 (entry : Nat) : State :=
  ((((set_ 7 [(R.FWD_VRF_V4_EN, 1), (R.FWD_VRF_V4_ROOT, 0x100)]).setBytes 0x004000042804 (leBytes 4 (0x2000 * 2 ^ 10 + 2))).setBytes
    0x004000800008 (leBytes 4 entry)).setBytes 0x004000800720 (leBytes 4 0xA865))

/-- TLOOK LPM4 of 10.1.2.200: next hop 41 before the store, and the RD of the example after it. -/
theorem test_tlook_lpm4 :
    ((doTlookLpm4 9 3 1 2 (at9 (trie25 0xA461) 0x0A0102C8 7 0)).thr 9).greg 3 = 0x0000000060002900
    ∧ ((doTlookLpm4 9 3 1 2 (at9 (trie25 0x800402) 0x0A0102C8 7 0)).thr 9).greg 3 = 0x0000000064002A00 := by
  decide +kernel

/-- The third fault of "a copy interrupted and faulted" (03_lantern_isa.md): EINFO of a store at 0x20_2000 that is not mapped. -/
theorem test_einfo : memInfo 0x202000 1 0 = 0x0001000000202000 := by decide

/-- "A burst through a colour-blind meter" (07_traffic_management.md): the frames at 9.6 µs and 12.0 µs. -/
theorem test_meter :
    let m : Meter := { Meter.fresh with
      w0 := 1 + 15625 * 2 ^ 16 + 6 * 2 ^ 33 + 15625 * 2 ^ 37 + 6 * 2 ^ 54, w1 := 12000 + 6000 * 2 ^ 24 }
    let a := { m with last := 8400, tc := 1050 * 65536, te := 6000 * 65536 }.run 1500 0 9600
    let b := { m with last := 10800, tc := 1350 * 65536, te := 3150 * 65536 }.run 1500 0 12000
    (a.1, a.2.tc, a.2.te) = (1, 1200 * 65536, 4500 * 65536) ∧ (b.1, b.2.tc, b.2.te) = (0, 0, 3300 * 65536) := by
  decide +kernel

/-- "Indices around the wrap" (11_queues.md): each doorbell value after the writes before it. -/
theorem test_doorbells :
    ∀ e ∈ [(65530, 180, true), (180, 300, false), (180, 220, true), (220, 170, false)],
      let s := (set_ 5 [(R.QM_SQ_SIZE_LOG2, 8), (R.QM_SQ_CI, 65500), (R.QM_SQ_PI, e.1)]).ringSq 5 e.2.1
      s.rd R.QM_SQ_PI 5 = (if e.2.2 then e.2.1 else e.1) ∧ s.rd R.QM_SQ_DB_BAD 5 = (if e.2.2 then 0 else 1) := by
  decide +kernel

/-- "Inserting a rule between rules" (05_prism_parse_classify.md): the placement search answers row 6. -/
theorem test_placement :
    let row := fun (r band : Nat) => (2048 * 3 + r, (⟨0, 0, true, band, 0, false⟩ : PsmShadow))
    let s := (set_ 0 [(R.PSM_PLACE_BANK, 3), (R.PSM_PLACE_BAND, 1)]).setPrism 0 { Prism.fresh with
      placing := true
      shadow := ((List.range 6).map fun r => row r 1) ++ ((List.range 9).map fun r => row (6 + r) 2) ++ (List.range 15).map fun r => row (16 + r) 2
      cfg := [(R.PSM_BANK_CFG_EN.key 3, 1)] }
    let t := doPsmPlaceDone 0 s
    t.rd R.PSM_PLACE_ROW 0 = 6 ∧ t.rd R.PSM_PLACE_FULL 0 = 0 ∧ t.rd R.PSM_PLACE_DONE 0 = 1 := by
  decide +kernel

/-- FIPS 197, Appendix C.1: AES-128. -/
theorem test_aes :
    beVal (aesEnc ((List.range 16).map (BitVec.ofNat 8)) ((List.range 16).map fun i => BitVec.ofNat 8 (0x11 * i)))
      = 0x69c4e0d86a7b0430d8cdb78070b4c55a := by
  decide +kernel

/-- FIPS 202: SHAKE256 of the empty string. -/
theorem test_shake : beVal (shake256 [] 32) = 0x46b9dd2b0ba88d13233b3feb743eeb243fcd52ea62b81b82b50c27646ed5762f := by
  decide +kernel

/-- RFC 8439 A.1 vector 2: a ChaCha20 block with a zero key and counter 1. -/
theorem test_chacha :
    beVal ((chachaText (zeros 32) (zeros 12) (zeros 32))) = 0x9f07e7be5551387a98ba977c732d080dcb0f29a048e3656912c6533e32ee7aed := by
  decide +kernel

/-- The carry check of R49 over "123456789", the check value of CRC-32C. -/
theorem test_crc32c : crc32c (ascii "123456789") = 0xE3069283 := by decide +kernel

/-- "On link H1A, PF2 and PF5 are enabled, with 1,000 and 500 VFs" (10_host_interface.md, after R452). -/
theorem test_routing :
    let s := ((((set_ 0 [(R.HIF_PF_VF_ACT_COUNT, 0)]).wrs 2 [(R.HIF_PF_VF_ACT_FIRST, 8), (R.HIF_PF_VF_ACT_COUNT, 1000)]).wrs 5
      [(R.HIF_PF_VF_ACT_FIRST, 1008), (R.HIF_PF_VF_ACT_COUNT, 500)]))
    let t := { s with hif := { s.hif with pfAct := [(0, (0, 0)), (2, (2, 1)), (5, (2, 1))] } }
    (t.firstVfOffset 2, t.firstVfOffset 5, t.routingId 1007, t.routingId 1008) = (2, 1001, some 1001, some 1002) := by
  decide +kernel

/-- R646: a TLP received on link A of H0 counts in block 32 under event 0x02, one on link A of H1 does not. -/
theorem test_tlp :
    let s := set_ (ctrIx 32 0) [(R.LUM_CTL_EVENT, 2), (R.LUM_CTL_EN, 1), (R.LUM_CTL_FILTER, 0xFF)]
    ((s.tlpIn 0).rd R.LUM_VAL_VALUE (ctrIx 32 0), (s.tlpIn 2).rd R.LUM_VAL_VALUE (ctrIx 32 0)) = (1, 0) := by
  decide +kernel

end Sys2Proof.Tests
end

section
/-!
PROOFS. The staging buffer of a thread (R99, R103): CHWR and CHDISCARD change what their thread has staged and retire, and neither another
thread that does not wait nor a channel shows anything of it.
-/

namespace Sys2Proof.Machine

/-! ### What a change of the staging buffer shows outside its thread -/

/-- In `n` thread `t` has staged `v`; every other thread of `s` that does not wait, and the slots of every channel, are those of `s`. -/
def State.Stages (s : State) (t : Nat) (v : List Word) (n : State) : Prop :=
  (n.thr t).stage = v ∧ (∀ u, u ≠ t → (s.thr u).st ≠ .wait → n.thr u = s.thr u) ∧ (∀ c, n.slots c = s.slots c)

theorem State.Stages.trans {s m n : State} {t : Nat} {v w : List Word} (a : s.Stages t v m) (b : m.Stages t w n) : s.Stages t w n := by
  obtain ⟨-, aThr, aSlots⟩ := a
  obtain ⟨bStage, bThr, bSlots⟩ := b
  refine ⟨bStage, fun u hu hw => ?_, fun c => (bSlots c).trans (aSlots c)⟩
  have e : m.thr u = s.thr u := aThr u hu hw
  exact (bThr u hu (e ▸ hw)).trans e

/-- Taking no time and keeping the queue of commands touches no thread and no channel. -/
theorem State.Stages.after {s n : State} {t : Nat} {v : List Word} (a : s.Stages t v n) : s.Stages t v (s.after n) := a

theorem State.modThr_stages (s : State) (t : Nat) (f : Thread → Thread) : s.Stages t (f (s.thr t)).stage (s.modThr t f) :=
  ⟨congrArg Thread.stage (s.thr_setThr_self t _), fun _ hu _ => s.thr_setThr_ne _ hu, fun _ => rfl⟩

/-- The frame of an instruction leaves the staging buffer and the channels as they were. -/
theorem State.FrameOf.stages {s n : State} {t : Nat} {d : Option Reg5} (a : s.FrameOf t d n) : s.Stages t (s.thr t).stage n := by
  obtain ⟨-, hLtn, -, hThr, -, ⟨hOwn, -⟩, -⟩ := a
  have hChans : n.ltn.chans = s.ltn.chans := (congrArg Ltn.chans hLtn :)
  have hStage : (n.thr t).stage = (s.thr t).stage := (congrArg Thread.stage hOwn :)
  exact ⟨hStage, hThr, fun c => by rw [State.slots, State.slots, hChans]⟩

/-! ### The retirement of a channel instruction (R107, R642) -/

/-- A channel instruction of a thread that owes no CH_LEASE_LOST runs its own effect. -/
theorem State.ReadyChan.chan {s : State} {t : Nat} (h : s.ReadyChan t) (k : State → State) : s.chan t k = k s := by
  obtain ⟨hReady, hLost⟩ := h
  rw [State.chan, hReady.issue, if_neg (by simp [hLost])]

theorem State.chStatus_of_not_counted (s : State) (t : Nat) (rd : Reg5) {st : ChStat} (h : ¬ (st = .full ∨ st = .empty ∨ st = .busy)) :
    s.chStatus t rd st = s.result t rd (BitVec.ofNat 64 st.code) := by
  rw [State.chStatus, if_neg h]

/-- A status that is not counted leaves what the thread has staged. -/
theorem State.chStatus_stages (s : State) {t : Nat} (ht : t < 768) (hr : (s.thr t).st = .run) (rd : Reg5) {st : ChStat}
    (h : ¬ (st = .full ∨ st = .empty ∨ st = .busy)) : s.Stages t (s.thr t).stage (s.chStatus t rd st) := by
  rw [s.chStatus_of_not_counted t rd h]
  exact (s.result_frame ht hr rd _).stages

/-- Staging `g` of the thread and retiring with OK: the thread goes on in RUN with `g` staged. -/
theorem State.stage_then_ok_stages (s : State) {t : Nat} (ht : t < 768) (hr : (s.thr t).st = .run) (rd : Reg5)
    (g : Thread → List Word) :
    s.Stages t (g (s.thr t)) ((s.modThr t fun th => { th with stage := g th }).chStatus t rd .ok) := by
  have hStaged := s.modThr_stages t fun th => { th with stage := g th }
  generalize hm : (s.modThr t fun th => { th with stage := g th }) = m at hStaged
  have hRun : (m.thr t).st = .run := by
    rw [← hm, State.modThr, State.thr_setThr_self]
    exact hr
  have hRetired := m.chStatus_stages ht hRun rd (st := .ok) (by decide)
  rw [hStaged.1] at hRetired
  exact hStaged.trans hRetired

/-! ### CHDISCARD and CHWR (R99, R103) -/

theorem doChdiscard_stages {s : State} {t : Nat} (h : s.ReadyChan t) (rd : Reg5) : s.Stages t [] (doChdiscard t rd s) := by
  rw [doChdiscard, h.chan]
  exact s.stage_then_ok_stages h.1.lt h.1.run rd fun _ => []

theorem doChwr_stages_of_room {s : State} {t : Nat} (h : s.ReadyChan t) (rd ra : Reg5) (hRoom : (s.thr t).stage.length < 8) :
    s.Stages t ((s.thr t).stage ++ [(s.thr t).greg ra]) (doChwr t rd ra s) := by
  rw [doChwr, h.chan]
  dsimp only
  rw [if_pos hRoom]
  exact s.stage_then_ok_stages h.1.lt h.1.run rd fun th => th.stage ++ [th.greg ra]

theorem doChwr_stages_of_full {s : State} {t : Nat} (h : s.ReadyChan t) (rd ra : Reg5) (hFull : 8 ≤ (s.thr t).stage.length) :
    s.Stages t (s.thr t).stage (doChwr t rd ra s) := by
  rw [doChwr, h.chan]
  dsimp only
  rw [if_neg (Nat.not_lt.2 hFull)]
  exact s.chStatus_stages h.1.lt h.1.run rd (by decide)

theorem eq_after_of_exec_chdiscard {s n : State} {t : Nat} {rd : Reg5} (h : exec (.chdiscard t rd) s = .next n) :
    n = s.after (doChdiscard t rd s) :=
  (Host.Outcome.next.inj h).symm

theorem eq_after_of_exec_chwr {s n : State} {t : Nat} {rd ra : Reg5} (h : exec (.chwr t rd ra) s = .next n) :
    n = s.after (doChwr t rd ra s) :=
  (Host.Outcome.next.inj h).symm

/-- Settles O56: each of the two instructions stages a value and retires, and a retirement shows nothing of the staging buffer. CHWR
splits on whether the buffer has room for one more word. -/
theorem stagingBuffer : Obligations.StagingBuffer := by
  intro s t hReady rd ra n
  refine ⟨fun hExec => ?_, fun hExec => ?_⟩
  · rw [eq_after_of_exec_chdiscard hExec]
    exact (doChdiscard_stages hReady rd).after
  · rw [eq_after_of_exec_chwr hExec]
    rcases Nat.lt_or_ge (s.thr t).stage.length 8 with hRoom | hFull
    · obtain ⟨hStage, hUnseen⟩ := (doChwr_stages_of_room hReady rd ra hRoom).after
      exact ⟨fun _ => hStage, fun hFull => absurd hRoom (Nat.not_lt.2 hFull), hUnseen⟩
    · obtain ⟨hStage, hUnseen⟩ := (doChwr_stages_of_full hReady rd ra hFull).after
      exact ⟨fun hRoom => absurd hRoom (Nat.not_lt.2 hFull), fun _ => hStage, hUnseen⟩

end Sys2Proof.Machine
end

section
/-!
PROOFS. The corner cases of division (R143, R144): an instruction of format R that issues retires with the value of its operation, so the
four statements are facts about the operations on words.
-/

namespace Sys2Proof.Machine

/-- A command whose meaning computes `m` runs to whatever `m` is. -/
theorem State.runs_of_exec {s m n : State} {c : Instr} (hExec : exec c s = .next (s.after m)) (h : m = n) : s.Runs c n :=
  h ▸ hExec

/-! ### What the four instructions retire with -/

theorem State.Ready.alu {s : State} {t : Nat} (h : s.Ready t) (rd ra rb : Reg5) (f : Word → Word → Word) :
    s.alu t rd ra rb f = s.result t rd (f ((s.thr t).greg ra) ((s.thr t).greg rb)) :=
  h.issue _

theorem State.Ready.runs_divu {s : State} {t : Nat} (h : s.Ready t) (rd ra rb : Reg5) :
    s.Runs (.divu t rd ra rb) (s.result t rd (divu ((s.thr t).greg ra) ((s.thr t).greg rb))) :=
  State.runs_of_exec rfl (h.alu rd ra rb divu)

theorem State.Ready.runs_divs {s : State} {t : Nat} (h : s.Ready t) (rd ra rb : Reg5) :
    s.Runs (.divs t rd ra rb) (s.result t rd (divs ((s.thr t).greg ra) ((s.thr t).greg rb))) :=
  State.runs_of_exec rfl (h.alu rd ra rb divs)

theorem State.Ready.runs_remu {s : State} {t : Nat} (h : s.Ready t) (rd ra rb : Reg5) :
    s.Runs (.remu t rd ra rb) (s.result t rd (remu ((s.thr t).greg ra) ((s.thr t).greg rb))) :=
  State.runs_of_exec rfl (h.alu rd ra rb remu)

theorem State.Ready.runs_rems {s : State} {t : Nat} (h : s.Ready t) (rd ra rb : Reg5) :
    s.Runs (.rems t rd ra rb) (s.result t rd (rems ((s.thr t).greg ra) ((s.thr t).greg rb))) :=
  State.runs_of_exec rfl (h.alu rd ra rb rems)

/-! ### The corner cases of the operations -/

@[simp] theorem divu_zero (a : Word) : divu a 0 = BitVec.allOnes 64 := if_pos rfl

@[simp] theorem divs_zero (a : Word) : divs a 0 = BitVec.allOnes 64 := if_pos rfl

@[simp] theorem remu_zero (a : Word) : remu a 0 = a := if_pos rfl

@[simp] theorem rems_zero (a : Word) : rems a 0 = a := if_pos rfl

/-- The quotient 2^63 is out of range and wraps. -/
@[simp] theorem divs_intMin_neg_one : divs (BitVec.intMin 64) (-1) = BitVec.intMin 64 := by decide

@[simp] theorem rems_intMin_neg_one : rems (BitVec.intMin 64) (-1) = 0 := by decide

/-- Settles O53: each of the four retires with the value of its operation, which takes no exception entry; the corner cases are those of
the operations. -/
theorem divisionCorners : Obligations.DivisionCorners := by
  intro s t hReady rd ra rb a b gives
  have hDivu : gives (.divu t rd ra rb) (divu a b) := hReady.runs_divu rd ra rb
  have hDivs : gives (.divs t rd ra rb) (divs a b) := hReady.runs_divs rd ra rb
  have hRemu : gives (.remu t rd ra rb) (remu a b) := hReady.runs_remu rd ra rb
  have hRems : gives (.rems t rd ra rb) (rems a b) := hReady.runs_rems rd ra rb
  refine ⟨?_, fun hb => ?_, fun ha hb => ?_⟩
  · simp only [List.forall_mem_cons, List.not_mem_nil, false_implies, implies_true, and_true]
    exact ⟨⟨_, hDivu⟩, ⟨_, hDivs⟩, ⟨_, hRemu⟩, ⟨_, hRems⟩⟩
  · rw [hb, divu_zero] at hDivu
    rw [hb, divs_zero] at hDivs
    rw [hb, remu_zero] at hRemu
    rw [hb, rems_zero] at hRems
    exact ⟨hDivu, hDivs, hRemu, hRems⟩
  · rw [ha, hb, divs_intMin_neg_one] at hDivs
    rw [ha, hb, rems_intMin_neg_one] at hRems
    exact ⟨hDivs, hRems⟩

end Sys2Proof.Machine
end

section
/-!
PROOFS. An exception of an instruction that issues writes no memory and no general register of its thread (R182, R183). A misaligned
access (R146) and a bad progress record (R192) raise theirs before anything else of the instruction.
-/

namespace Sys2Proof.Machine

theorem State.Ready.raiseAt_spares {s : State} {t : Nat} (h : s.Ready t) (cls : Cls) (info : Nat) :
    s.Spares (s.raiseAt t cls info) t :=
  s.enter_spares cls info _ h.lt h.run

/-! ### Misaligned accesses (R146) -/

/-- Unless `a` is aligned to `n`, command `c` raises MISALIGNED for an access of kind `acc` at `a`, and no byte, no poison bit and no
general register of thread `t` changes. -/
def State.RaisesMisaligned (s : State) (t acc a n : Nat) (c : Instr) : Prop :=
  a % n ≠ 0 → s.Runs c (s.raiseAt t .misaligned (memInfo a acc 0)) ∧ s.Spares (s.raiseAt t .misaligned (memInfo a acc 0)) t

theorem State.Ready.load_raisesMisaligned {s : State} {t : Nat} (h : s.Ready t) {rd ra : Reg5} {imm : BitVec 16} {n : Nat} {sx : Bool}
    {c : Instr} (hExec : exec c s = .next (s.after (s.load t rd ra imm n sx))) :
    s.RaisesMisaligned t 0 (effAddr (s.thr t) ra imm) n c := by
  intro hMis
  refine ⟨State.runs_of_exec hExec ?_, h.raiseAt_spares _ _⟩
  rw [State.load, h.issue]
  exact if_pos hMis

theorem State.Ready.store_raisesMisaligned {s : State} {t : Nat} (h : s.Ready t) {rs ra : Reg5} {imm : BitVec 16} {n : Nat} {c : Instr}
    (hExec : exec c s = .next (s.after (s.store t rs ra imm n))) :
    s.RaisesMisaligned t 1 (effAddr (s.thr t) ra imm) n c := by
  intro hMis
  refine ⟨State.runs_of_exec hExec ?_, h.raiseAt_spares _ _⟩
  rw [State.store, h.issue]
  exact if_pos hMis

theorem State.Ready.atom_raisesMisaligned {s : State} {t : Nat} (h : s.Ready t) {rd ra rb : Reg5} {w32 : Bool}
    {f : Nat → Nat → Nat → Nat → Nat} {c : Instr} (hExec : exec c s = .next (s.after (s.atom t rd ra rb w32 f))) :
    s.RaisesMisaligned t 3 ((s.thr t).greg ra).toNat (if w32 then 4 else 8) c := by
  intro hMis
  refine ⟨State.runs_of_exec hExec ?_, h.raiseAt_spares _ _⟩
  rw [State.atom, h.issue]
  exact if_pos hMis

/-- Settles O54: each command is a load, a store or an atomic, and each of these three tests the alignment of its address first. -/
theorem misalignedAccess : Obligations.MisalignedAccess := by
  intro s t hReady rd ra rb imm w32
  refine ⟨hReady.load_raisesMisaligned rfl, hReady.load_raisesMisaligned rfl, hReady.store_raisesMisaligned rfl,
    hReady.load_raisesMisaligned rfl, hReady.load_raisesMisaligned rfl, hReady.store_raisesMisaligned rfl,
    hReady.load_raisesMisaligned rfl, hReady.load_raisesMisaligned rfl, hReady.store_raisesMisaligned rfl,
    hReady.load_raisesMisaligned rfl, hReady.store_raisesMisaligned rfl, fun c hc => ?_⟩
  have hAtom : ∃ f, exec c s = .next (s.after (s.atom t rd ra rb w32 f)) := by
    fin_cases hc <;> exact ⟨_, rfl⟩
  obtain ⟨f, hExec⟩ := hAtom
  exact hReady.atom_raisesMisaligned hExec

/-! ### Bad progress records (R192) -/

/-- A block instruction whose record is bad raises PROGRESS_BAD with PRG as its info word; only BCRC (`q = 3`) may carry ACC. -/
theorem State.Ready.blkIssue_of_bad {s : State} {t q : Nat} (h : s.Ready t) (rd : Reg5) {ra rb rc : Reg5}
    (hBad : ((s.thr t).blkOps ra rb rc).n < ((s.thr t).blkOps ra rb rc).done ∨ (((s.thr t).blkOps ra rb rc).acc ≠ 0 ∧ q ≠ 3)) :
    s.blkIssue t q rd ra rb rc = s.raiseAt t .progressBad (s.thr t).prg.toNat := by
  rw [State.blkIssue, h.issue]
  exact if_pos hBad

/-- Settles O55: the entry of PROGRESS_BAD spares memory and general registers, and a bad record is the first thing that the issue of a
block instruction tests; BCRC is the one operation whose ACC it does not test. -/
theorem progressBad : Obligations.ProgressBad := by
  intro s t hReady rd ra rb rc o m
  refine ⟨hReady.raiseAt_spares _ _, fun hBad => ?_, fun hDone => ?_⟩
  · have hRaises : ∀ q, q ≠ 3 → s.blkIssue t q rd ra rb rc = m := fun q hq =>
      hReady.blkIssue_of_bad rd (hBad.imp_right fun hAcc => ⟨hAcc, hq⟩)
    exact ⟨State.runs_of_exec rfl (hRaises 0 (by decide)), State.runs_of_exec rfl (hRaises 1 (by decide)),
      State.runs_of_exec rfl (hRaises 2 (by decide))⟩
  · exact State.runs_of_exec rfl (hReady.blkIssue_of_bad (q := 3) rd (.inl hDone))

end Sys2Proof.Machine
end

section
/-!
PROOFS. Steps and the clock (R1, R705, R706): a command answers a next state that `State.after` shapes, an empty queue lets the
timebase go on by one cycle, and every step keeps the invariant.
-/

namespace Sys2Proof.Machine

/-! ### What a step does, by its queue -/

theorem step_of_cons {s : State} {c : Instr} {rest : List Instr} (h : s.pending = c :: rest) :
    step s = exec c { s with pending := rest } := by
  rw [step, h]

theorem step_of_nil {s : State} (h : s.pending = []) : step s = .next s.tick := by
  rw [step, h]

/-- Settles O45, by the definition of a step on a queue that is not empty. -/
theorem stepRunsFrontCommand : Obligations.StepRunsFrontCommand :=
  fun _ _ _ => ⟨step_of_cons, step_of_cons rfl⟩

/-- What a command answers is shaped by `State.after`. -/
theorem eq_after_of_exec {c : Instr} {s n : State} (h : exec c s = .next n) : ∃ m, n = s.after m := by
  obtain ⟨m, hm⟩ := exec_after c s
  exact ⟨m, Host.Outcome.next.inj (h.symm.trans hm)⟩

/-- Settles O47: a command answers `s.after m`, and `State.after` keeps the ordering code, the queue and the timebase. -/
theorem commandsAlwaysAnswer : Obligations.CommandsAlwaysAnswer := by
  intro c s
  obtain ⟨m, hm⟩ := exec_after c s
  refine ⟨s.after m, hm, s.after_part m, s.after_pending m, fun hRuns => ?_, fun hHeld => ?_⟩
  · rw [State.after_pwr] at hRuns
    rw [State.after_time, State.after_frac, if_neg hRuns, if_neg hRuns]
    exact ⟨rfl, rfl⟩
  · rw [State.after_pwr] at hHeld
    rw [State.after_time, State.after_frac, if_pos hHeld, if_pos hHeld]
    exact ⟨rfl, rfl⟩

/-! ### The queue drains -/

/-- A step takes the front command from the queue and keeps the ordering code. -/
theorem step_pops {s : State} {c : Instr} {rest : List Instr} (h : s.pending = c :: rest) :
    ∃ n, step s = .next n ∧ n.pending = rest ∧ n.part = s.part := by
  obtain ⟨m, hm⟩ := exec_after c { s with pending := rest }
  exact ⟨_, (step_of_cons h).trans hm, rfl, rfl⟩

theorem run_succ_of_next {s m : State} (k : Nat) (h : step s = .next m) : core.run (k + 1) s = core.run k m := by
  have hStep : core.step s = .next m := h
  simp only [Host.Core.run, hStep]

/-- Settles O48, by induction on the queue: each step takes one command from it. -/
theorem queueDrains : Obligations.QueueDrains := by
  intro s
  generalize hq : s.pending = q
  induction q generalizing s with
  | nil => exact ⟨s, rfl, hq, rfl⟩
  | cons c rest ih =>
    obtain ⟨m, hStep, hRest, hPart⟩ := step_pops hq
    obtain ⟨n, hRun, hEmpty, hPart'⟩ := ih m hRest
    exact ⟨n, (run_succ_of_next rest.length hStep).trans hRun, hEmpty, hPart'.trans hPart⟩

/-! ### The clock (R705, R706) -/

/-- The correction of a cycle is less than the 40 ns of the cycle itself, so that the timebase does not run back. -/
theorem State.nextTime_nonneg (s : State) :
    0 ≤ (s.time : Int) + 40 + ((s.frac : Int) + 40 * signedOf 24 (s.rd R.PWR_TB_STAT_RATE_PPB 0)) / 1000000000 := by
  have hRate := (signedOf_lt 24 (s.rd R.PWR_TB_STAT_RATE_PPB 0) (by decide)).1
  norm_num at hRate
  omega

/-- A cycle adds 40 ns corrected by RATE_PPB, counted in 10^-9 ns, and leaves a fraction below one. -/
theorem State.nextTime_exact (s : State) :
    (s.nextTime.1 : Int) * 1000000000 + s.nextTime.2
        = s.time * 1000000000 + s.frac + 40 * 1000000000 + 40 * signedOf 24 (s.rd R.PWR_TB_STAT_RATE_PPB 0)
      ∧ s.nextTime.2 < 1000000000 := by
  have hNonneg := s.nextTime_nonneg
  unfold State.nextTime
  dsimp only
  generalize 40 * signedOf 24 (s.rd R.PWR_TB_STAT_RATE_PPB 0) = corr at hNonneg ⊢
  omega

/-- Settles O46: the step is a tick, whose clock is `State.nextTime`. -/
theorem emptyQueueTicks : Obligations.EmptyQueueTicks := by
  intro s hEmpty
  obtain ⟨-, -, hHeld, hPending, hClock⟩ := s.tick_time
  refine ⟨s.tick, step_of_nil hEmpty, hPending.trans hEmpty, hHeld, fun hRuns => ?_⟩
  obtain ⟨hTime, hFrac⟩ := hClock hRuns
  rw [hTime, hFrac]
  exact s.nextTime_exact

/-! ### The invariant -/

theorem State.Inv.tick {p : Part} {s : State} (h : s.Inv p) : s.tick.Inv p := by
  obtain ⟨hPart, hPwr, hStays, -, hClock⟩ := s.tick_time
  by_cases hHeld : s.pwr.boot = .held
  · rw [hStays hHeld]
    exact h
  · refine ⟨hPart.trans h.1, ?_, fun g => absurd (hPwr ▸ g) hHeld⟩
    rw [(hClock hHeld).2]
    exact s.nextTime_exact.2

theorem State.Inv.after {p : Part} {s : State} (h : s.Inv p) (m : State) : (s.after m).Inv p := by
  obtain ⟨hPart, hFrac, -⟩ := h
  refine ⟨hPart, ?_, fun hHeld => ?_⟩
  · rw [State.after_frac]
    split
    · decide
    · exact hFrac
  · rw [State.after_pwr] at hHeld
    rw [State.after_time, State.after_frac, if_pos hHeld, if_pos hHeld]
    exact ⟨rfl, rfl⟩

/-- Settles O49: a step is a tick or a command, and each of the two keeps the invariant. -/
theorem invariantKept : Obligations.InvariantKept := by
  intro p s n hInv hStep
  cases hq : s.pending with
  | nil =>
    rw [step_of_nil hq] at hStep
    rw [← Host.Outcome.next.inj hStep]
    exact hInv.tick
  | cons c rest =>
    rw [step_of_cons hq] at hStep
    obtain ⟨m, rfl⟩ := eq_after_of_exec hStep
    exact State.Inv.after (s := { s with pending := rest }) hInv m

/-- Settles O50, by the values of the reset state. -/
theorem invariantAtReset : Obligations.InvariantAtReset :=
  ⟨rfl, by decide, fun _ => ⟨rfl, rfl⟩⟩

/-! ### The reset state (R18, R69, R205, R709) -/

theorem State.thr_reset (t : Nat) : State.reset.thr t = Thread.fresh := rfl

theorem Thread.greg_fresh (r : Reg5) : Thread.fresh.greg r = 0 := by
  revert r
  decide

/-- Settles O51: the sparse maps of the reset state are empty, and an empty map answers its default. -/
theorem stateAtReset : Obligations.StateAtReset := by
  refine ⟨fun _ _ => rfl, fun _ => ⟨rfl, rfl⟩, fun t => ?_, fun _ => rfl, rfl, rfl, rfl, rfl⟩
  rw [State.thr_reset]
  exact ⟨rfl, Thread.greg_fresh, rfl⟩

end Sys2Proof.Machine
end

section
/-!
PROOFS. The instructions that compute or branch (R138 to R144, R156): each issues and retires with its value, and changes nothing but
its destination, the PC, PRG and what counting changes.
-/

namespace Sys2Proof.Machine

/-! ### Values as the statements spell them -/

theorem ctz_eq_getD (a : Word) : ctz a = ((List.range 64).find? fun i => a.getLsbD i).getD 64 := by
  rw [ctz]
  cases (List.range 64).find? fun i => a.getLsbD i <;> rfl

theorem maskOnes_sixteen : maskOnes 16 = 0xFFFF := rfl

/-! ### An instruction that issues -/

/-- A command whose meaning is the issue of `k` runs to `k` of the state, when its thread is ready. -/
theorem State.Ready.runs {s n : State} {t : Nat} {c : Instr} {k : State → State} (h : s.Ready t)
    (hExec : exec c s = .next (s.after (s.issue t k))) (hEffect : k s = n) : s.Runs c n :=
  State.runs_of_exec hExec ((h.issue k).trans hEffect)

/-- Settles O1: each instruction of the group is the issue of one result. -/
theorem aluResults : Obligations.AluResults := by
  intro s t hReady rd ra rb a b gives
  have hCtz : s.Runs (.ctz t rd ra) (s.result t rd (BitVec.ofNat 64 (ctz a))) := hReady.runs rfl rfl
  rw [ctz_eq_getD] at hCtz
  refine ⟨hReady.runs rfl rfl, hReady.runs rfl rfl, hReady.runs rfl rfl, hReady.runs rfl rfl, hReady.runs rfl rfl,
    hReady.runs rfl rfl, hReady.runs rfl rfl, hReady.runs rfl rfl, hReady.runs rfl rfl, hReady.runs rfl rfl, hReady.runs rfl rfl,
    hReady.runs rfl rfl, hReady.runs rfl rfl, hReady.runs rfl rfl, hReady.runs rfl rfl, hReady.runs rfl rfl, hReady.runs rfl rfl,
    hReady.runs rfl rfl, hReady.runs rfl rfl, hCtz, hReady.runs rfl rfl, hReady.runs rfl rfl, hReady.runs rfl rfl,
    hReady.runs rfl rfl⟩

/-- Settles O2: each immediate form is the issue of one result. -/
theorem immediateResults : Obligations.ImmediateResults := by
  intro s t hReady rd ra imm hw kind n a old gives
  have hImmk : s.Runs (.immk t rd hw imm) (s.result t rd (setLane old hw imm)) := hReady.runs rfl rfl
  rw [setLane, maskOnes_sixteen] at hImmk
  exact ⟨hReady.runs rfl rfl, hReady.runs rfl rfl, hReady.runs rfl rfl, hReady.runs rfl rfl, hReady.runs rfl rfl,
    hReady.runs rfl rfl, hReady.runs rfl rfl, hReady.runs rfl rfl, hImmk⟩

/-- Settles O3: the operations are those of `mulhu`, `mulhs` and the four divisions. -/
theorem multiplyDivideResults : Obligations.MultiplyDivideResults := by
  intro s t hReady rd ra rb a b gives
  exact ⟨hReady.runs rfl rfl, hReady.runs rfl rfl, hReady.runs rfl rfl, hReady.runs rfl rfl, hReady.runs_divu rd ra rb,
    hReady.runs_divs rd ra rb, hReady.runs_remu rd ra rb, hReady.runs_rems rd ra rb⟩

/-- Settles O4: a branch is the issue of a retirement at the place that its condition picks. -/
theorem branchAndCall : Obligations.BranchAndCall := by
  intro s t hReady rd ra rb off imm far a b pc goes
  exact ⟨hReady.runs rfl rfl, hReady.runs rfl rfl, hReady.runs rfl rfl, hReady.runs rfl rfl, hReady.runs rfl rfl,
    hReady.runs rfl rfl, hReady.runs rfl rfl, hReady.runs rfl rfl⟩

/-! ### Frames (R129, R177, R190) -/

/-- The frame of a command that runs to a state with that frame. -/
theorem State.Runs.frameOf {s m n : State} {t : Nat} {d : Option Reg5} {c : Instr} (hRuns : s.Runs c m) (hFrame : s.FrameOf t d m)
    (hExec : exec c s = .next n) : s.FrameOf t d n := by
  rw [← Host.Outcome.next.inj (hRuns.symm.trans hExec)]
  exact hFrame.after

/-- The frame of a command that gives a result. -/
theorem State.Ready.result_frameOf {s : State} {t : Nat} (h : s.Ready t) (rd : Reg5) (v : Word) :
    s.FrameOf t (some rd) (s.result t rd v) :=
  s.result_frame h.lt h.run rd v

/-- Settles O58: every command of the first list issues a result or a link, every one of the second a retirement. -/
theorem registerInstructionFrame : Obligations.RegisterInstructionFrame := by
  intro s t hReady rd ra rb imm off hw kind am far n
  refine ⟨fun c hc hExec => ?_, fun c hc hExec => ?_⟩
  · have hRuns : ∃ m, s.Runs c m ∧ s.FrameOf t (some rd) m := by
      fin_cases hc
      -- Forty-one operations give a result; then CALL and CALLR link.
      iterate 41 exact ⟨_, hReady.runs rfl rfl, hReady.result_frameOf rd _⟩
      all_goals exact ⟨_, hReady.runs rfl rfl, State.link_frame hReady rd _ _⟩
    obtain ⟨m, hRuns, hFrame⟩ := hRuns
    exact hRuns.frameOf hFrame hExec
  · have hRuns : ∃ m, s.Runs c m ∧ s.FrameOf t none m := by
      fin_cases hc <;> exact ⟨_, hReady.runs rfl rfl, State.jump_frame hReady _⟩
    obtain ⟨m, hRuns, hFrame⟩ := hRuns
    exact hRuns.frameOf hFrame hExec

/-! ### Memory: read after write (R7, R205, R709) -/

/-- Settles O52: each part is what a byte, a poison bit or the form of the memory is after `State.setBytes`. -/
theorem memoryReadAfterWrite : Obligations.MemoryReadAfterWrite := by
  intro s a bs
  refine ⟨s.bytes_setBytes a bs, fun x hx => ?_, fun x hLow hHigh => ?_, fun x hx => ?_, s.setBytes_wf a bs⟩
  · rw [State.byte_setBytes, if_neg (by omega)]
  · rw [State.bad_setBytes, if_pos ⟨hLow, hHigh⟩]
  · rw [State.bad_setBytes, if_neg (by omega)]

end Sys2Proof.Machine
end

section
/-!
PROOFS. Loads, stores and atomics (R145 to R154): what each does once its address is aligned and reached, what it raises where the
address is denied, and what it leaves of the memory.
-/

namespace Sys2Proof.Machine

/-! ### An access that is reached, and one that is denied -/

theorem State.Ready.load_of_reach {s s1 : State} {t pa n : Nat} (h : s.Ready t) {rd ra : Reg5} {imm : BitVec 16} {sx : Bool}
    (hAligned : effAddr (s.thr t) ra imm % n = 0) (hReach : s.reachMem t (effAddr (s.thr t) ra imm) .load false = (.pa pa, s1)) :
    s.load t rd ra imm n sx = s1.loadAt t rd (effAddr (s.thr t) ra imm) pa n sx := by
  rw [State.load, h.issue]
  dsimp only
  rw [if_neg (not_not.2 hAligned), hReach]

theorem State.Ready.store_of_reach {s s1 : State} {t pa n : Nat} (h : s.Ready t) {rs ra : Reg5} {imm : BitVec 16}
    (hAligned : effAddr (s.thr t) ra imm % n = 0) (hReach : s.reachMem t (effAddr (s.thr t) ra imm) .store false = (.pa pa, s1)) :
    s.store t rs ra imm n = s1.storeTo t pa n (((s.thr t).greg rs).toNat % 2 ^ (8 * n)) := by
  rw [State.store, h.issue]
  dsimp only
  rw [if_neg (not_not.2 hAligned), hReach]

/-- The new value of an atomic at `pa`, from g[RB] and g[RD] as the thread held them on entry. -/
def State.atomNew (s1 : State) (th : Thread) (rd rb : Reg5) (pa n : Nat) (f : Nat → Nat → Nat → Nat → Nat) : Nat :=
  f (8 * n) (s1.mval pa n) (th.greg rb).toNat (th.greg rd).toNat

theorem State.Ready.atom_of_reach {s s1 : State} {t pa n : Nat} (h : s.Ready t) {rd ra rb : Reg5} {w32 : Bool}
    {f : Nat → Nat → Nat → Nat → Nat} (hWidth : (if w32 then 4 else 8) = n) (hAligned : ((s.thr t).greg ra).toNat % n = 0)
    (hReach : s.reachMem t ((s.thr t).greg ra).toNat .atomic false = (.pa pa, s1)) :
    s.atom t rd ra rb w32 f =
      if s1.badRange pa n then s1.raiseUe t ((s.thr t).greg ra).toNat pa n .atomic
      else (s1.storeAt t pa (leBytes n (s1.atomNew (s.thr t) rd rb pa n f))).result t rd (BitVec.ofNat 64 (s1.mval pa n)) := by
  subst hWidth
  rw [State.atom, h.issue]
  dsimp only
  rw [if_neg (not_not.2 hAligned), hReach]
  rfl

theorem State.Ready.load_of_denied {s s1 : State} {t n info : Nat} {cls : Cls} (h : s.Ready t) {rd ra : Reg5} {imm : BitVec 16}
    {sx : Bool} (hAligned : effAddr (s.thr t) ra imm % n = 0)
    (hDenied : s.reachMem t (effAddr (s.thr t) ra imm) .load false = (.exc cls info, s1)) :
    s.load t rd ra imm n sx = s1.raiseAt t cls info := by
  rw [State.load, h.issue]
  dsimp only
  rw [if_neg (not_not.2 hAligned), hDenied]

theorem State.Ready.store_of_denied {s s1 : State} {t n info : Nat} {cls : Cls} (h : s.Ready t) {rs ra : Reg5} {imm : BitVec 16}
    (hAligned : effAddr (s.thr t) ra imm % n = 0)
    (hDenied : s.reachMem t (effAddr (s.thr t) ra imm) .store false = (.exc cls info, s1)) :
    s.store t rs ra imm n = s1.raiseAt t cls info := by
  rw [State.store, h.issue]
  dsimp only
  rw [if_neg (not_not.2 hAligned), hDenied]

theorem State.Ready.atom_of_denied {s s1 : State} {t info : Nat} {cls : Cls} (h : s.Ready t) {rd ra rb : Reg5} {w32 : Bool}
    {f : Nat → Nat → Nat → Nat → Nat} (hAligned : ((s.thr t).greg ra).toNat % (if w32 then 4 else 8) = 0)
    (hDenied : s.reachMem t ((s.thr t).greg ra).toNat .atomic false = (.exc cls info, s1)) :
    s.atom t rd ra rb w32 f = s1.raiseAt t cls info := by
  rw [State.atom, h.issue]
  dsimp only
  rw [if_neg (not_not.2 hAligned), hDenied]

/-! ### Loads (R145, R152) -/

theorem State.loadAt_of_memory {s : State} {t va pa n : Nat} {rd : Reg5} {sx : Bool} (hLens : region s.part pa ≠ .lens)
    (hReg : region s.part pa ≠ .regSpace) (hGood : s.badRange pa n = false) :
    s.loadAt t rd va pa n sx = s.result t rd (loadVal n sx (s.mval pa n)) := by
  unfold State.loadAt
  split
  · exact absurd ‹_› hLens
  · exact absurd ‹_› hReg
  · rw [hGood, if_neg Bool.false_ne_true]

theorem State.loadAt_of_regSpace {s : State} {t va pa n : Nat} {rd : Reg5} {sx : Bool} (hReg : region s.part pa = .regSpace) :
    s.loadAt t rd va pa n sx = s.result t rd (loadVal n sx (s.regAs (.thread t) (regOff pa) n)) := by
  rw [State.loadAt, hReg]

theorem State.loadAt_of_lens {s : State} {t va pa n : Nat} {rd : Reg5} {sx : Bool} (hLens : region s.part pa = .lens) :
    s.loadAt t rd va pa n sx = s.lensRead t ⟨va, n, .load, va, pa⟩ rd sx := by
  rw [State.loadAt, hLens]

/-- Settles O14: every load is `State.load` of its width and extension, which goes by the region of the address reached. -/
theorem loadResults : Obligations.LoadResults := by
  intro s t hReady rd ra imm pa s1 va hReach loads
  have hLoads : ∀ {c n sx}, exec c s = .next (s.after (s.load t rd ra imm n sx)) → loads c n sx := by
    intro c n sx hExec hAligned
    have hLoad : s.Runs c (s1.loadAt t rd va pa n sx) := State.runs_of_exec hExec (hReady.load_of_reach hAligned hReach)
    refine ⟨fun hLens hReg hGood => ?_, fun hReg => ?_, fun hLens => ?_⟩
    · rwa [State.loadAt_of_memory hLens hReg hGood] at hLoad
    · rwa [State.loadAt_of_regSpace hReg] at hLoad
    · rwa [State.loadAt_of_lens hLens] at hLoad
  exact ⟨hLoads rfl, hLoads rfl, hLoads rfl, hLoads rfl, hLoads rfl, hLoads rfl, hLoads rfl⟩

/-! ### Stores (R145, R151) -/

theorem State.storeTo_of_regSpace {s : State} {t pa n v : Nat} (hReg : region s.part pa = .regSpace) :
    s.storeTo t pa n v = (s.retire t id).busWrite (.thread t) (regOff pa) n v := by
  rw [State.storeTo, hReg]

theorem State.storeTo_of_not_regSpace {s : State} {t pa n v : Nat} (hReg : region s.part pa ≠ .regSpace) :
    s.storeTo t pa n v = (s.storeAt t pa (leBytes n v)).retire t id := by
  unfold State.storeTo
  split
  · exact absurd ‹_› hReg
  · rfl

/-- Settles O15: every store is `State.store` of its width, which tells the register space from the rest. -/
theorem storeResults : Obligations.StoreResults := by
  intro s t hReady rs ra imm pa s1 va v hReach stores
  have hStores : ∀ {c n}, exec c s = .next (s.after (s.store t rs ra imm n)) → stores c n := by
    intro c n hExec hAligned
    have hStore : s.Runs c (s1.storeTo t pa n (v % 2 ^ (8 * n))) := State.runs_of_exec hExec (hReady.store_of_reach hAligned hReach)
    refine ⟨fun hReg => ?_, fun hReg => ?_⟩
    · rwa [State.storeTo_of_not_regSpace hReg] at hStore
    · rwa [State.storeTo_of_regSpace hReg] at hStore
  exact ⟨hStores rfl, hStores rfl, hStores rfl, hStores rfl⟩

/-! ### Atomics (R153, R154) -/

/-- Settles O16: every atomic is `State.atom` of its function, which stores what the function gives. -/
theorem atomicResults : Obligations.AtomicResults := by
  intro s t hReady rd ra rb w32 pa s1 n va b c old hAligned hReach hGood gives
  have hAtoms : ∀ {i f v}, exec i s = .next (s.after (s.atom t rd ra rb w32 f)) → f (8 * n) old b c = v → gives i v := by
    rintro i f _ hExec rfl
    refine State.runs_of_exec hExec ((hReady.atom_of_reach rfl hAligned hReach).trans ?_)
    rw [hGood, if_neg Bool.false_ne_true]
    rfl
  exact ⟨hAtoms rfl rfl, hAtoms rfl rfl, hAtoms rfl rfl, hAtoms rfl rfl, hAtoms rfl rfl, hAtoms rfl rfl, hAtoms rfl rfl,
    hAtoms rfl rfl, hAtoms rfl rfl, hAtoms rfl rfl⟩

/-- Every command of the ATOM group is an atomic of some function. -/
theorem exec_atom {c : Instr} {s : State} {t : Nat} {rd ra rb : Reg5} {w32 : Bool}
    (hc : c ∈ [Instr.swap t rd ra rb w32, .cas t rd ra rb w32, .fadd t rd ra rb w32, .fand t rd ra rb w32, .fOr t rd ra rb w32,
      .fxor t rd ra rb w32, .fmin t rd ra rb w32, .fmax t rd ra rb w32, .fminu t rd ra rb w32, .fmaxu t rd ra rb w32]) :
    ∃ f, exec c s = .next (s.after (s.atom t rd ra rb w32 f)) := by
  fin_cases hc <;> exact ⟨_, rfl⟩

/-! ### What they leave of the memory (R145, R146, R153, R205, R292) -/

/-- Around a store of `k` bytes at `pa` the bytes of `n` are those of `s`: all others where the region takes the store as it is, all
outside the 16-byte entry in the trie window. -/
def State.KeepsAround (s n : State) (p : Part) (pa k : Nat) : Prop :=
  (region p pa ∈ [Region.hbm, .pktBuf, .mac] → ∀ x, (x < pa ∨ pa + k ≤ x) → n.byte x = s.byte x)
    ∧ (region p pa = .trie → pa % k = 0 → ∀ x, (x < 16 * (pa / 16) ∨ 16 * (pa / 16) + 16 ≤ x) → n.byte x = s.byte x)

theorem State.keepsAround_of_mem {s n : State} {p : Part} {pa k : Nat} (h : n.mem = s.mem) : s.KeepsAround n p pa k :=
  ⟨fun _ x _ => State.byte_of_mem h x, fun _ _ x _ => State.byte_of_mem h x⟩

theorem State.KeepsAround.after {s m n : State} {p : Part} {pa k : Nat} (h : s.KeepsAround n p pa k) :
    s.KeepsAround (m.after n) p pa k := h

theorem State.retire_mem (s : State) (t : Nat) (f : Thread → Thread) : (s.retire t f).mem = s.mem :=
  (s.retireK_keeps t false _ f).1

/-- What is left after a store of the `n` bytes `bs` and the retirement of its instruction. -/
theorem State.keepsAround_of_storeAt {s s1 : State} {t u pa n : Nat} {bs : Bytes} {f : Thread → Thread} (hMem : s1.mem = s.mem)
    (hLength : bs.length = n) (hWidth : n ∈ [1, 2, 4, 8]) :
    s.KeepsAround ((s1.storeAt t pa bs).retire u f) s1.part pa n
      ∧ (region s1.part pa ∈ [Region.hbm, .pktBuf, .mac] → ((s1.storeAt t pa bs).retire u f).bytes pa n = bs) := by
  have hLe : bs.length ≤ 8 := by
    simp only [List.mem_cons, List.not_mem_nil, or_false] at hWidth
    omega
  obtain ⟨hPlain, hTrie⟩ := s1.storeAt_bytes t (pa := pa) hLe
  rw [hLength] at hPlain hTrie
  have hStored := State.retire_mem (s1.storeAt t pa bs) u f
  have hByte : ∀ x, ((s1.storeAt t pa bs).retire u f).byte x = (s1.storeAt t pa bs).byte x := State.byte_of_mem hStored
  refine ⟨⟨fun hRegion x hx => ?_, fun hRegion hAligned x hx => ?_⟩, fun hRegion => ?_⟩
  · rw [hByte, (hPlain hRegion).1 x hx, State.byte_of_mem hMem]
  · have hWord : pa % 8 + n ≤ 8 := by
      simp only [List.mem_cons, List.not_mem_nil, or_false] at hWidth
      rcases hWidth with h | h | h | h <;> rw [h] at hAligned ⊢ <;> omega
    rw [hByte, hTrie hRegion hWord x hx, State.byte_of_mem hMem]
  · rw [State.bytes_of_mem hStored]
    exact (hPlain hRegion).2

theorem State.Ready.mem_of_reach {s s1 : State} {t va : Nat} {k : AKind} {b : Bool} {x : Xl} (h : s.Ready t)
    (hReach : s.reachMem t va k b = (x, s1)) : s1.mem = s.mem := by
  have hSpares := (s.reachMem_spares h va k b).1
  rwa [hReach] at hSpares

/-- What a store leaves of the memory. -/
theorem State.Ready.store_keeps {s s1 : State} {t pa n : Nat} (h : s.Ready t) {rs ra : Reg5} {imm : BitVec 16}
    (hWidth : n ∈ [1, 2, 4, 8]) (hAligned : effAddr (s.thr t) ra imm % n = 0)
    (hReach : s.reachMem t (effAddr (s.thr t) ra imm) .store false = (.pa pa, s1)) :
    s.KeepsAround (s.store t rs ra imm n) s1.part pa n
      ∧ (region s1.part pa ∈ [Region.hbm, .pktBuf, .mac] →
        (s.store t rs ra imm n).bytes pa n = leBytes n (((s.thr t).greg rs).toNat % 2 ^ (8 * n))) := by
  rw [h.store_of_reach hAligned hReach]
  by_cases hReg : region s1.part pa = .regSpace
  · simp [State.KeepsAround, hReg]
  · rw [State.storeTo_of_not_regSpace hReg]
    exact State.keepsAround_of_storeAt (h.mem_of_reach hReach) (leBytes_length n _) hWidth

/-- What an atomic leaves of the memory: all of it, where its word is poisoned. -/
theorem State.Ready.atom_keeps {s s1 : State} {t pa n : Nat} (h : s.Ready t) {rd ra rb : Reg5} {w32 : Bool}
    {f : Nat → Nat → Nat → Nat → Nat} (hWidth : (if w32 then 4 else 8) = n) (hAligned : ((s.thr t).greg ra).toNat % n = 0)
    (hReach : s.reachMem t ((s.thr t).greg ra).toNat .atomic false = (.pa pa, s1)) :
    s.KeepsAround (s.atom t rd ra rb w32 f) s1.part pa n := by
  rw [h.atom_of_reach hWidth hAligned hReach]
  split
  · exact State.keepsAround_of_mem ((State.raiseUe_keeps _ _ _ _ _ _).1.trans (h.mem_of_reach hReach))
  · refine (State.keepsAround_of_storeAt (h.mem_of_reach hReach) (leBytes_length n _) ?_).1
    rw [← hWidth]
    cases w32 <;> decide

theorem eq_after_of_exec_eq {c : Instr} {s m n : State} (hExec : exec c s = .next (s.after m)) (h : exec c s = .next n) :
    n = s.after m :=
  Host.Outcome.next.inj (h.symm.trans hExec)

/-- Settles O59: a load keeps the memory, a store and an atomic keep what lies around their bytes. -/
theorem loadStoreFrame : Obligations.LoadStoreFrame := by
  intro s t hReady rd ra rb imm w32 pa s1 n va a v keeps loads outside stores
  have hLoads : s.reachMem t va .load false = (.pa pa, s1) → region s1.part pa ≠ .lens →
      ∀ {c k sx}, exec c s = .next (s.after (s.load t rd ra imm k sx)) → loads k c := by
    intro hReach hLens c k sx hIs hAligned hExec x
    rw [eq_after_of_exec_eq hIs hExec]
    exact State.byte_of_mem (State.load_mem hReady rd ra imm k sx hAligned hReach hLens) x
  have hStores : s.reachMem t va .store false = (.pa pa, s1) →
      ∀ {c k}, exec c s = .next (s.after (s.store t rd ra imm k)) → k ∈ [1, 2, 4, 8] → stores k c := by
    intro hReach c k hIs hWidth hAligned hExec
    obtain ⟨hAround, hStored⟩ := hReady.store_keeps (rs := rd) hWidth hAligned hReach
    obtain rfl := eq_after_of_exec_eq hIs hExec
    exact ⟨hAround.after, hStored⟩
  refine ⟨fun hReach hLens => ?_, fun hReach => ?_, fun hReach hAligned c hc hExec => ?_⟩
  · exact ⟨hLoads hReach hLens rfl, hLoads hReach hLens rfl, hLoads hReach hLens rfl, hLoads hReach hLens rfl,
      hLoads hReach hLens rfl, hLoads hReach hLens rfl, hLoads hReach hLens rfl⟩
  · exact ⟨hStores hReach rfl (by decide), hStores hReach rfl (by decide), hStores hReach rfl (by decide),
      hStores hReach rfl (by decide)⟩
  · obtain ⟨f, hIs⟩ := exec_atom (s := s) hc
    obtain rfl := eq_after_of_exec_eq hIs hExec
    exact (hReady.atom_keeps rfl hAligned hReach).after

end Sys2Proof.Machine
end

section
/-!
PROOFS. The commands that store nothing leave memory alone (R40, R43, R45): the law of each of them in Sys2Proof/Laws/Untouched.lean is
a simp lemma, and `State.after` touches no byte.
-/

namespace Sys2Proof.Machine

/-- A command whose meaning keeps the bytes and the poison keeps them. -/
theorem keeps_of_exec {c : Instr} {s m n : State} (hIs : exec c s = .next (s.after m)) (hExec : exec c s = .next n)
    (hKeeps : m.mem = s.mem ∧ m.poison = s.poison) : n.mem = s.mem ∧ n.poison = s.poison ∧ ∀ a, n.byte a = s.byte a := by
  obtain rfl := eq_after_of_exec_eq hIs hExec
  exact ⟨hKeeps.1, hKeeps.2, State.byte_of_mem hKeeps.1⟩

/-- Settles O60, command by command: those that the list leaves out contradict the hypothesis, and the meaning of each of the others
has its law. -/
theorem memoryUntouched : Obligations.MemoryUntouched := by
  intro c s n hListed hExec
  cases c
  all_goals try exact absurd hListed Bool.false_ne_true
  all_goals exact keeps_of_exec rfl hExec (by simp)

end Sys2Proof.Machine
end

section
/-!
PROOFS. System instructions, traps and privilege (R132, R134, R137, R176 to R182, R196): what a restricted instruction does at PL1, and
that it raises PRIV at PL0; an access that PL0 may not make raises PRIV_ACCESS.
-/

namespace Sys2Proof.Machine

/-! ### The guards of privilege (R134) -/

theorem State.privOr_of_pl1 {s : State} {t word : Nat} {k : State → State} (h : (s.thr t).pl1 = true) : s.privOr t word k = k s :=
  if_pos h

theorem State.privOr_of_pl0 {s : State} {t word : Nat} {k : State → State} (h : (s.thr t).pl1 = false) :
    s.privOr t word k = s.raiseAt t .priv word :=
  if_neg (by simp [h])

theorem State.upermOr_of_granted {s : State} {t bit word : Nat} {k : State → State}
    (h : ((s.thr t).pl1 || bitAt (s.thr t).uperm bit) = true) : s.upermOr t bit word k = k s :=
  if_pos h

theorem State.upermOr_of_denied {s : State} {t bit word : Nat} {k : State → State} (h0 : (s.thr t).pl1 = false)
    (hBit : bitAt (s.thr t).uperm bit = false) : s.upermOr t bit word k = s.raiseAt t .priv word :=
  if_neg (by simp [h0, hBit])

/-! ### System instructions at PL1 (R132, R155, R177 to R179, R182, R212) -/

theorem State.ReadyPl1.runs_srr {s : State} {t : Nat} (h : s.ReadyPl1 t) (rd : Reg5) {reg : BitVec 12} (hReg : reg.toNat ∈ sysRegs) :
    s.Runs (.srr t rd reg) ((s.sysReg t reg.toNat).2.retireK t (reg.toNat == 7) ((s.thr t).pc + 4) fun th =>
      th.setG rd (s.sysReg t reg.toNat).1) := by
  refine h.1.runs rfl ?_
  dsimp only
  rw [if_neg (not_not.2 hReg), if_neg (by simp [h.2])]

theorem State.ReadyPl1.runs_srw {s : State} {t : Nat} (h : s.ReadyPl1 t) (ra : Reg5) {reg : BitVec 12} (hReg : reg.toNat ∈ sysRegs) :
    s.Runs (.srw t ra reg) ((s.retireK t (reg.toNat == 7) ((s.thr t).pc + 4) fun th =>
      th.setSys reg.toNat (th.greg ra)).settle t) := by
  refine h.1.runs rfl ?_
  dsimp only
  rw [if_neg (not_not.2 hReg), State.privOr_of_pl1 h.2]

/-- Settles O5: at PL1 the guard of each instruction passes. -/
theorem systemInstructions : Obligations.SystemInstructions := by
  intro s t hReady rd ra reg scope th
  refine ⟨fun hReg => ⟨hReady.runs_srr rd hReg, hReady.runs_srw ra hReg⟩, hReady.1.runs rfl (State.privOr_of_pl1 hReady.2),
    hReady.1.runs rfl (State.privOr_of_pl1 hReady.2), hReady.1.runs rfl (State.privOr_of_pl1 hReady.2), hReady.1.runs rfl rfl,
    hReady.1.runs rfl rfl, hReady.1.runs rfl rfl, fun hScope => hReady.1.runs rfl ?_⟩
  exact (if_neg hScope).trans (State.privOr_of_pl1 hReady.2)

/-! ### Traps and CTRRD (R137, R176, R177, R186, R196) -/

theorem State.Ready.runs_illegal {s : State} {t word : Nat} (h : s.Ready t) (hWord : legalWord (word % 2 ^ 32) = false) :
    s.Runs (.illegalInstruction t word) (s.enter t .illegal (word % 2 ^ 32) (s.thr t).pc) :=
  h.runs rfl (if_neg (by rw [hWord]; exact Bool.false_ne_true))

theorem State.Ready.runs_fetchFault {s : State} {t info : Nat} {cls : Cls} (h : s.Ready t)
    (hFault : (s.reach t (s.thr t).pc.toNat .fetch false).1 = .exc cls info) :
    s.Runs (.instructionFetchFault t) ((s.reach t (s.thr t).pc.toNat .fetch false).2.raiseAt t cls info) := by
  refine h.runs rfl ?_
  dsimp only
  split
  · next c i s1 hReach =>
    rw [hReach] at hFault ⊢
    cases hFault
    rfl
  · next pa s1 hReach =>
    rw [hReach] at hFault
    cases hFault

/-- CTRRD of one of the 71 blocks counts itself and gives the counter word, when the block is open to the thread. -/
theorem State.Ready.runs_ctrrd {s : State} {t : Nat} (h : s.Ready t) (rd ra : Reg5)
    (hBlock : bitsAt ((s.thr t).greg ra).toNat 0 7 < 71)
    (hOpen : (s.thr t).pl1 = true ∨ s.flag R.LUM_BLK_CTL_USER (bitsAt ((s.thr t).greg ra).toNat 0 7) = true) :
    s.Runs (.ctrrd t rd ra) ((s.count 68 0x01 1).result t rd (BitVec.ofNat 64
      (s.ctrWord (bitsAt ((s.thr t).greg ra).toNat 0 7) (bitsAt ((s.thr t).greg ra).toNat 7 3) (bitAt ((s.thr t).greg ra).toNat 10)))) := by
  refine h.runs rfl ?_
  dsimp only
  rw [if_neg (Nat.not_le.2 hBlock), if_neg]
  rcases hOpen with hPl1 | hUser
  · simp [hPl1]
  · simp [hUser]

/-- Settles O6: each trap is the issue of an exception entry, and BRK tells a debugger connection first. -/
theorem trapsAndCounterRead : Obligations.TrapsAndCounterRead := by
  intro s t hReady rd ra code word cls info th bp a
  exact ⟨hReady.runs rfl rfl, fun hBp => hReady.runs rfl (if_neg (by simpa using hBp)), fun hBp => hReady.runs rfl (if_pos hBp),
    hReady.runs_illegal, hReady.runs_fetchFault, hReady.runs_ctrrd rd ra⟩

/-! ### Privilege at PL0 (R134) -/

/-- The regions that PL0 may not touch. -/
def privRegions : List Region := [.regSpace, .trie, .pktBuf, .l2, .sysCache, .mac]

theorem State.checkPhys_of_priv {s : State} {t va pa : Nat} {k : AKind} {b : Bool} (hFetch : k ≠ .fetch)
    (hRegion : region s.part pa ∈ privRegions) (h0 : (s.thr t).pl1 = false) :
    s.checkPhys t va pa k b = some (.privAccess, memInfo va k.code 0) := by
  unfold State.checkPhys
  dsimp only
  rw [if_neg hFetch, if_pos]
  simp only [privRegions, List.mem_cons, List.not_mem_nil, or_false] at hRegion
  simp only [h0, Bool.not_false, Bool.and_true, decide_eq_true_eq]
  tauto

/-- A data access at PL0 whose address lies in the register space or the SRAM window is denied. -/
theorem State.reachMem_of_priv {s s1 : State} {t va pa : Nat} {k : AKind} {b : Bool} (hFetch : k ≠ .fetch)
    (hAddr : s.translate t va k = (.pa pa, s1)) (hRegion : region s1.part pa ∈ privRegions) (h0 : (s1.thr t).pl1 = false) :
    s.reachMem t va k b = (.exc .privAccess (memInfo va k.code 0), s1) := by
  have hReach : s.reach t va k b = (.exc .privAccess (memInfo va k.code 0), s1) := by
    rw [State.reach, hAddr]
    dsimp only
    rw [State.checkPhys_of_priv hFetch hRegion h0]
  rw [State.reachMem, hReach]

theorem State.Ready.runs_srr_priv {s : State} {t : Nat} (h : s.Ready t) (h0 : (s.thr t).pl1 = false) (rd : Reg5) {reg : BitVec 12}
    (hReg : reg.toNat ∈ sysRegs) (hClosed : reg.toNat ∉ [0x10, 0x11, 0x12, 7]) :
    s.Runs (.srr t rd reg) (s.raiseAt t .priv (wordI 0x30 rd 0 reg.toNat)) := by
  refine h.runs rfl ?_
  dsimp only
  rw [if_neg (not_not.2 hReg), if_pos]
  simpa [h0] using hClosed

theorem State.Ready.runs_srw_priv {s : State} {t : Nat} (h : s.Ready t) (h0 : (s.thr t).pl1 = false) (ra : Reg5) {reg : BitVec 12}
    (hReg : reg.toNat ∈ sysRegs) :
    s.Runs (.srw t ra reg) (s.raiseAt t .priv (wordI 0x30 0 ra (1 <<< 12 + reg.toNat))) :=
  h.runs rfl ((if_neg (not_not.2 hReg)).trans (State.privOr_of_pl0 h0))

theorem State.Ready.runs_ctrrd_priv {s : State} {t : Nat} (h : s.Ready t) (h0 : (s.thr t).pl1 = false) (rd ra : Reg5)
    (hBlock : bitsAt ((s.thr t).greg ra).toNat 0 7 < 71)
    (hClosed : s.flag R.LUM_BLK_CTL_USER (bitsAt ((s.thr t).greg ra).toNat 0 7) = false) :
    s.Runs (.ctrrd t rd ra) (s.raiseAt t .priv (wordR 0x2E rd ra 0 0)) := by
  refine h.runs rfl ?_
  dsimp only
  rw [if_neg (Nat.not_le.2 hBlock), if_pos (by simp [h0, hClosed])]

/-- Settles O57: each restricted instruction meets its guard first, and each access is denied before it is made. -/
theorem privilegeChecks : Obligations.PrivilegeChecks := by
  intro s t hReady h0 rd ra rb rc reg scope th priv a
  refine ⟨fun hReg => ⟨hReady.runs_srw_priv h0 ra hReg, hReady.runs_srr_priv h0 rd hReg⟩,
    hReady.runs rfl (State.privOr_of_pl0 h0), hReady.runs rfl (State.privOr_of_pl0 h0), hReady.runs rfl (State.privOr_of_pl0 h0),
    fun hScope => hReady.runs rfl ((if_neg hScope).trans (State.privOr_of_pl0 h0)), fun hBit => ?_, fun hBit => ?_, fun hBit => ?_,
    hReady.runs_ctrrd_priv h0 rd ra, ?_⟩
  · exact ⟨hReady.runs rfl (State.upermOr_of_denied h0 hBit), hReady.runs rfl (State.upermOr_of_denied h0 hBit),
      hReady.runs rfl (State.upermOr_of_denied h0 hBit), hReady.runs rfl (State.upermOr_of_denied h0 hBit),
      hReady.runs rfl (State.upermOr_of_denied h0 hBit)⟩
  · exact ⟨hReady.runs rfl (State.upermOr_of_denied h0 hBit), hReady.runs rfl (State.upermOr_of_denied h0 hBit),
      hReady.runs rfl (State.upermOr_of_denied h0 hBit), hReady.runs rfl (State.upermOr_of_denied h0 hBit)⟩
  · exact ⟨hReady.runs rfl (State.upermOr_of_denied h0 hBit), hReady.runs rfl (State.upermOr_of_denied h0 hBit)⟩
  · intro imm w32 pa s1 hRegion h1 va denied
    have hLoad : ∀ {c n sx}, exec c s = .next (s.after (s.load t rd ra imm n sx)) → denied .load va n c :=
      fun hExec hAligned hAddr => State.runs_of_exec hExec
        (hReady.load_of_denied hAligned (State.reachMem_of_priv (by decide) hAddr hRegion h1))
    have hStore : ∀ {c n}, exec c s = .next (s.after (s.store t rd ra imm n)) → denied .store va n c :=
      fun hExec hAligned hAddr => State.runs_of_exec hExec
        (hReady.store_of_denied hAligned (State.reachMem_of_priv (by decide) hAddr hRegion h1))
    refine ⟨hLoad rfl, hLoad rfl, hLoad rfl, hLoad rfl, hLoad rfl, hLoad rfl, hLoad rfl, hStore rfl, hStore rfl, hStore rfl,
      hStore rfl, fun c hc hAligned hAddr => ?_⟩
    obtain ⟨f, hExec⟩ := exec_atom (s := s) hc
    exact State.runs_of_exec hExec (hReady.atom_of_denied hAligned (State.reachMem_of_priv (by decide) hAddr hRegion h1))

end Sys2Proof.Machine
end

section
/-!
PROOFS. Channels and events (R78, R82 to R86, R97 to R107, R157 to R161): each instruction when nothing stands in its way, and what
arrives by itself: events, messages, timers and the ends of leases.
-/

namespace Sys2Proof.Machine

/-! ### Channel instructions (R97 to R107) -/

/-- A command whose meaning is a channel instruction runs to its own effect, when its thread owes no CH_LEASE_LOST (R107). -/
theorem State.ReadyChan.runs {s n : State} {t : Nat} {c : Instr} {k : State → State} (h : s.ReadyChan t)
    (hExec : exec c s = .next (s.after (s.chan t k))) (hEffect : k s = n) : s.Runs c n :=
  State.runs_of_exec hExec ((h.chan k).trans hEffect)

/-- Settles O7: each instruction passes its refusals in turn. -/
theorem channelInstructions : Obligations.ChannelInstructions := by
  intro s t hReady rd ra rb k
  dsimp only
  refine ⟨fun hRoom => hReady.runs rfl (if_pos hRoom), ?_, ?_, hReady.runs rfl rfl, hReady.runs rfl rfl⟩
  · rintro ⟨hOpen, hAdmits⟩ hStaged hResv hRoom
    refine hReady.runs rfl ?_
    dsimp only
    rw [if_neg (by simp [hOpen]), if_neg (by simp [hAdmits]), if_neg (by simpa using hStaged), hResv, if_neg Bool.false_ne_true,
      if_neg (by omega)]
  · rintro ⟨hOpen, hAdmits⟩ hResv hSome hMost hRoom
    refine hReady.runs rfl ?_
    dsimp only
    rw [if_neg (by simp [hOpen]), if_neg (by simp [hAdmits]), if_neg (by simp [hResv]), if_neg (by omega)]

/-- Settles O8: the channel is open, the thread is its reader, and the first slot that is not void is visible. -/
theorem channelReceive : Obligations.ChannelReceive := by
  intro s t hReady rd ra sl r
  dsimp only
  intro hOpen hReader hSlots hVisible
  refine hReady.runs rfl ?_
  dsimp only
  rw [if_neg (by simp [hOpen]), if_neg (not_not.2 hReader), hSlots]
  exact if_pos hVisible

/-! ### Event instructions (R82, R85, R161) -/

/-- Settles O9: EVSEND passes its two refusals, and WAIT tells a hit from none. -/
theorem eventInstructions : Obligations.EventInstructions := by
  intro s t hReady rd ra rb
  dsimp only
  refine ⟨fun hTarget hBound hAdmits => ?_, hReady.runs rfl rfl, fun hHit => hReady.runs rfl (if_pos hHit), fun hMiss hStep => ?_⟩
  · refine hReady.runs rfl ?_
    dsimp only
    rw [if_neg (by rw [hBound]; omega), if_neg (by simp [hAdmits])]
  · refine hReady.runs rfl ?_
    dsimp only
    rw [if_neg (not_not.2 hMiss), if_neg (by simp [hStep])]

/-! ### What arrives by itself (R78, R83, R100, R105, R106) -/

/-- Settles O10: each event's moment has come, which is its command's guard. -/
theorem eventsAndLeases : Obligations.EventsAndLeases := by
  intro s t ev chan
  refine ⟨fun hThread hInput hFlight => ?_, fun hFlight => ?_, fun hSet hDue => ?_, fun r hResv hDue => ?_⟩
  · exact State.runs_of_exec rfl ((if_pos ⟨hThread, hInput⟩).trans (if_pos hFlight))
  · exact State.runs_of_exec rfl (if_pos (by simpa using hFlight))
  · exact State.runs_of_exec rfl (if_pos ⟨hSet, hDue⟩)
  · refine State.runs_of_exec rfl ?_
    rw [doLeaseExpire, hResv]
    exact if_pos hDue

/-! ### Interrupts, halts and breakpoints (R92, R93, R110, R122, R123, R185) -/

/-- Settles O11: the writer reaches the registers, and the thread stands where the halt or the interrupt may take it. -/
theorem interruptsAndHalts : Obligations.InterruptsAndHalts := by
  intro s w t cl k core val hReaches hOwn
  dsimp only
  refine ⟨fun hCl hk => ?_, fun hCl hk => State.runs_of_exec rfl (if_pos ⟨hCl, hk, hReaches _⟩), ?_,
    fun hCore => State.runs_of_exec rfl (if_pos ⟨hCore, hReaches _⟩), ?_,
    fun hIssue hMatch hStep => State.runs_of_exec rfl (if_pos ⟨hIssue, hMatch, hStep⟩)⟩
  · refine State.runs_of_exec rfl (if_pos ⟨hCl, hk, ?_, hReaches _⟩)
    cases w with
    | thread u => exact decide_eq_true (hOwn u rfl)
    | _ => rfl
  · rintro ⟨hThread, hState, hBoundary⟩ hLives hIrq hHalt hBp
    refine State.runs_of_exec rfl ((if_pos ⟨hThread, hState, hBoundary, hLives, hIrq⟩).trans ?_)
    rw [hHalt, hBp, if_neg Bool.false_ne_true, if_neg (by simp)]
  · rintro ⟨hThread, hState, hBoundary⟩ hHalt
    exact State.runs_of_exec rfl (if_pos ⟨hThread, hHalt, hState, hBoundary⟩)

/-! ### Heartbeats and ECLIPSE (R112, R114, R118) -/

/-- Settles O12: the period has ended, or the census stands while its core or group is armed. -/
theorem heartbeatAndEclipse : Obligations.HeartbeatAndEclipse := by
  intro s core cl g
  refine ⟨fun hCore hReaches => State.runs_of_exec rfl (if_pos ⟨hCore, rfl, hReaches⟩), fun b hStart hDue => ?_,
    fun hCore hCensus hArmed => State.runs_of_exec rfl (if_pos ⟨hCore, hCensus, hArmed⟩),
    fun hCl hg hCensus hArmed => State.runs_of_exec rfl (if_pos ⟨hCl, hg, hCensus, hArmed⟩)⟩
  refine State.runs_of_exec rfl ?_
  rw [doHeartbeatTimeout, hStart]
  exact if_pos hDue

/-! ### Control of groups, channels and threads (R96, R97, R117, R120 to R124, R133) -/

theorem State.debugOr_of_holds {s : State} {w : Writer} {off : Nat} {k : State → State} (hReaches : s.Reaches w)
    (hDebug : s.holds w .debug = true) : s.debugOr w off k = k s :=
  (if_pos (hReaches off)).trans (if_pos hDebug)

/-- DBGDATA of a halted thread whose DBGSEL names a general register writes that register (R124). -/
theorem doDbgdataWrite_greg {s : State} {w : Writer} {t : Nat} {val : Nat} (hThread : t < 768) (hReaches : s.Reaches w)
    (hDebug : s.holds w .debug = true) {n : Reg5} (hSel : s.rd R.LTN_THR_DBGSEL_SEL t = n.val) (hHalt : (s.thr t).st = .halt) :
    doDbgdataWrite w t val s = s.setThr t ((s.thr t).setG n (BitVec.ofNat 64 val)) := by
  rw [doDbgdataWrite, if_pos hThread, State.debugOr_of_holds hReaches hDebug]
  simp [hSel, hHalt]

/-- Settles O13: the writer reaches the registers and has the right, which each control register asks for. -/
theorem threadAndChannelControl : Obligations.ThreadAndChannelControl := by
  intro s w t cl g chan core val hReaches hThread hCore hChan
  dsimp only
  refine ⟨fun hCl hg hOff => ⟨?_, ?_⟩, fun hOff hGood => ?_, fun hOn => State.runs_of_exec rfl (if_pos ⟨hChan, hReaches _, hOn⟩),
    fun hControl => ⟨State.runs_of_exec rfl (if_pos ⟨hThread, hControl⟩), fun hSlot => ⟨?_, ?_⟩⟩, fun hDebug => ⟨?_, ?_, ?_, ?_⟩⟩
  · refine State.runs_of_exec rfl ((if_pos ⟨hCl, hg, hReaches _⟩).trans ?_)
    rw [if_pos rfl, if_neg (by simp [hOff])]
  · refine State.runs_of_exec rfl ((if_pos ⟨hCl, hg, hReaches _⟩).trans ?_)
    rw [if_neg Bool.false_ne_true]
    dsimp only
    rw [if_neg (by simp [hOff])]
  · refine State.runs_of_exec rfl ((if_pos ⟨hChan, hReaches _, hOff⟩).trans ?_)
    exact if_neg (by simp [hGood])
  · refine State.runs_of_exec rfl ((if_pos ⟨hThread, hControl⟩).trans ?_)
    rw [if_neg hSlot]
    exact if_neg Bool.false_ne_true
  · refine State.runs_of_exec rfl ((if_pos ⟨hThread, hControl⟩).trans ?_)
    rw [if_neg hSlot]
    exact if_pos rfl
  · exact State.runs_of_exec rfl ((if_pos hCore).trans (State.debugOr_of_holds hReaches hDebug))
  · exact State.runs_of_exec rfl ((if_pos hCore).trans (State.debugOr_of_holds hReaches hDebug))
  · exact State.runs_of_exec rfl ((if_pos hCore).trans (State.debugOr_of_holds hReaches hDebug))
  · exact fun n hSel hHalt => State.runs_of_exec rfl (doDbgdataWrite_greg hThread hReaches hDebug hSel hHalt)

end Sys2Proof.Machine
end

section
/-!
PROOFS. The instructions that use a unit (R134): TLOOK (R162 to R164, R280, R295, R329), CRYPT (R165 to R167), DMAQ and DMAACK (R168 to
R174); and the block instructions (R189 to R195).
-/

namespace Sys2Proof.Machine

/-- A command whose meaning is the issue of an instruction of a granted unit runs to that instruction's own effect (R134). -/
theorem State.ReadyUnit.runs {s n : State} {t bit word : Nat} {c : Instr} {k : State → State} (h : s.ReadyUnit t bit)
    (hExec : exec c s = .next (s.after (s.issue t fun s => s.upermOr t bit word k))) (hEffect : k s = n) : s.Runs c n :=
  h.1.runs hExec ((State.upermOr_of_granted h.2).trans hEffect)

/-! ### TLOOK -/

theorem State.lookLpm_of_hit {s : State} {t vrf addr w nh plen : Nat} (rd : Reg5) (h : lpm s vrf addr w = .hit nh plen) :
    s.lookLpm t rd vrf addr w = s.look t rd .hit (nh * 2 ^ 8 + plen * 2 ^ 26) := by
  rw [State.lookLpm, h]

/-- A key block in HBM that is reached and good is what the look-up goes on with (R162). -/
theorem State.keyBlock_of_good {s s1 : State} {t va n pa : Nat} {k : State → Bytes → State} (hAligned : va % n = 0)
    (hReach : s.reach t va .load false = (.pa pa, s1)) (hHbm : region s1.part pa = .hbm) (hGood : s1.badRange pa n = false) :
    s.keyBlock t va n k = k s1 (s1.bytes pa n) := by
  rw [State.keyBlock, if_neg (not_not.2 hAligned), hReach]
  dsimp only
  rw [if_neg (not_not.2 hHbm), if_neg (by simp [hGood])]

/-- Settles O17: each look-up answers by what its table finds. -/
theorem lookupResults : Obligations.LookupResults := by
  intro s t hReady rd ra rb rc
  dsimp only
  refine ⟨fun nh plen hHit => hReady.runs rfl (State.lookLpm_of_hit rd hHit),
    fun nh plen hHit => hReady.runs rfl (State.lookLpm_of_hit rd hHit), ?_, ?_, ?_, ?_⟩
  · rintro s1 i rfl hFind
    refine hReady.runs rfl ?_
    dsimp only
    rw [hFind]
  · rintro s1 i rfl hFind rfl
    refine hReady.runs rfl ?_
    dsimp only
    rw [hFind]
  · rintro pa s1 hAligned hReach hHbm hGood hOn hTab s2 i rfl hFind
    refine hReady.runs rfl ((State.keyBlock_of_good hAligned hReach hHbm hGood).trans ?_)
    rw [← hTab] at hFind ⊢
    dsimp only
    rw [if_neg (by simp [hOn]), hFind]
  · rintro pa s1 hAligned hReach hHbm hGood hProf hOn hHold bk row s2 hSearch
    refine hReady.runs rfl ((State.keyBlock_of_good hAligned hReach hHbm hGood).trans ?_)
    dsimp only
    rw [if_neg (by simp [hOn, hProf]), if_neg (by simp [hHold]), hSearch]

/-! ### CRYPT -/

/-- The three addresses are aligned and reached, and both blocks are read: the block is processed (R166). -/
theorem State.aesRun_of_read {s s1 : State} {t : Nat} {rd ra rb rc : Reg5} {dec : Bool} {accs : List MemAcc} {inp lab : Bytes}
    (hAligned : firstFault (misaligned (aesAccs (s.thr t) ra rb rc)) = none)
    (hReach : s.reachAll t false (aesAccs (s.thr t) ra rb rc) = ([], accs, s1))
    (hRead : s1.gather (accs.filter fun a => a.kind == .load) (s.thr t).lensIn = .all [inp, lab]) :
    s.aesRun t rd ra rb rc dec = s1.aesOne t rd dec (accs.getD 1 ⟨0, 0, .store, 0, 0⟩).pa inp lab := by
  rw [State.aesRun]
  dsimp only
  rw [hAligned, hReach]
  dsimp only [firstFault]
  rw [hRead]
  rfl

/-- A cluster serves, the label is good and grants the key: the output is written and the status is 0 (R166, R370, R371). -/
theorem State.aesOne_of_granted {s s2 : State} {t out c : Nat} {rd : Reg5} {dec : Bool} {inp lab : Bytes}
    (hCluster : s.chooseCluster = (some c, s2)) (hLabel : labelGood lab = true) (hAlg : algBlock (labelAlg lab) = true)
    (hGrant : s2.granted (labelSlot lab) (.crypt (s.thr t).pl1) = true) :
    s.aesOne t rd dec out inp lab =
      (((s2.takeKey c lab ((s.thr t).dmactx.toNat % 2 ^ 12)).2.storeAt t out
          (if dec then aesDec (keyOf (labelAlg lab) (s2.takeKey c lab ((s.thr t).dmactx.toNat % 2 ^ 12)).1) inp
            else aesEnc (keyOf (labelAlg lab) (s2.takeKey c lab ((s.thr t).dmactx.toNat % 2 ^ 12)).1) inp)).modThr t fun th =>
        { th with blk := none, lensIn := [] }).result t rd 0 := by
  rw [State.aesOne, hCluster]
  dsimp only
  rw [if_neg (by simp [hLabel, hAlg, hGrant])]
  rfl

/-- CRYPT JOB submits the descriptor that it has read (R167). -/
theorem State.jobRun_of_read {s s1 : State} {t : Nat} {rd ra rb rc : Reg5} {accs : List MemAcc} {d : List Bytes}
    (hReach : s.reachAll t false (pageAccs ((s.thr t).greg ra).toNat 64 .load) = ([], accs, s1))
    (hRead : s1.gather accs (s.thr t).lensIn = .all d) :
    s.jobRun t rd ra rb rc = s1.jobSubmit t rd rb rc d.flatten := by
  rw [State.jobRun]
  rw [hReach]
  dsimp only [firstFault]
  rw [hRead]

/-- Settles O18: the reads of the instruction have come and nothing refuses it. -/
theorem cryptResults : Obligations.CryptResults := by
  intro s t hReady rd ra rb rc accs s1
  dsimp only
  refine ⟨fun hAligned hReach inp lab c s2 hRead hCluster hLabel hAlg hGrant => ?_, fun hSeeded => ?_,
    fun d hReach hRead => hReady.runs rfl (State.jobRun_of_read hReach hRead)⟩
  · have hBlock : ∀ dec, s.aesRun t rd ra rb rc dec = _ := fun dec =>
      (State.aesRun_of_read hAligned hReach hRead).trans (State.aesOne_of_granted hCluster hLabel hAlg hGrant)
    exact ⟨hReady.runs rfl (hBlock false), hReady.runs rfl (hBlock true)⟩
  · refine hReady.runs rfl ?_
    dsimp only
    rw [if_neg (by simp [hSeeded])]

/-! ### DMAQ and DMAACK -/

/-- Settles O19: the ring takes the submission, or has as many entries as are acknowledged. -/
theorem ringSubmission : Obligations.RingSubmission := by
  intro s t hReady rd ra rb rc
  dsimp only
  refine ⟨fun hLen hCtl hRing hBme => ?_, fun hOwner hSome hMost => ?_⟩
  · refine hReady.runs rfl ?_
    dsimp only
    rw [if_neg (by tauto), hRing]
    have hLost : (bitAt ((s.thr t).greg rc).toNat 25 && !(s.fcfg (bitsAt (s.thr t).dmactx.toNat 0 12)).bme) = false := by
      cases hHost : bitAt ((s.thr t).greg rc).toNat 25
      · rfl
      · simp [hBme hHost]
    simp only [hLost, Bool.false_eq_true, if_false]
  · refine hReady.runs rfl ?_
    dsimp only
    rw [if_neg (not_not.2 hOwner), if_neg (by omega)]

/-! ### Block instructions -/

/-- A block instruction whose record fits its operands begins, or ends where all is done (R189, R190). -/
theorem State.Ready.blkIssue_of_fits {s : State} {t q : Nat} {ra rb rc : Reg5} (h : s.Ready t) (rd : Reg5)
    (hDone : ((s.thr t).blkOps ra rb rc).done ≤ ((s.thr t).blkOps ra rb rc).n)
    (hAcc : q ≠ 3 → ((s.thr t).blkOps ra rb rc).acc = 0) :
    s.blkIssue t q rd ra rb rc =
      if ((s.thr t).blkOps ra rb rc).done = ((s.thr t).blkOps ra rb rc).n then
        s.blkEnd t rd (blkResult q ((s.thr t).blkOps ra rb rc).n ((s.thr t).blkOps ra rb rc).crc)
      else s.modThr t fun th => { th with blk := some (q, rd, ra, rb, rc), lensIn := [] } := by
  rw [State.blkIssue, h.issue]
  refine if_neg ?_
  rintro (hOver | ⟨hUsed, hOp⟩)
  · omega
  · exact hUsed (hAcc hOp)

/-- A step whose ranges are reached and read, and that finds no difference, writes and advances (R191, R195). -/
theorem State.blkStep_of_read {s s1 : State} {t q : Nat} {rd ra rb rc : Reg5} {accs : List MemAcc} {l : List Bytes}
    (hReach : s.reachAll t true (((s.thr t).blkOps ra rb rc).accs q) = ([], accs, s1))
    (hRead : s1.gather (accs.filter fun a => a.kind == .load) (s.thr t).lensIn = .all l)
    (hSame : q ≠ 2 ∨ firstDiff (((s.thr t).blkOps ra rb rc).step q).2 l.flatten = none) :
    s.blkStep t q rd ra rb rc =
      (s1.storeAccs t (accs.filter fun a => a.kind == .store) (((s.thr t).blkOps ra rb rc).written q l.flatten)).blkNext t q rd
        ((s.thr t).blkOps ra rb rc).n (((s.thr t).blkOps ra rb rc).done + (((s.thr t).blkOps ra rb rc).step q).2)
        (if q = 3 then crcRun crc32cPoly ((s.thr t).blkOps ra rb rc).crc l.flatten else 0) := by
  have hDiff : (if q = 2 then firstDiff (((s.thr t).blkOps ra rb rc).step q).2 l.flatten else none) = none := by
    split
    · exact hSame.resolve_left (not_not.2 ‹_›)
    · rfl
  rw [State.blkStep]
  dsimp only
  rw [hReach]
  dsimp only [firstFault]
  rw [hRead]
  dsimp only
  rw [hDiff]

/-- Settles O20: an issue goes by the record, a step by what it reads. -/
theorem blockInstructions : Obligations.BlockInstructions := by
  intro s t rd ra rb rc
  dsimp only
  refine ⟨fun hReady hDone => ?_, fun q accs s1 l hThread hRun hLens hLives hBlk hOp hReach hRead hSame => ?_⟩
  · have hBegins : ∀ {c q}, exec c s = .next (s.after (s.blkIssue t q rd ra rb rc)) →
        (q ≠ 3 → ((s.thr t).blkOps ra rb rc).acc = 0) →
        (((s.thr t).blkOps ra rb rc).done ≠ ((s.thr t).blkOps ra rb rc).n →
          s.Runs c (s.modThr t fun th => { th with blk := some (q, rd, ra, rb, rc), lensIn := [] }))
        ∧ (((s.thr t).blkOps ra rb rc).done = ((s.thr t).blkOps ra rb rc).n →
          s.Runs c (s.blkEnd t rd (blkResult q ((s.thr t).blkOps ra rb rc).n ((s.thr t).blkOps ra rb rc).crc))) :=
      fun hExec hAcc =>
        ⟨fun hMore => State.runs_of_exec hExec ((hReady.blkIssue_of_fits rd hDone hAcc).trans (if_neg hMore)),
          fun hEnd => State.runs_of_exec hExec ((hReady.blkIssue_of_fits rd hDone hAcc).trans (if_pos hEnd))⟩
    exact ⟨hBegins rfl, hBegins rfl, hBegins rfl, hBegins rfl⟩
  · refine State.runs_of_exec rfl (Eq.trans ?_ (State.blkStep_of_read hReach hRead hSame))
    rw [doBlockStepDone]
    rw [if_neg (by simp [hRun, hLens, hLives]; omega), hBlk]
    exact if_pos hOp

end Sys2Proof.Machine
end

section
/-!
PROOFS. The fabric: links, packets, the coordinator, routes and windows.
-/
namespace Sys2Proof.Machine

/-! ### Links -/

/-- A good PAYLOAD flit that was awaited: its credit and its acknowledgement are taken, then its packets in order (R553, R557). -/
theorem doFlitReceive_of_awaited {s s1 : State} {p : Nat} {f : Flit} (hLit : s.portLit p = true) (hGood : f.good = true)
    (hNak : f.nak = false) (hType : f.ftype = 0)
    (hTaken : ((s.countPort p 0x02 1).takeCredit p (f.cvc % 4) f.cred).modFport p
      (fun x => { x with unack := dropAcked f.ack x.unack }) = s1)
    (hSeq : f.seq = (s1.fport p).expect) :
    doFlitReceive p f s = f.pkts.foldl (fun s b => s.takePacket p b)
      (s1.modFport p fun x => { x with expect := (x.expect + 1) % 4096, nakAt := none }) := by
  rw [doFlitReceive, hLit, hGood, hNak, hType]
  rw [if_neg (by decide)]
  dsimp only
  rw [if_neg (by decide), if_neg Bool.false_ne_true, hTaken]
  exact if_pos hSeq

/-- A bad flit is counted and answered (R556). -/
theorem doFlitReceive_of_bad {s : State} {p : Nat} {f : Flit} (hLit : s.portLit p = true) (hGood : f.good = false) :
    doFlitReceive p f s = (s.countPort p 0x02 1).badFlit p := by
  rw [doFlitReceive, hLit, hGood]
  exact (if_neg Bool.false_ne_true).trans (if_pos rfl)

/-- The packet that the port chooses starts as it is where no carry check mismatches (R561, R565). -/
theorem doFabricPacketSend_of_next {s : State} {p v : Nat} {o : FOut} {rest : List FOut} (hLit : s.portLit p = true)
    (hNext : s.nextVc p = some v) (hOuts : (s.fport p).outs v = o :: rest)
    (hRoom : (s.fport p).unack.length + (o.pkt.size + 471) / 236 ≤ 2048) :
    doFabricPacketSend p [] s = s.startPacket p v o rest := by
  rw [doFabricPacketSend, hLit, hNext]
  rw [if_neg (by decide)]
  dsimp only
  rw [hOuts]
  exact if_neg (by omega)

/-- Settles O21: each event finds its port in the state that its rule names. -/
theorem fabricLinks : Obligations.FabricLinks := by
  intro s p vc hp
  dsimp only
  refine ⟨fun peer shares hTrain hWidth => ?_, fun hTrain hSince => State.runs_of_exec rfl (if_pos ⟨hp, hTrain, hSince⟩),
    fun hLit => State.runs_of_exec rfl (if_pos hLit),
    fun hDown hPort hBeacon hOk => State.runs_of_exec rfl (if_pos ⟨hp, hDown, hPort, hBeacon, hOk⟩),
    fun f hLit hGood hNak hType hSeq => State.runs_of_exec rfl (doFlitReceive_of_awaited hLit hGood hNak hType rfl hSeq),
    fun f hLit hGood => State.runs_of_exec rfl (doFlitReceive_of_bad hLit hGood), fun t hNak hLit hDue => ?_,
    fun f r hUnack hLit hDue => ?_,
    fun v o rest hLit hNext hOuts hRoom => State.runs_of_exec rfl (doFabricPacketSend_of_next hLit hNext hOuts hRoom),
    fun t hEmpty hUp hTold hDue => ?_, fun lane hLane hOk hLit => ⟨fun hw => ?_, fun hw => ?_⟩⟩
  · exact State.runs_of_exec rfl ((if_neg (by omega)).trans (if_neg hWidth))
  · refine State.runs_of_exec rfl ?_
    rw [doNakResendTimer, hNak]
    exact if_pos ⟨hLit, hDue⟩
  · refine State.runs_of_exec rfl ?_
    rw [doReplayTimeout, hUnack]
    exact if_pos ⟨hLit, hDue⟩
  · refine State.runs_of_exec rfl ?_
    rw [doCreditStall, hEmpty]
    exact if_pos ⟨hUp, hTold, hDue⟩
  all_goals
    refine State.runs_of_exec rfl ((if_neg (by simp [hOk]; omega)).trans ((if_neg (by simp [hLit])).trans ?_))
  · exact if_pos hw
  · exact if_neg hw

/-! ### Packets -/

/-- A response of its own kind for this node ends the request of its tag, or is late (R570). -/
theorem State.takeResponse_of_take {s s1 : State} {p ty : Nat} {i : FIn} {e : FPkt → FEnd}
    (hTake : s.takeIn p 1 = some (i, s1)) (hType : i.pkt.ptype = ty) (hHere : i.pkt.dst = s.node) :
    s.takeResponse p ty e = if (KMap.find s1.fab.reqs i.pkt.tag).isNone then s1.sat R.BCN_CNT_LATE_RSP 0 1
      else s1.endReq i.pkt.tag (e i.pkt) := by
  rw [State.takeResponse, hTake]
  dsimp only
  rw [if_neg (by simp [hType, hHere])]

/-- The two ends of a response command (R570). -/
theorem State.runs_of_takeResponse {s s1 : State} {p ty : Nat} {i : FIn} {c : Instr} {e : FPkt → FEnd}
    (hExec : exec c s = .next (s.after (s.takeResponse p ty e)))
    (hTake : s.takeIn p 1 = some (i, s1)) (hType : i.pkt.ptype = ty) (hHere : i.pkt.dst = s.node) :
    ((KMap.find s1.fab.reqs i.pkt.tag).isSome = true → s.Runs c (s1.endReq i.pkt.tag (e i.pkt)))
    ∧ (KMap.find s1.fab.reqs i.pkt.tag = none → s.Runs c (s1.sat R.BCN_CNT_LATE_RSP 0 1)) := by
  have hTaken := State.takeResponse_of_take (e := e) hTake hType hHere
  exact ⟨fun hSome => State.runs_of_exec hExec (hTaken.trans (if_neg (by simp [Option.isSome_iff_ne_none.1 hSome]))),
    fun hNone => State.runs_of_exec hExec (hTaken.trans (if_pos (by rw [hNone]; rfl)))⟩

/-- Settles O22: the oldest packet of its channel is taken, and judged in the order of the rules. -/
theorem fabricPackets : Obligations.FabricPackets := by
  intro s s1 p vc i
  dsimp only
  refine ⟨fun hTake hVc hElse q hRoute => ?_, fun hTake hType hHere => ?_, fun hTake hType hHere hNode => ?_,
    State.runs_of_takeResponse (e := fun f => .data f.data f.poison) rfl, State.runs_of_takeResponse (e := fun _ => .acked) rfl,
    State.runs_of_takeResponse (e := fun f => .nak f.reason) rfl,
    fun g s2 hTake hHere hPoison hFrame => ?_, fun tag q hReq hDue => ?_⟩
  · refine State.runs_of_exec rfl ?_
    rw [doFabricTransit, hTake]
    dsimp only
    rw [if_neg (by tauto), hRoute]
  · refine ⟨fun hNode => ?_, fun a hNode hWindow => ?_, fun hNode hWindow => ?_⟩
    all_goals
      refine State.runs_of_exec rfl ?_
      rw [doFabricRead, hTake]
      dsimp only
      rw [if_neg (by simp [hType, hHere])]
    · rw [if_pos (by simp [hNode])]
    all_goals rw [if_neg (by simp [hNode]), hWindow]
  · refine ⟨fun hPoison => ?_, fun a hPoison hWindow => ?_⟩
    all_goals
      refine State.runs_of_exec rfl ?_
      rw [doFabricWrite, hTake]
      dsimp only
      rw [if_neg (by simp [hType, hHere]), if_neg (by simp [hNode])]
    · rw [if_pos hPoison]
    · rw [if_neg (not_not.2 hPoison), hWindow]
  · refine State.runs_of_exec rfl ?_
    rw [doFabricFrame, hTake]
    dsimp only
    rw [if_neg (not_not.2 hHere), if_neg (not_not.2 hPoison), hFrame]
  · refine State.runs_of_exec rfl ?_
    rw [doFabricReqTimeout, hReq]
    exact if_pos hDue

/-! ### The coordinator -/

/-- A management packet that waits is taken (log entry 40). -/
theorem State.takeMgmt_of_take {s s1 : State} {p : Nat} {i : FIn} {k : FPkt → State → State}
    (hTake : s.takeIn p 3 = some (i, s1)) : s.takeMgmt p k = k i.pkt s1 := by
  rw [State.takeMgmt, hTake]

/-- At an UP port a command that takes a management packet does what it does with the packet. -/
theorem State.mgmt_of_up {s s1 : State} {p : Nat} {i : FIn} {k : FPkt → State → State}
    (hUp : s.portUp p = true) (hTake : s.takeIn p 3 = some (i, s1)) :
    (if !s.portUp p then s else s.takeMgmt p k) = k i.pkt s1 := by
  rw [if_neg (by simp [hUp]), State.takeMgmt_of_take hTake]

/-- Settles O23: the timers have passed, and the management packets wait at their port. -/
theorem fabricCoordinator : Obligations.FabricCoordinator := by
  intro s s1 p i
  dsimp only
  refine ⟨fun hLit hChanged => ?_, fun h hLit hTake => ?_,
    fun hEn hNone hCand hDue => State.runs_of_exec rfl (if_pos ⟨hEn, hNone, hCand, hDue⟩),
    fun hCoord hDue => State.runs_of_exec rfl (if_pos ⟨hCoord, hDue⟩), fun term prio serial seq hMgmt => ?_,
    fun hKnown hOther hDue => State.runs_of_exec rfl (if_pos ⟨hKnown, hOther, hDue⟩),
    fun serial pref reg path hMgmt hCoord => ?_, fun serial id q rest hMgmt => ?_, fun n hMgmt => ?_,
    fun t hRefused hDue => ?_, fun id g t hGrant hGone hDue => ?_⟩
  · exact State.runs_of_exec rfl ((if_neg (by simp [hLit])).trans (if_pos hChanged))
  · exact State.runs_of_exec rfl ((if_neg (by simp [hLit])).trans (State.takeMgmt_of_take hTake))
  · exact State.runs_of_exec rfl (State.mgmt_of_up hMgmt.1 hMgmt.2)
  · exact State.runs_of_exec rfl ((State.mgmt_of_up hMgmt.1 hMgmt.2).trans (if_pos hCoord))
  · exact State.runs_of_exec rfl (State.mgmt_of_up hMgmt.1 hMgmt.2)
  · exact State.runs_of_exec rfl ((State.mgmt_of_up hMgmt.1 hMgmt.2).trans (if_neg (not_not.2 rfl)))
  · refine State.runs_of_exec rfl ?_
    rw [doNodeIdRetry, hRefused]
    exact if_pos hDue
  · refine State.runs_of_exec rfl ?_
    rw [doNodeIdHoldExpire, hGrant]
    dsimp only
    rw [hGone]
    exact if_pos hDue

/-! ### Routes and windows -/

/-- Settles O24: each guard holds. -/
theorem routesAndWindows : Obligations.RoutesAndWindows := by
  intro s
  dsimp only
  exact ⟨fun hDue => State.runs_of_exec rfl (if_pos hDue),
    fun p i s1 first dn any hUp hTake => State.runs_of_exec rfl (State.mgmt_of_up hUp hTake),
    fun w d val hReaches hd => State.runs_of_exec rfl (if_pos ⟨hd, hReaches _⟩),
    fun w hReaches => ⟨State.runs_of_exec rfl (if_pos (hReaches _)), State.runs_of_exec rfl (if_pos (hReaches _))⟩,
    fun hOpen => ⟨fun hNone => State.runs_of_exec rfl (if_pos ⟨hOpen, hNone⟩),
      fun hDue => State.runs_of_exec rfl (if_pos ⟨hOpen, hDue⟩)⟩,
    fun hOpen hNone => State.runs_of_exec rfl (if_pos ⟨hOpen, hNone⟩)⟩

end Sys2Proof.Machine
end

section
/-!
PROOFS. Lumen, forwarding, the learn engines and Prism.
-/
namespace Sys2Proof.Machine

/-! ### Lumen -/

/-- Settles O25: the instants have come, and the writer reaches the registers. -/
theorem lumenCommands : Obligations.LumenCommands := by
  intro s w hReaches
  dsimp only
  refine ⟨State.runs_of_exec rfl (if_pos (hReaches _)), fun hPeriod hDue hBusy => ?_, fun a hSnap hDue => ?_, fun a hTaken => ?_,
    fun b hb => State.runs_of_exec rfl (if_pos ⟨hb, hReaches _⟩), fun f => State.runs_of_exec rfl (if_pos (hReaches _)),
    State.runs_of_exec rfl (if_pos (hReaches _)), fun i hi => State.runs_of_exec rfl (if_pos hi)⟩
  · exact State.runs_of_exec rfl ((if_pos ⟨hPeriod, hDue⟩).trans (if_neg (by simp [hBusy])))
  · refine State.runs_of_exec rfl ?_
    rw [doSnapshotTake, hSnap]
    exact if_pos hDue
  · refine State.runs_of_exec rfl ?_
    rw [doSnapshotDone, hTaken]

/-! ### Forwarding -/

/-- Settles O26: the decision goes by what forwarding finds, the others by the guards of their rules. -/
theorem forwardingCommands : Obligations.ForwardingCommands := by
  intro s w p hReaches
  dsimp only
  refine ⟨fun f r hActed g d s1 hForward => ?_, State.runs_of_exec rfl (if_pos (hReaches _)),
    fun hDrain => State.runs_of_exec rfl (if_pos hDrain),
    fun val => ⟨State.runs_of_exec rfl (if_pos (hReaches _)), State.runs_of_exec rfl (if_pos (hReaches _))⟩,
    fun k n hOp hEnd hChain => ?_, fun st r hChain => ?_, fun st r hChain hCmd => ?_⟩
  · refine ⟨?_, ?_, ?_, ?_, ?_⟩
    all_goals
      intros
      subst d
      refine State.runs_of_exec rfl ?_
      rw [doForwardDecision]
      dsimp only
      rw [hActed]
      dsimp only
      rw [hForward]
  · refine State.runs_of_exec rfl ?_
    rw [doFlowBatchDone, hOp]
    exact if_pos ⟨hEnd, hChain⟩
  · refine State.runs_of_exec rfl ?_
    rw [doCuckooRelocate]
    dsimp only
    rw [hChain]
  · refine State.runs_of_exec rfl ?_
    rw [doCuckooRelocate]
    dsimp only
    rw [hChain, hCmd]
    exact if_neg Bool.false_ne_true

/-! ### The learn engines -/

/-- The command at the front of the queue of a free engine runs when its OP is asked for (R324). -/
theorem State.macRun_of_front {s : State} {p op d : Nat} {r : List LearnItem} {k : State → Nat → State}
    (hFree : (s.learnEng p).chain = []) (hFront : (s.learnEng p).queue = .cmd op d :: r) :
    s.macRun p op k = k (s.setLearn p { s.learnEng p with queue := r }) d := by
  rw [State.macRun]
  dsimp only
  rw [if_pos hFree, hFront]
  exact if_pos rfl

/-- Settles O27: the engine is free, and what its rule names stands at the front. -/
theorem learnCommands : Obligations.LearnCommands := by
  intro s p
  refine ⟨fun key kind dest r hFree hFront => ?_, fun hp hDue hFree => State.runs_of_exec rfl (if_pos ⟨hp, hDue, hFree⟩),
    fun hp hDue => State.runs_of_exec rfl (if_pos ⟨hp, hDue⟩),
    fun w val hReaches hp => State.runs_of_exec rfl (if_pos ⟨hp, hReaches _⟩), fun o d r hFree hFront => ?_⟩
  · refine State.runs_of_exec rfl ?_
    rw [doLearnApply]
    rw [if_pos hFree, hFront]
  · refine ⟨?_, ?_, ?_, ?_, ?_, ?_, ?_⟩
    · rintro rfl
      exact State.runs_of_exec rfl (State.macRun_of_front hFree hFront)
    · rintro rfl hKind
      exact State.runs_of_exec rfl ((State.macRun_of_front hFree hFront).trans (if_pos hKind))
    · rintro i rfl hSome hLow hFind
      refine State.runs_of_exec rfl ((State.macRun_of_front hFree hFront).trans ?_)
      rw [if_neg (by omega)]
      dsimp only
      rw [hFind]
    all_goals
      intros
      subst o
      refine State.runs_of_exec rfl ((State.macRun_of_front hFree hFront).trans ?_)
    · dsimp only
      rw [‹State.cFind _ _ _ = _›]
    · dsimp only
      rw [‹State.cFind _ _ _ = _›]
    · rfl
    · rfl

/-! ### Prism -/

/-- A frame that is neither truncated nor in length conflict is parsed and waits for its search (R243, R247). -/
theorem doPrismParse_of_good {s : State} {p n : Nat} {f : Pkt} {r : List Pkt} (hFront : (s.prism p).inq = f :: r)
    (hForced : f.forced = none) (hHold : (s.prism p).hold = false)
    (hProfile : (s.prism p).val R.PRS_SRC_PROF_PROFILE (32 * p + f.src % 32) = n)
    (hEn : (s.prism p).on R.PRS_PROF_EN (64 * p + n) = true) (hTrunc : (parseWalk (s.prism p) p n f.data).trunc = false)
    (hLenc : (parseWalk (s.prism p) p n f.data).lenc = false) :
    doPrismParse p s = ((s.setPrism p { s.prism p with inq := r }).count (12 + p) 0x01 1).modPrism p fun y =>
      { y with parsed := y.parsed ++
        [{ f with prof := n, forced := none, hdrs := (parseWalk (s.prism p) p n f.data).hdrs
                  key := buildKey (s.prism p) f n (parseWalk (s.prism p) p n f.data)
                  pf := preFilter (s.prism p) p n (buildKey (s.prism p) f n (parseWalk (s.prism p) p n f.data))
                  win := none, act := 0, dest := none, rewrite := none, egress := 0 }] } := by
  rw [doPrismParse]
  dsimp only
  rw [hFront]
  dsimp only
  rw [hForced, hHold, if_neg Bool.false_ne_true]
  dsimp only
  rw [hProfile, if_neg (by simp [hEn]), hTrunc, hLenc]
  rfl

/-- A frame whose profile is not enabled is counted and freed (R240). -/
theorem doPrismParse_of_noprof {s : State} {p : Nat} {f : Pkt} {r : List Pkt} (hFront : (s.prism p).inq = f :: r)
    (hForced : f.forced = none) (hHold : (s.prism p).hold = false)
    (hEn : (s.prism p).on R.PRS_PROF_EN (64 * p + (s.prism p).val R.PRS_SRC_PROF_PROFILE (32 * p + f.src % 32)) = false) :
    doPrismParse p s = ((s.setPrism p { s.prism p with inq := r }).sat R.PRS_CNT_B_NOPROF p 1).freeFrame f := by
  rw [doPrismParse]
  dsimp only
  rw [hFront]
  dsimp only
  rw [hForced, hHold, if_neg Bool.false_ne_true]
  dsimp only
  exact if_pos (by rw [hEn]; rfl)

/-- Settles O28: the queues and the batch stand as the rules ask. -/
theorem prismCommands : Obligations.PrismCommands := by
  intro s w p val hReaches hp
  dsimp only
  refine ⟨fun f hArrival hFirst hHold hRoom => ?_, fun f r hFront hForced hHold =>
      ⟨fun hEn => State.runs_of_exec rfl (doPrismParse_of_noprof hFront hForced hHold hEn),
        fun hEn hTrunc hLenc => State.runs_of_exec rfl (doPrismParse_of_good hFront hForced hHold rfl hEn hTrunc hLenc)⟩,
    fun f r hFront hNone s2 hMiss => ?_, fun f r b row u hFront hSome s2 hHit => ?_,
    fun bank row hSuspect => State.runs_of_exec rfl (if_pos hSuspect),
    fun hMore => State.runs_of_exec rfl ((if_pos hp).trans (if_neg hMore)),
    State.runs_of_exec rfl (if_pos ⟨hp, hReaches _⟩), State.runs_of_exec rfl (if_pos ⟨hp, hReaches _⟩),
    State.runs_of_exec rfl (if_pos ⟨hp, hReaches _⟩),
    fun hBatch hHold hGate => State.runs_of_exec rfl (if_pos ⟨hBatch, hHold, hGate⟩),
    fun n y hBatch hHold hParsed hApplied => ?_, fun hPlacing hRow => ?_⟩
  · have hFull : decide (4096 ≤ (s.prism p).inq.length) = false := decide_eq_false (by omega)
    refine State.runs_of_exec rfl ?_
    rw [doPrismInputEnqueue, hArrival]
    dsimp only [List.getElem?_cons_zero]
    rw [if_neg (by simp), if_neg (by simp [hFull]), if_neg (by simp [hFull, hHold]), if_neg (by simp [hFirst])]
  · refine State.runs_of_exec rfl ?_
    rw [doPrismSearch, hFront]
    dsimp only
    rw [hNone]
    dsimp only
    rw [hMiss]
  · refine State.runs_of_exec rfl ?_
    rw [doPrismSearch, hFront]
    dsimp only
    rw [hSome]
    obtain ⟨b', row'⟩ := u
    dsimp only
    rw [if_neg Bool.false_ne_true, hHit]
  · refine State.runs_of_exec rfl ?_
    rw [doPsmBatchApply]
    dsimp only
    rw [hBatch]
    dsimp only
    rw [if_pos ⟨hHold, hParsed⟩, hApplied]
  · refine State.runs_of_exec rfl ((if_pos hPlacing).trans ?_)
    rw [if_pos hRow]

end Sys2Proof.Machine
end

section
/-!
PROOFS. The traffic manager and the Ethernet ports.
-/
namespace Sys2Proof.Machine

/-! ### The traffic manager -/

/-- A bit that is set reads 1. -/
@[simp] theorem bitAt_orBit (x n : Nat) : bitAt (orBit x n) n = true := by
  have hBit : (x ||| 1 <<< n).testBit n = true := by simp [Nat.testBit_or, Nat.testBit_shiftLeft]
  rw [Nat.testBit_eq_decide_div_mod_eq] at hBit
  simpa [bitAt, orBit, bitsAt, Nat.shiftRight_eq_div_pow] using hBit

/-- A packet command that finds none in progress begins and runs (R358). -/
theorem State.pktGo_of_free {s : State} {w : Writer} (hReaches : s.Reaches w) (hFree : s.flag R.TM_PKT_CMD_BUSY 0 = false)
    (val op : Nat) (g : Option Nat) :
    s.pktGo w val op g = ((s.wrReg w Reg.TM_PKT_CMD 0 (orBit (putBits val 32 3 op) 35)).wrs 0
      [(R.TM_PKT_CMD_BUSY, 1), (R.TM_PKT_CMD_STATUS, 0)]).pktRun g := by
  rw [State.pktGo, if_pos (hReaches _), State.wrPktCmd, if_neg (by simp [hFree])]
  exact if_pos (bitAt_orBit _ _)

/-- The choice of the scheduler is charged and handed over where its output takes it (R346 to R348). -/
theorem doTmDecision_of_choice {s s1 : State} {o : Nat} {pk : Pick} {f : Pkt} {r : List Pkt} (hOut : outputCode o = true)
    (hReady : s.ready 4 (entKey 0 o) = true) (hPick : s.descend (s.rd R.TM_OMAP_LEN_ADJ o) 4 (entKey 0 o) = some pk)
    (hMoved : pk.moves.foldl (fun s m => m.2.2.foldl (fun s d => s.setEnt d.1 { s.ent d.1 with deficit := d.2 })
      (s.setRing m.1 { s.ring m.1 with cur := m.2.1 })) s = s1)
    (hFrames : (s1.ent pk.leaf).frames = f :: r) (hTakes : s.outputTakes o f.data.length = true) :
    doTmDecision o none s =
      ((((pk.path.foldl (fun s k => s.charge pk.len k) (s1.setEnt pk.leaf
        { s1.ent pk.leaf with frames := r, fill := (s1.ent pk.leaf).fill - cellsOf f.data.length })).countSub 25 0x01
        (outSub o) 1).countSub 25 0x02 (outSub o) f.data.length).handOver o f none) := by
  rw [doTmDecision, if_pos ⟨hOut, hReady⟩, hPick]
  dsimp only
  rw [hMoved, hFrames]
  exact if_pos hTakes

/-- Settles O29: the frames, slots and commands stand as the rules ask. -/
theorem trafficCommands : Obligations.TrafficCommands := by
  intro s w p val hReaches
  dsimp only
  refine ⟨fun f r c e s1 hFront hDest hColour => ?_, fun f r s1 hFront hColour => ?_,
    fun o pk f r hOut hReady hPick hFrames hTakes =>
      State.runs_of_exec rfl (doTmDecision_of_choice hOut hReady hPick rfl hFrames hTakes),
    fun n hSlot hDue => ?_, fun n hSlot hDue => ?_, fun ue => State.runs_of_exec rfl (if_pos (hReaches _)),
    State.runs_of_exec rfl (if_pos (hReaches _)), fun hBusy => State.runs_of_exec rfl (if_pos hBusy), fun hFree => ?_,
    fun st hDone => ?_, fun h x hHeld hDue => ?_⟩
  · refine State.runs_of_exec rfl ?_
    rw [doTmEnqueue, hFront]
    dsimp only
    rw [hColour]
    dsimp only
    rw [hDest]
  · refine State.runs_of_exec rfl ?_
    rw [doTmEnqueue, hFront]
    dsimp only
    rw [hColour]
  · refine State.runs_of_exec rfl ?_
    rw [doShaperRelease, hSlot]
    exact if_neg (by omega)
  · refine State.runs_of_exec rfl ?_
    rw [doCoarseSlotEnter, hSlot]
    exact if_neg (by omega)
  · have hGo := State.pktGo_of_free hReaches hFree val
    refine ⟨fun hNop => ?_, State.runs_of_exec rfl (hGo 1 none), fun g => State.runs_of_exec rfl (hGo 2 g),
      State.runs_of_exec rfl (hGo 3 none), State.runs_of_exec rfl (hGo 4 none)⟩
    refine State.runs_of_exec rfl ?_
    rw [doPktNop, if_neg (by omega), hGo]
  · refine State.runs_of_exec rfl ?_
    rw [doPktCmdDone, hDone]
  · refine State.runs_of_exec rfl ?_
    rw [doHeldFrameExpire, hHeld]
    exact if_neg (by omega)

/-! ### Ethernet ports -/

/-- Settles O30: the port is in use and its link stands as the rule asks. -/
theorem ethernetCommands : Obligations.EthernetCommands := by
  intro s w e val hReaches
  dsimp only
  refine ⟨fun hi hOn hDown => State.runs_of_exec rfl (if_pos ⟨hOn, hDown⟩),
    fun bl al lf rf hOn hUp hLost => State.runs_of_exec rfl (if_pos ⟨hOn, hUp, hLost⟩),
    fun he => State.runs_of_exec rfl (if_pos ⟨he, hReaches _⟩), fun he => State.runs_of_exec rfl (if_pos ⟨he, hReaches _⟩),
    fun frame hOn hUp hLoop => ?_, fun f r hFront hOn hUp => ?_⟩
  · refine State.runs_of_exec rfl ((if_pos ⟨hOn, hUp, by omega⟩).trans ?_)
    rw [if_neg (by omega)]
  · refine State.runs_of_exec rfl ?_
    rw [doEthFrameTransmit, hFront]
    dsimp only
    rw [if_pos ⟨hOn, hUp⟩]
    exact if_neg Bool.false_ne_true

end Sys2Proof.Machine
end

section
/-!
PROOFS. Register accesses and the boot stages.
-/
namespace Sys2Proof.Machine

/-! ### Register accesses -/

/-- A write of a width that the register takes, by a writer that reaches it, is the register's write (R14, R15). -/
theorem State.busWrite_of_reach {s : State} {w : Writer} {off n i b : Nat} {d : RegD} (hFind : regFind off = some (d, i, b))
    (hReach : s.mayWrite w off = true) (hWidth : widthOk d b n = true) (val : Nat) :
    s.busWrite w off n val = s.wrAccess w d i b n val := by
  rw [State.busWrite, hFind]
  exact if_pos (by rw [hReach, hWidth]; rfl)

/-- A lower half of a wide register is held for its writer (R16). -/
theorem State.wrAccess_lower {s : State} {w : Writer} {d : RegD} {i b val : Nat} (hWide : d.w ≠ 32) (hLower : b % 8 = 0) :
    s.wrAccess w d i b 4 val = s.setHalf (halfKey d i (b / 8)) (some (w, val % 2 ^ 32)) := by
  rw [State.wrAccess]
  rw [if_neg hWide, if_neg (by decide), if_pos hLower]

/-- An upper half is written with the lower half that its writer holds (R16). -/
theorem State.wrAccess_upper {s : State} {w : Writer} {d : RegD} {i b val lo : Nat} (hWide : d.w ≠ 32) (hUpper : b % 8 ≠ 0)
    (hHeld : KMap.find s.halves (halfKey d i (b / 8)) = some (w, lo)) :
    s.wrAccess w d i b 4 val =
      (s.setHalf (halfKey d i (b / 8)) none).wrWordAt w d i (b / 8) (lo + val % 2 ^ 32 * 2 ^ 32) (2 ^ 64 - 1) := by
  rw [State.wrAccess]
  rw [if_neg hWide, if_neg (by decide), if_neg hUpper, hHeld]
  exact if_pos rfl

/-- An access of a wrong width by a function that may read there is counted; a read returns 0 (R17, R456). -/
theorem doBadWidthAccess_of_fn {s : State} {f off n : Nat} (hBad : widthBad off n = true) (hRead : s.mayRead (.fn f) off = true)
    (write : Bool) (val : Nat) :
    doBadWidthAccess (.fn f) off n write val s =
      if write then s.badAccess f else (s.badAccess f).emit (.readData 0) := by
  have hCounts : (s.mayRead (.fn f) off || s.sliceMaps f off false) = true := by rw [hRead, Bool.true_or]
  rw [doBadWidthAccess, if_pos hBad]
  dsimp only
  rw [if_pos hCounts]

/-- A request to a BAR that is shut is refused (R457). -/
theorem State.viaBar_of_shut {s : State} {f : Nat} {k : State → State} (h : s.barShut f = true) :
    s.viaBar f k = ((s.aer f 5).emit (.unsupportedRequest f)).tlpIn (s.linkOf f) := by
  rw [State.viaBar, if_pos h]

/-- A request to a BAR that is open is served. -/
theorem State.viaBar_of_open {s : State} {f : Nat} {k : State → State} (h : s.barShut f = false) :
    s.viaBar f k = (k s).tlpIn (s.linkOf f) := by
  rw [State.viaBar, h]
  rfl

/-- The Manager's BAR2 reaches the registers and, above them, the HBM aperture (R45, R459). -/
theorem State.barRequest_of_manager {s : State} {off n val : Nat} {write : Bool} (hOpen : s.barShut 0 = false)
    (hManager : s.holds (.fn 0) .manager = true) (hIn : off + n ≤ 0x400000000) :
    s.barRequest 0 2 off n write val = State.tlpIn (if off < 0x100000000 then s.barReg 0 off n write val
      else s.barHbm (off - 0x100000000) n write val) (s.linkOf 0) := by
  have hOther : ¬(2 = 0 ∧ off + n ≤ if 0 < 8 then 0x4000000 else 0x40000) := by simp
  rw [State.barRequest, State.viaBar_of_open hOpen, if_neg hOther, if_pos ⟨rfl, rfl, hIn⟩, if_neg (by simp [hManager])]

/-- Settles O31: the width, the reach and the BAR decide the access. -/
theorem registerAccesses : Obligations.RegisterAccesses := by
  intro s w off n val
  dsimp only
  refine ⟨fun d i b hFind hReach hWidth => State.runs_of_exec rfl (State.busWrite_of_reach hFind hReach hWidth val),
    fun d i b hOff hWide hFind hLower hReach hWidth => State.runs_of_exec rfl ((if_pos hOff).trans
      ((State.busWrite_of_reach hFind hReach hWidth val).trans (State.wrAccess_lower hWide hLower))),
    fun d i b lo hOff hWide hFind hUpper hReach hWidth hHeld => State.runs_of_exec rfl ((if_pos hOff).trans
      ((State.busWrite_of_reach hFind hReach hWidth val).trans (State.wrAccess_upper hWide hUpper hHeld))),
    fun f hBad hRead => ⟨State.runs_of_exec rfl (doBadWidthAccess_of_fn hBad hRead true val),
      State.runs_of_exec rfl (doBadWidthAccess_of_fn hBad hRead false val)⟩, fun f bar write hShut => ?_,
    fun hOpen hManager hIn write => ?_⟩
  · refine State.runs_of_exec rfl ?_
    rw [doBarMemoryRequest, State.barRequest, State.viaBar_of_shut hShut]
    rfl
  · refine State.runs_of_exec rfl ?_
    rw [doBarMemoryRequest, State.barRequest_of_manager hOpen hManager hIn]
    rfl

/-! ### The boot stages -/

/-- Settles O32: each stage starts from the one before it. -/
theorem bootStages : Obligations.BootStages := by
  intro s
  dsimp only
  refine ⟨fun hPowered => ⟨fun b o hImage => ?_, fun hNone => ?_⟩, fun hLoaded => State.runs_of_exec rfl (if_pos hLoaded),
    fun hApplied => State.runs_of_exec rfl (if_neg (not_not.2 hApplied)), fun b o hReady hLife hImage => ?_,
    fun o hRecovery hGood => State.runs_of_exec rfl (if_pos ⟨hRecovery, hGood⟩)⟩
  · refine State.runs_of_exec rfl ((if_neg (not_not.2 hPowered)).trans ?_)
    rw [hImage]
  · refine State.runs_of_exec rfl ((if_neg (not_not.2 hPowered)).trans ?_)
    rw [hNone]
  · refine State.runs_of_exec rfl ((if_neg (not_not.2 hReady)).trans ((if_neg hLife).trans ?_))
    rw [hImage]

end Sys2Proof.Machine
end

section
/-!
PROOFS. Glint.
-/
namespace Sys2Proof.Machine

/-- GO with the OP of the row writes GLT_CTX_CMD (R382). -/
theorem State.ctxGo_of_go {s : State} {w : Writer} {val op : Nat} (hReaches : s.Reaches w) (hGo : bitAt val 18 = true)
    (hOp : bitsAt val 16 2 = op) : s.ctxGo w val op = s.wrCtxCmd val :=
  if_pos ⟨hReaches _, hOp, hGo⟩

/-- A job whose header is held starts in its own cluster, which runs (R386). -/
theorem doGlintJobStart_of_own {s : State} {n c : Nat} {j : Job} (hJob : KMap.find s.jobs n = some j) (hOwn : j.cluster = some c)
    (hOpc : j.opc = 8) (hStatus : j.status = none) (hKey : KMap.find s.glint.keys n = none) (hFree : s.clHeld c = false)
    (hTable : j.table = false) (hHeader : Nat.min 64 j.src.len ≤ s.avail n j) (hRuns : s.glint.stopped.contains c = false) :
    doGlintJobStart n s = s.jobBegin n j c := by
  rw [doGlintJobStart, hJob]
  dsimp only
  rw [hOwn]
  dsimp only
  rw [if_neg (by simp [hOpc, hStatus, hKey, hFree]), if_neg (by simp [hTable]), if_neg (by omega), hRuns]
  exact if_neg Bool.false_ne_true

/-- The MAC that a job's input gives under its key is the tag of its header (R385, R395). -/
def Job.tagGood (j : Job) (k : GKey) : Bool :=
  (jobHdr j.input).mac k.alg k.z (sliceB j.input 64 (jobHdr j.input).aadLen)
    ((j.input.drop (64 + (jobHdr j.input).aadLen)).take (jobHdr j.input).payLen)
    == (jobHdr j.input).tag.take (jobHdr j.input).tagLen

/-- A verdict that is due passes the job, or fails its tag (R395, R396). -/
theorem doGlintTagVerdict_of_due {s : State} {n : Nat} {j : Job} {k : GKey} (hJob : KMap.find s.jobs n = some j)
    (hKey : KMap.find s.glint.keys n = some k) (hDue : s.verdictDue n j = true) :
    (j.tagGood k = true → (jobHdr j.input).first = false →
      doGlintTagVerdict n s = (s.setJob n { j with passed := true }).pump n)
    ∧ (j.tagGood k = false →
      doGlintTagVerdict n s = s.tagFailed n j (algKind k.alg == .cmac) (j.cluster.getD 0)) := by
  rw [doGlintTagVerdict, hJob, hKey]
  dsimp only
  rw [if_neg (by simp [hDue])]
  exact ⟨fun hGood hFirst => (if_pos hGood).trans (if_neg (by simp [hFirst])), fun hBad => if_neg (ne_true_of_eq_false hBad)⟩

/-- A job of a queue that has ended well, and that no cluster holds, posts its completion (R385). -/
theorem doGlintJobComplete_of_ended {s s0 : State} {n q i : Nat} {j : Job} (hPump : s.pump n = s0)
    (hJob : KMap.find s0.jobs n = some j) (hOpc : j.opc = 8) (hTorn : j.torn = false) (hHold : j.hold = none)
    (hEnded : s0.glintEnded n j = true) (hCluster : j.cluster = none) (hOrigin : j.origin = .sq q i) (hScrub : j.scrub = none)
    (hStatus : j.status = none) :
    doGlintJobComplete n s =
      (((s0.modGlint fun g => { g with keys := KMap.del g.keys n }).forgetJob n).endJob n).complete q j.desc 0 j.done 0 := by
  rw [doGlintJobComplete, hPump]
  dsimp only
  rw [hJob]
  dsimp only
  rw [if_neg (by simp [hOpc, hTorn, hHold, hEnded, hCluster]), hCluster, hOrigin, hScrub, hStatus]
  rfl

/-- While the context table is off an inline frame fails with 0x23 (R379, R391). -/
theorem doGlintInlineStart_of_off {s : State} {p : Nat} {f : Pkt} {r : List Pkt} (hFront : KMap.getD s.toGlint p [] = f :: r)
    (hFree : s.clHeld (s.home (bitsAt f.act 72 16)) = false)
    (hServe : ((List.range 32).all fun k => s.glint.stopped.contains k || s.flag R.GLT_CL_STAT_OUT k) = false)
    (hOff : s.flag R.GLT_CTX_BASE_EN 0 = false) :
    doGlintInlineStart p s =
      ((((({ s with toGlint := KMap.setD s.toGlint p [] r } : State).wakeBlock (117 + s.home (bitsAt f.act 72 16))).countGlint
        (s.home (bitsAt f.act 72 16)) 0x06 1).modGlint fun g =>
          { g with inl := g.inl ++ [⟨s.home (bitsAt f.act 72 16), bitsAt f.act 72 16, f, 0, [], some 0x23, false⟩] }).jobIn
        (s.home (bitsAt f.act 72 16))) := by
  rw [doGlintInlineStart, hFront]
  dsimp only
  rw [if_neg (by simp [hFree]), hServe, if_neg Bool.false_ne_true, if_pos (by simp [hOff])]

/-- Settles O33: each command finds the slot, the record, the job or the frame as its rule asks. -/
theorem glintCommands : Obligations.GlintCommands := by
  intro s w val hReaches
  dsimp only
  refine ⟨fun slot hSlot hDenied => ?_, fun slot hSlot hHolds => ?_, State.runs_of_exec rfl (if_pos (hReaches _)),
    fun hGo => ⟨fun hOp => State.runs_of_exec rfl (State.ctxGo_of_go hReaches hGo hOp),
      fun hOp => State.runs_of_exec rfl (State.ctxGo_of_go hReaches hGo hOp),
      fun hOp => State.runs_of_exec rfl (State.ctxGo_of_go hReaches hGo hOp)⟩,
    fun n hCmd hCold hFree => ?_, fun n hCmd hCold => ?_, fun q x s1 c s2 hDesc hCluster => ?_,
    fun n j c hJob hOwn hOpc hStatus hKey hFree hTable hHeader hRuns =>
      State.runs_of_exec rfl (doGlintJobStart_of_own hJob hOwn hOpc hStatus hKey hFree hTable hHeader hRuns),
    fun n j t hJob hStall hStatus hDue => ?_, fun n j k hJob hKey hDue => ?_,
    fun n j q i hJob hOpc hTorn hHold hEnded hCluster hOrigin hScrub hStatus => State.runs_of_exec rfl
      (doGlintJobComplete_of_ended rfl hJob hOpc hTorn hHold hEnded hCluster hOrigin hScrub hStatus),
    fun p f r hFront hFree hServe hOff => State.runs_of_exec rfl (doGlintInlineStart_of_off hFront hFree hServe hOff),
    fun cl e hFind => ⟨fun r hReason => ?_, fun b b1 hReason hRec hGood hAccept => ?_⟩,
    fun hEntropy => ⟨State.runs_of_exec rfl (if_pos hEntropy),
      fun c hc => State.runs_of_exec rfl ((if_neg (by omega)).trans (if_pos hEntropy))⟩,
    fun hFirst => ?_, State.runs_of_exec rfl rfl⟩
  · exact State.runs_of_exec rfl ((if_pos ⟨hSlot, hReaches _⟩).trans (if_neg (by simp [hDenied])))
  · exact State.runs_of_exec rfl ((if_pos ⟨hSlot, hReaches _⟩).trans (if_pos hHolds))
  · refine State.runs_of_exec rfl ?_
    rw [doCtxFreezeDone, hCmd]
    dsimp only
    rw [if_pos rfl, if_neg (by simp [hCold]), if_neg (by simp [hFree])]
  · refine State.runs_of_exec rfl ?_
    rw [doCtxFreezeDone, hCmd]
    dsimp only
    rw [if_neg (by decide), if_pos rfl, if_pos hCold]
  · refine State.runs_of_exec rfl ?_
    rw [doGlintJob, hDesc]
    dsimp only
    rw [hCluster]
  · refine State.runs_of_exec rfl ?_
    rw [doGlintChanStall, hJob]
    dsimp only
    rw [hStall]
    exact if_pos (by simp [hStatus, hDue])
  · obtain ⟨hPasses, hFails⟩ := doGlintTagVerdict_of_due hJob hKey hDue
    exact ⟨fun hGood hFirst => State.runs_of_exec rfl (hPasses hGood hFirst), fun hBad => State.runs_of_exec rfl (hFails hBad)⟩
  · refine State.runs_of_exec rfl ?_
    rw [doGlintInlineVerdict, hFind]
    dsimp only
    rw [hReason]
  · refine State.runs_of_exec rfl ?_
    rw [doGlintInlineVerdict, hFind]
    dsimp only
    rw [hReason, hRec]
    dsimp only
    rw [if_neg (by simp [hGood]), hAccept]
  · refine State.runs_of_exec rfl ?_
    rw [doEntropyHealthFail]
    rw [if_neg (by simp [hFirst])]

end Sys2Proof.Machine
end

section
/-!
PROOFS. The queue manager and the control of functions.
-/
namespace Sys2Proof.Machine

/-! ### Writers of queue records (R539) -/

/-- No filter applies to the writer, which reaches the record: an SQ record takes the write. -/
theorem State.writeSq_of_reach {s : State} {w : Writer} (hReaches : s.Reaches w) (hFilter : s.filtered w = none) (q k val : Nat) :
    s.writeSq w q k val = s.wrSqWord q k val := by
  rw [State.writeSq, if_neg (by simp [hReaches _]), hFilter]

/-- No filter applies to the writer, which reaches the record: a CQ record takes the write. -/
theorem State.writeCq_of_reach {s : State} {w : Writer} (hReaches : s.Reaches w) (hFilter : s.filtered w = none) (c k val : Nat) :
    s.writeCq w c k val = s.wrCqWord c k val := by
  rw [State.writeCq, if_neg (by simp [hReaches _]), hFilter]

/-- No filter applies to the writer, which reaches the record of a function: it takes the write. -/
theorem State.viaFn_of_reach {s : State} {w : Writer} (hReaches : s.Reaches w) (hFilter : s.filtered w = none) (off f : Nat)
    (k : State → State) : s.viaFn w off f k = k s := by
  rw [State.viaFn, if_neg (by simp [hReaches _]), hFilter]

/-! ### Descriptors -/

/-- A descriptor that could not be read is rejected with what its read says (R506). -/
theorem doDescriptorCheck_of_bad {s : State} {q st : Nat} {x : FDesc} (t : ReadResult)
    (hNext : (s.sqRun q).fetched.find? (fun x => !x.passed) = some x) (hBad : x.bad = some st) :
    doDescriptorCheck q t s = s.rejectDesc q x fun s => s.completeUnread q st := by
  rw [doDescriptorCheck, hNext]
  dsimp only
  rw [hBad]

/-- A descriptor that fails a check is rejected as malformed (R505). -/
theorem doDescriptorCheck_of_malformed {s : State} {q : Nat} {x : FDesc} (t : ReadResult)
    (hNext : (s.sqRun q).fetched.find? (fun x => !x.passed) = some x) (hRead : x.bad = none)
    (hGood : descGood x.bytes (s.rd R.QM_SQ_KIND q) = false) :
    doDescriptorCheck q t s = s.rejectDesc q x fun s => s.complete q x.bytes CplStat.malformed.code 0 0 := by
  rw [doDescriptorCheck, hNext]
  dsimp only
  rw [hRead]
  dsimp only
  rw [if_pos (by simp [hGood])]

/-- A good SEND descriptor of one buffer passes with that buffer (R505). -/
theorem doDescriptorCheck_of_good {s : State} {q : Nat} {x : FDesc} (t : ReadResult)
    (hNext : (s.sqRun q).fetched.find? (fun x => !x.passed) = some x) (hRead : x.bad = none)
    (hGood : descGood x.bytes (s.rd R.QM_SQ_KIND q) = true) (hSend : leVal (sliceB x.bytes 0 1) = 1)
    (hBuffer : leVal (sliceB x.bytes 4 1) = 0) :
    doDescriptorCheck q t s = s.putFetched q ((s.sqRun q).fetched.map fun y =>
      if y = x then { y with passed := true, frags := [(leVal (sliceB x.bytes 8 8), descLen x.bytes)] } else y) := by
  rw [doDescriptorCheck, hNext]
  dsimp only
  rw [hRead]
  dsimp only
  rw [if_neg (by simp [hGood]), hSend, if_neg (by decide), if_pos hBuffer]

/-- A frame fetched whole by the oldest job of its queue enters Prism where there are cells (R502, R515). -/
theorem doEthSendComplete_of_whole {s s1 : State} {n q i : Nat} {j : Job} {g : Pkt} (hJob : KMap.find s.jobs n = some j)
    (hOrigin : j.origin = .sq q i) (hOpc : j.opc = 1) (hTorn : j.torn = false) (hOldest : s.oldestSq q = some n)
    (hStatus : j.status = none) (hWhole : j.src.len ≤ s.avail n j) (hPair : s.flag R.QM_SQ_PAIR_V q = false)
    (hCells : s.newFrame { Pkt.fresh with
        pipe := Config.hostPipe (s.hostPort (s.rd R.QM_SQ_FUNC q)) % 4, src := 16 + s.hostPort (s.rd R.QM_SQ_FUNC q)
        data := j.input.take j.src.len, locKind := 0, locDest := 0 } = some (g, s1)) :
    doEthSendComplete n s = ((s1.endJob n).enterPrism g).complete q j.desc 0 j.src.len 0 := by
  rw [doEthSendComplete, hJob]
  dsimp only
  rw [hOrigin]
  dsimp only
  rw [if_neg (by simp [hOpc, hTorn, hOldest]), hStatus]
  dsimp only
  rw [if_neg (by omega), hPair]
  simp only [Bool.false_eq_true, if_false]
  rw [hCells]

/-- A firmware request goes to the queue's channel, which is enabled and has room (R519). -/
theorem doFwRequest_of_room {s s1 : State} {q : Nat} {x : FDesc} (hDesc : s.handOn q isFwOpc = some (x, s1))
    (hOpen : s.flag R.LTN_CH_CFG_ENABLE (s.rd R.QM_SQ_CHAN q) = true) (hRoom : s.chanRoom (s.rd R.QM_SQ_CHAN q) = true) :
    doFwRequest q s =
      (s1.setSqRun q { s1.sqRun q with waiting := false, fwOut := (s1.sqRun q).fwOut + 1 }).hwCommit (s.rd R.QM_SQ_CHAN q)
        (segWords (x.bytes.take 22 ++ leBytes 2 (s.rd R.QM_SQ_GEN q) ++ x.bytes.drop 24)) := by
  rw [doFwRequest, hDesc]
  dsimp only
  rw [if_neg (by simp [hOpen]), if_pos hRoom]

/-- Settles O34: the records, descriptors and frames stand as the rules ask. -/
theorem queueCommands : Obligations.QueueCommands := by
  intro s w q val hReaches hFilter
  dsimp only
  refine ⟨State.runs_of_exec rfl (if_pos (hReaches _)),
    fun hq => State.runs_of_exec rfl ((if_pos hq).trans (State.writeSq_of_reach hReaches hFilter q 0 val)),
    fun hq => State.runs_of_exec rfl ((if_pos hq).trans (State.writeCq_of_reach hReaches hFilter q 0 val)),
    fun f i hOpen hFind => ?_, fun f i hOpen hFind => ⟨?_, ?_⟩, fun link reads hNext => ?_,
    fun x t hNext => ⟨fun st hBad => State.runs_of_exec rfl (doDescriptorCheck_of_bad t hNext hBad),
      fun hRead hBad => State.runs_of_exec rfl (doDescriptorCheck_of_malformed t hNext hRead hBad),
      fun hRead hGood hSend hBuffer => State.runs_of_exec rfl (doDescriptorCheck_of_good t hNext hRead hGood hSend hBuffer)⟩,
    fun x s1 hDesc hLoose => ?_, fun x s1 hDesc => ?_,
    fun n j i g s1 hJob hOrigin hOpc hTorn hOldest hStatus hWhole hPair hCells => State.runs_of_exec rfl
      (doEthSendComplete_of_whole hJob hOrigin hOpc hTorn hOldest hStatus hWhole hPair hCells),
    fun x s1 hDesc => ?_,
    fun x s1 hDesc hOpen hRoom => State.runs_of_exec rfl (doFwRequest_of_room hDesc hOpen hRoom),
    fun f fr x xr hFrame hPosted => ⟨fun hOver => ?_, fun hFits => ?_⟩, State.runs_of_exec rfl (if_pos (hReaches _)),
    fun hEn => State.runs_of_exec rfl (if_pos hEn), fun t hFirst hEn hIrq hUs hDue => ?_⟩
  · refine State.runs_of_exec rfl ?_
    rw [doSqDoorbell, State.viaBar_of_open hOpen, hFind]
  · refine State.runs_of_exec rfl ?_
    rw [doCqHeadDoorbell, State.viaBar_of_open hOpen, hFind]
  · refine State.runs_of_exec rfl ?_
    rw [doCqOvfClr, State.viaBar_of_open hOpen, hFind]
  · refine State.runs_of_exec rfl ?_
    rw [doFetchVisit, hNext]
  · refine State.runs_of_exec rfl ?_
    rw [doDescNop, hDesc]
    exact if_neg (by simp [hLoose])
  · refine State.runs_of_exec rfl ?_
    rw [doEthSend, hDesc]
  · refine State.runs_of_exec rfl ?_
    rw [doRxPost, hDesc]
  · refine State.runs_of_exec rfl ?_
    rw [doRxFrameDeliver, hFrame, hPosted]
    exact if_pos hOver
  · refine State.runs_of_exec rfl ?_
    rw [doRxFrameDeliver, hFrame, hPosted]
    dsimp only
    rw [if_neg (by omega), if_neg (by simp)]
  · refine State.runs_of_exec rfl ?_
    rw [doCoalTimerExpire, hFirst]
    exact if_pos (by simp [hEn, hIrq, hUs, hDue])

/-! ### The control of functions -/

/-- Settles O35: the writer reaches the records unfiltered, and the harvests stand as the rules ask. -/
theorem functionControl : Obligations.FunctionControl := by
  intro s w m val hReaches hFilter
  dsimp only
  refine ⟨fun x t r hNotices => ⟨fun hClosed => ?_, fun hOpen hRoom => ?_⟩,
    fun hm => ⟨fun rx => State.runs_of_exec rfl ((if_pos hm).trans (State.viaFn_of_reach hReaches hFilter _ _ _)),
      State.runs_of_exec rfl ((if_pos hm).trans (State.viaFn_of_reach hReaches hFilter _ _ _))⟩,
    fun hm => ⟨State.runs_of_exec rfl (if_pos ⟨hm, hReaches _⟩), State.runs_of_exec rfl (if_pos ⟨hm, hReaches _⟩)⟩,
    fun n j hFlush hJob hBusy hStatus hRead => ?_, fun hFlush hBusy hDue => ?_⟩
  · refine State.runs_of_exec rfl ?_
    rw [doFuncNoticeCommit, hNotices]
    exact if_pos (by simp [hClosed])
  · refine State.runs_of_exec rfl ?_
    rw [doFuncNoticeCommit, hNotices]
    exact (if_neg (by simp [hOpen])).trans (if_pos hRoom)
  · refine State.runs_of_exec rfl ?_
    rw [doHarvestDone, hFlush]
    dsimp only
    rw [hJob]
    exact if_pos (by simp [hBusy, hStatus, hRead])
  · refine State.runs_of_exec rfl ?_
    rw [doHarvestNoFlush, hFlush]
    exact if_pos (by simp [hBusy, hDue])

end Sys2Proof.Machine
end

section
/-!
PROOFS. Memory, translation and the host side of the DMA engine.
-/
namespace Sys2Proof.Machine

/-- A configuration write to a function that exists and is open is performed (R450). -/
theorem State.viaCfg_of_open {s : State} {f : Nat} {k : State → State} (hExists : s.fnExists f = true) (hOpen : s.cfgOpen f = true) :
    s.viaCfg f k = (k s).tlpBoth (s.linkOf f) := by
  rw [State.viaCfg]
  rw [if_neg (by simp [hExists]), if_neg (by simp [hOpen])]

/-- A transfer inside the device that nothing precedes starts and moves what it can (R168). -/
theorem doDmaTransferStart_of_inner {s : State} {cl r seq n : Nat} {j : Job} (hJob : s.ringJob cl r seq = some (n, j))
    (hOpc : j.opc = 0xFE) (hOrder : j.order = false) (hStarted : j.started = false) (hInner : j.fn = none) :
    doDmaTransferStart cl r seq s = (s.startJob n).pump n := by
  rw [doDmaTransferStart, hJob]
  dsimp only
  rw [if_neg (by simp [hOpc, hOrder, hStarted]), hInner]
  exact if_neg Bool.false_ne_true

/-- A translation that is granted whole ends its request and fills the cache (R224). -/
theorem State.takeTranslation_granted {s : State} {pg : HPage} {q : TReq} (hReq : s.treq pg = some q) (hWait : q.wait = .transReq)
    (hFresh : q.stale = false) (size base : Nat) :
    s.takeTranslation pg (.granted size base true true) =
      (({ s with hif := { s.hif with atc := atcAdd s.hif.atc (atcEntry pg size base true true) } } : State).delTreq pg).afterPage
        pg := by
  rw [State.takeTranslation, hReq]
  dsimp only
  rw [if_neg (not_not.2 hWait), if_neg (by simp [hFresh])]
  simp only [Bool.true_or, Bool.and_true, if_true]

/-- A translation that fails ends its request (R224). -/
theorem State.takeTranslation_failed {s : State} {pg : HPage} {q : TReq} (hReq : s.treq pg = some q) (hWait : q.wait = .transReq)
    (hFresh : q.stale = false) :
    s.takeTranslation pg .failed = ((s.delTreq pg).failPage pg CplStat.atsFault.code).afterPage pg := by
  rw [State.takeTranslation, hReq]
  dsimp only
  rw [if_neg (not_not.2 hWait), if_neg (by simp [hFresh])]

/-- Data that come for a read still awaited go into their job (R475). -/
theorem State.takeRead_data {s : State} {tag : Nat} {r : HRead} (hLive : r.dead = .no) (data : Bytes) :
    s.takeRead tag r true false data =
      (((((s.dropRead tag).modJob r.job fun j => { j with input := placeAt j.input r.off (sliceB data 0 r.len) }).countHost r.fn 0x04
        r.len).settleJob r.job).kick).settleFn r.fn := by
  rw [State.takeRead, hLive]
  rfl

/-- A completion of a read whose function has lost Bus Master Enable is counted (R477). -/
theorem State.takeRead_bme {s : State} {tag : Nat} {r : HRead} (hDead : r.dead = .bme) (ok ep : Bool) (data : Bytes) :
    s.takeRead tag r ok ep data = ((s.dropRead tag).sat R.HIF_FN_STAT_BME_LOST r.fn 1).settleFn r.fn := by
  rw [State.takeRead, hDead]

/-- Settles O36: the rings, requests and reads stand as the rules ask. -/
theorem translationCommands : Obligations.TranslationCommands := by
  intro s w val pg hReaches
  dsimp only
  refine ⟨fun cl r hCl hr => State.runs_of_exec rfl (if_pos ⟨hCl, hr, hReaches _⟩),
    fun cl r seq n j hJob hOpc hOrder hStarted hInner =>
      State.runs_of_exec rfl (doDmaTransferStart_of_inner hJob hOpc hOrder hStarted hInner),
    fun cl r seq n j hJob hOpc hStarted hMoved => ?_, State.runs_of_exec rfl (if_pos (hReaches _)),
    fun cl h a till b hHold hSlot hDue => ?_, fun addr hMac hEn => ?_, State.runs_of_exec rfl (if_pos (hReaches _)),
    fun scope asid arg hTlbi => ?_, fun q hReq hWait hFresh => ⟨?_, fun size base => ?_⟩, fun q hReq hWait hIssue hSlots => ?_,
    fun q hReq hWait => ⟨?_, ?_, fun hDue => ?_⟩,
    fun pf alloc hpf hExists hOpen => State.runs_of_exec rfl ((if_pos hpf).trans (State.viaCfg_of_open hExists hOpen)),
    fun fn tag page size hFlr => ?_, fun fn tag v hInval hReads => ?_,
    fun tag r data hRead => ⟨fun hLive => ?_, fun hDead ok ep => ?_, fun hLive hDue => ?_⟩⟩
  · refine State.runs_of_exec rfl ?_
    rw [doDmaTransferComplete, hJob]
    exact if_pos ⟨hOpc, hStarted, hMoved⟩
  · refine State.runs_of_exec rfl ?_
    rw [doXlfHoldTimeout, hHold]
    exact if_pos ⟨hSlot, hDue⟩
  · refine State.runs_of_exec rfl ?_
    rw [doPatrolScrub, hMac]
    exact if_pos hEn
  · have hNone : ((List.range 12).filter fun cl => bitAt 0 cl) = [] := by decide
    refine State.runs_of_exec rfl ?_
    rw [doTlbiDone, hTlbi]
    dsimp only
    rw [hNone]
    rfl
  · refine State.runs_of_exec rfl ?_
    rw [doAtsTranslationCompletion, State.takeTranslation_failed hReq hWait hFresh]
  · refine State.runs_of_exec rfl ?_
    rw [doAtsTranslationCompletion, State.takeTranslation_granted hReq hWait hFresh]
  · refine State.runs_of_exec rfl ?_
    rw [doPageRequestIssue, hReq]
    exact if_pos ⟨hWait, hIssue, hSlots⟩
  · refine State.runs_of_exec rfl ?_
    rw [doPrgResponse, State.takePrg, hReq]
    dsimp only
    rw [if_neg (not_not.2 hWait)]
  · refine State.runs_of_exec rfl ?_
    rw [doPrgResponse, State.takePrg, hReq]
    dsimp only
    rw [if_neg (not_not.2 hWait)]
  · refine State.runs_of_exec rfl ?_
    rw [doPageRequestTimeout, hReq]
    exact if_pos ⟨hWait, hDue⟩
  · refine State.runs_of_exec rfl ?_
    rw [doAtsInvalidateRequest, State.takeInval, if_pos hFlr]
  · refine State.runs_of_exec rfl ?_
    rw [doInvalidationCompletion, hInval]
    exact if_pos hReads
  · refine State.runs_of_exec rfl ?_
    rw [doHostReadCompletion, hRead]
    dsimp only
    rw [State.takeRead_data hLive]
  · refine State.runs_of_exec rfl ?_
    rw [doHostReadCompletion, hRead]
    dsimp only
    rw [State.takeRead_bme hDead]
  · refine State.runs_of_exec rfl ?_
    rw [doCompletionTimeout, hRead]
    exact if_pos ⟨hLive, hDue⟩

end Sys2Proof.Machine
end

section
/-!
PROOFS. The host interface: resets, links, functions, interrupts and power states.
-/
namespace Sys2Proof.Machine

/-- PERST# is asserted on a port while another port with an enabled PF runs: only the port is reset (R448, R708). -/
theorem doPerstAssert_of_other {s s2 : State} {n : Nat} (hn : n < 2) (hHigh : s.pwr.perst.contains n = false)
    (hPort : (((((portLinks n).foldl (fun s l => (s.resetLink l 4).linkDrop l) s).applyPort n).applyVfs
      ((List.range 8).filter fun p => (s.pfLink p).1 / 2 == n)).modPwr fun x => { x with perst := addOnce n x.perst }) = s2)
    (hOther : s2.allPerst = false) : doPerstAssert n s = s2 := by
  rw [doPerstAssert, if_neg (by rw [hHigh]; simp [hn])]
  dsimp only
  rw [hPort, hOther, Bool.false_and]
  exact if_neg Bool.false_ne_true

/-- A link whose partner trains at 16 lanes without Flit Mode comes up; no PME message is owed (R447, R451, R713). -/
theorem doPcieLinkUp_of_trained {s s1 : State} {l rate : Nat} (hTrains : s.mayTrain l = true) (hDown : s.flag R.HIF_LINK_STAT_UP l = false)
    (hWidth : pcieWidth (Nat.min 16 (if (s.portCfg (l / 2)).1 = 1 then 8 else 16)) ≠ 0)
    (hUp : (s.wrs l [(R.HIF_LINK_STAT_RATE, Nat.min (Nat.min rate ((s.portCfg (l / 2)).2.1 + 2)) 4),
      (R.HIF_LINK_STAT_WIDTH, pcieWidth (Nat.min 16 (if (s.portCfg (l / 2)).1 = 1 then 8 else 16))),
      (R.HIF_LINK_STAT_FLIT, 0)]).setUp l true = s1)
    (hOwed : s1.hif.pmeOwed = false) : doPcieLinkUp l rate 16 false s = s1 := by
  rw [doPcieLinkUp, if_neg (by simp [hTrains, hDown])]
  dsimp only
  rw [Bool.and_false, if_neg Bool.false_ne_true, if_neg hWidth]
  simp only [show b2n false = 0 from rfl]
  rw [hUp, hOwed]

/-- An offset is taken, and the rate stays where steering is off (R490, R706). -/
theorem State.takePtm_of_free {s s2 : State} {master : Nat}
    (hTaken : ((s.wr R.PWR_TB_OFS_OFFSET 0 (toSigned 64 ((master : Int) - s.time))).modPwr fun x =>
        { x with ofs := (toSigned 64 ((master : Int) - s.time) :: s.pwr.ofs).take 10 }).setFlag R.PWR_TB_STAT_LOCKED 0
        (decide (((toSigned 64 ((master : Int) - s.time) :: s.pwr.ofs).take 10).length = 10)
          && decide (spread ((toSigned 64 ((master : Int) - s.time) :: s.pwr.ofs).take 10) < 1000)) = s2)
    (hSteer : s2.flag R.PWR_TB_CFG_STEER_EN 0 = false) : s.takePtm master = s2 := by
  rw [State.takePtm]
  dsimp only
  rw [hTaken, hSteer]
  exact if_neg Bool.false_ne_true

/-- Settles O37: the function exists and is open, and the link or the state is as the rule asks. -/
theorem hostInterfaceCommands : Obligations.HostInterfaceCommands := by
  intro s fn hExists hOpen
  dsimp only
  have hCfg : ∀ {c : Instr} {n : State} {k : State → State}, exec c s = .next (s.after (s.viaCfg fn k)) → k s = n →
      s.Runs c (n.tlpBoth (s.linkOf fn)) := fun hExec hEffect =>
    State.runs_of_exec hExec ((State.viaCfg_of_open hExists hOpen).trans (congrArg (State.tlpBoth · (s.linkOf fn)) hEffect))
  refine ⟨fun n hn hLow hAwake => ?_,
    fun n hn hHigh hOther => State.runs_of_exec rfl (doPerstAssert_of_other hn hHigh rfl hOther), fun l hLink hUp => ?_,
    fun l hl hUp => ⟨State.runs_of_exec rfl (if_pos ⟨hl, hUp⟩), State.runs_of_exec rfl (if_pos hUp)⟩,
    fun l rate hTrains hDown hWidth hOwed => State.runs_of_exec rfl (doPcieLinkUp_of_trained hTrains hDown hWidth rfl hOwed),
    fun hVf => hCfg rfl ?_, fun hBusy hVf => ?_, fun n hPf hVfs => ?_, fun hBme => hCfg rfl (if_neg (by simp [hBme])),
    fun hBme => hCfg rfl (if_neg (by simp [hBme])), hCfg rfl rfl,
    fun v a d hShut => ⟨State.runs_of_exec rfl (State.viaBar_of_open hShut), State.runs_of_exec rfl (State.viaBar_of_open hShut)⟩,
    fun b hPf => State.runs_of_exec rfl ((if_pos hPf).trans (State.viaCfg_of_open hExists hOpen)),
    fun hState => hCfg rfl (if_neg hState), fun hState => hCfg rfl (if_neg hState),
    fun hState hEn hStat hDue => State.runs_of_exec rfl (if_pos ⟨hState, hEn, hStat, hDue⟩),
    fun src hIsolated hEn hOn hWake => State.runs_of_exec rfl (if_pos ⟨hIsolated, hEn, hOn, hWake⟩),
    fun l p hUp hFirst hL1 hReads hTreqs hPm => ?_, fun l hUp hFlit => ⟨fun hPm => ?_, fun hPm => ?_⟩,
    fun master p hFirst hEn hSteer => ?_⟩
  · exact State.runs_of_exec rfl ((if_pos ⟨hn, hLow⟩).trans (if_neg (by simp [hAwake])))
  · exact State.runs_of_exec rfl (if_pos (by simp [hLink, hUp]))
  · dsimp only
    rw [if_neg (by omega), decide_eq_false (by omega)]
    rfl
  · refine State.runs_of_exec rfl ((if_pos hBusy).trans ?_)
    rw [if_neg (by omega), decide_eq_false (by omega)]
    rfl
  · refine State.runs_of_exec rfl ((if_neg (by omega)).trans ((State.viaCfg_of_open hExists hOpen).trans ?_))
    dsimp only
    rw [if_pos hVfs, if_neg Bool.false_ne_true]
  · refine State.runs_of_exec rfl ?_
    rw [doAspmL1Entry, hFirst]
    exact if_pos (by simp [hUp, hL1, hReads, hTreqs, hPm])
  · exact State.runs_of_exec rfl (if_pos (by simp [hUp, hFlit, hPm]))
  · exact State.runs_of_exec rfl (if_pos (by simp [hUp, hFlit, hPm]))
  · refine State.runs_of_exec rfl ?_
    rw [doPtmMeasure, hFirst]
    dsimp only
    rw [if_neg (by simp [hEn]), State.takePtm_of_free rfl (hSteer _ _ _)]

end Sys2Proof.Machine
end

section
/-!
PROOFS. Lighthouse's fault handling, tests and fade readings.
-/
namespace Sys2Proof.Machine

/-- A request for a unit in service is taken up at once when no test stands (R618 to R620). -/
theorem doTestRequest_of_idle {s s2 : State} {w : Writer} {val : Nat} (hReaches : s.Reaches w)
    (hState : s.rd R.LHS_TEST_STAT_STATE 0 = 0)
    (hListed : unitListed ((s.wrReg w Reg.LHS_TEST_REQ 0 val).rd R.LHS_TEST_REQ_UNIT 0) = true)
    (hTy : unitTy ((s.wrReg w Reg.LHS_TEST_REQ 0 val).rd R.LHS_TEST_REQ_UNIT 0) ≤ 2)
    (hRole : (s.wrReg w Reg.LHS_TEST_REQ 0 val).rd R.LHS_UNIT_STAT_ROLE
      ((s.wrReg w Reg.LHS_TEST_REQ 0 val).rd R.LHS_TEST_REQ_UNIT 0) = 0)
    (hAsked : (((s.wrReg w Reg.LHS_TEST_REQ 0 val).wr R.LHS_TEST_STAT_STATE 0 1).modLhs fun x => { x with
      req := some ⟨(s.wrReg w Reg.LHS_TEST_REQ 0 val).rd R.LHS_TEST_REQ_UNIT 0,
        (s.wrReg w Reg.LHS_TEST_REQ 0 val).rd R.LHS_TEST_REQ_DEADLINE_S 0, (s.wrReg w Reg.LHS_TEST_REQ 0 val).time⟩ }) = s2)
    (hFree : s2.lhs.test = none) (hHeld : s2.testHeld = false) :
    doTestRequest w val s = s2.takeRequest ((s.wrReg w Reg.LHS_TEST_REQ 0 val).rd R.LHS_TEST_REQ_UNIT 0) := by
  rw [doTestRequest, if_neg (by simp [hReaches _])]
  dsimp only
  rw [if_neg (by omega), if_neg (by simp [hListed, hTy, hRole]), hAsked, if_neg (by simp [hFree, hHeld])]

/-- Settles O38: the unit, the log and the test engine stand as the rules ask. -/
theorem faultAndTestCommands : Obligations.FaultAndTestCommands := by
  intro s w u val hReaches
  dsimp only
  refine ⟨fun kind loc tries ok hListed hKind => State.runs_of_exec rfl (if_pos (by simp [hListed, hKind])),
    fun r rest hSafety hLog hGo hTime => ?_, fun hDenied => ?_, fun hListed hTy hRole => ?_, fun d hDead hDue hSettled => ?_,
    State.runs_of_exec rfl rfl, fun hShed => ?_,
    fun hState hListed hTy hRole hFree hHeld =>
      State.runs_of_exec rfl (doTestRequest_of_idle hReaches hState hListed hTy hRole rfl hFree hHeld),
    fun hListed hTy hEn hDue hRole hState hIdle hSettled hSpare => ?_, fun q hReq hIdle => ?_, fun q hReq hDue hIdle hSpare => ?_,
    fun r pass hTest hRuns hTy hState hWhy => ?_, fun hListed hLow hHigh hNone => ?_,
    fun i sl ro vr hi hDue hReady => State.runs_of_exec rfl (if_pos ⟨hi, hDue, hReady⟩),
    fun rd ro vr => State.runs_of_exec rfl (if_pos (hReaches _)), fun i hi hMaker => ?_⟩
  · refine State.runs_of_exec rfl ((if_neg (by simp [hReaches _])).trans ((if_neg (by simp [hSafety])).trans ?_))
    rw [hLog]
    exact if_pos (by simp [hGo, hTime])
  · exact State.runs_of_exec rfl ((if_neg (by simp [hReaches _])).trans (if_pos (by simp [hDenied])))
  · exact State.runs_of_exec rfl (if_pos (by simp [hListed, hTy, hRole]))
  · refine State.runs_of_exec rfl ?_
    rw [doFencedUnitGate, hDead]
    exact if_pos (by rw [hSettled]; simp [hDue])
  · exact State.runs_of_exec rfl ((if_neg (by simp [hReaches _])).trans (if_pos (by omega)))
  · exact State.runs_of_exec rfl (if_pos (by rw [hSettled]; simp [hListed, hTy, hEn, hDue, hRole, hState, hIdle.1, hIdle.2, hSpare]))
  · refine State.runs_of_exec rfl ?_
    rw [doTestSpareFree, hReq]
    exact if_neg (by simp [hIdle.1, hIdle.2])
  · refine State.runs_of_exec rfl ?_
    rw [doTestDeadline, hReq]
    exact (if_neg (by simp [hIdle.1, hIdle.2, hDue])).trans (if_pos (.inr (.inr hSpare)))
  · refine State.runs_of_exec rfl ?_
    rw [doTestDone, hTest]
    dsimp only
    rw [if_neg (by simp [hRuns, hTy, hState]), if_pos hWhy, if_neg (by omega)]
  · refine State.runs_of_exec rfl ?_
    rw [doLaneRecalibrate, hNone]
    exact (if_pos (by simp [hListed, hLow, hHigh])).trans (if_neg Bool.false_ne_true)
  · exact State.runs_of_exec rfl ((if_pos ⟨hi, hReaches _⟩).trans (if_pos hMaker))

end Sys2Proof.Machine
end

section
/-!
PROOFS. The flow of an NVMe command.
-/
namespace Sys2Proof.Machine

/-- A command without data to stage, checked, becomes ready. -/
theorem State.makeReady_of_checked {s : State} {n : Nat} {p : NSlot → Bool} {x : NSlot} (h : s.checkedAs n p = some x) :
    s.makeReady n p = s.setNslot n { x with phase := .ready } := by
  rw [State.makeReady, h]

/-- A check that fails otherwise than by a command identifier in use fails the command (R418). -/
theorem doNvmeCommandCheck_of_fails {s : State} {n : Nat} {x : NSlot} {e : Nat × Nat} {sep : Bool} (hSlot : s.nslot n = some x)
    (hFetched : x.phase = .fetched) (hFails : s.checkFails n x sep = some e) (hOther : e ≠ (0, 0x03)) (reads : List ReadResult) :
    doNvmeCommandCheck n sep reads s = s.failSlot n e.1 e.2 := by
  rw [doNvmeCommandCheck, hSlot]
  dsimp only
  rw [if_neg (not_not.2 hFetched), hFails]
  dsimp only
  rw [if_neg hOther]

/-- A command that passes its checks, and whose lists are read without fault, is checked (R418). -/
theorem doNvmeCommandCheck_of_passes {s s1 : State} {n : Nat} {x z : NSlot} {sep : Bool} {reads : List ReadResult}
    (hSlot : s.nslot n = some x) (hFetched : x.phase = .fetched) (hPasses : s.checkFails n x sep = none)
    (hWalked : (s.setNslot n { x with
      phase := if s.plainService x then .ready else .checked, sep := sep, walk := s.walkStart x sep, buf := s.shrunk x sep }).walkRun
        n reads = s1)
    (hThere : s1.nslot n = some z) (hGood : z.walk.bad = none) : doNvmeCommandCheck n sep reads s = s1 := by
  rw [doNvmeCommandCheck, hSlot]
  dsimp only
  rw [if_neg (not_not.2 hFetched), hPasses]
  dsimp only
  rw [hWalked, hThere]
  dsimp only
  rw [hGood]

/-- With no message owed to the services there is none to send. -/
theorem State.flushSvc_of_none {s : State} (hMsgs : s.nvm.msgs = []) : State.flushSvc s.nvm.msgs.length s = s := by
  rw [hMsgs]
  rfl

/-- A ready command that no write holds, with no message owed, is committed where the channel is open and has room (R422). -/
theorem doNvmeHandoff_of_room {s : State} {n : Nat} {x : NSlot} (hMsgs : s.nvm.msgs = []) (hSlot : s.nslot n = some x)
    (hReady : x.phase = .ready) (hFree : s.heldByWrite n x = false) (hOpen : s.svcOpen (s.svcOf x) = true)
    (hRoom : s.chanRoom (s.rd R.NVM_SVC_CHAN_CHAN (s.svcOf x)) = true) :
    doNvmeHandoff n s =
      (s.hwCommit (s.rd R.NVM_SVC_CHAN_CHAN (s.svcOf x)) (s.commandWords n x)).setNslot n { x with phase := .handed } := by
  rw [doNvmeHandoff, State.flushSvc_of_none hMsgs]
  dsimp only
  rw [hSlot]
  dsimp only
  rw [if_neg (by simp [hReady, hFree]), if_neg (by simp [hOpen]), if_pos hRoom]

/-- A ready command that no write holds, with no message owed, fails where the channel is closed (R422). -/
theorem doNvmeHandoff_of_closed {s : State} {n : Nat} {x : NSlot} (hMsgs : s.nvm.msgs = []) (hSlot : s.nslot n = some x)
    (hReady : x.phase = .ready) (hFree : s.heldByWrite n x = false) (hClosed : s.svcOpen (s.svcOf x) = false) :
    doNvmeHandoff n s = s.finishSlot n (0, 0x06, 1) 0 := by
  rw [doNvmeHandoff, State.flushSvc_of_none hMsgs]
  dsimp only
  rw [hSlot]
  dsimp only
  rw [if_neg (by simp [hReady, hFree]), if_pos (by simp [hClosed])]

/-- An answered command whose data are out completes (R419). -/
theorem doNvmeComplete_of_out {s s1 : State} {n : Nat} {x y : NSlot} {reads : List ReadResult} {bad : Option Nat}
    (hSlot : s.nslot n = some x) (hAnswered : x.phase = .answered) (hKind : s.isAdm x 8 = false)
    (hOut : s.moveOut n reads bad = (true, s1)) (hThere : s1.nslot n = some y) :
    doNvmeComplete n reads bad s = (s1.countRead y).finishSlot n y.res y.dw0 := by
  rw [doNvmeComplete, hSlot]
  dsimp only
  rw [if_neg (not_not.2 hAnswered), if_neg (by simp [hKind]), hOut]
  dsimp only
  rw [if_pos rfl, hThere]

/-- Settles O43: the slot holds a command of the kind and in the phase that its rule names. -/
theorem nvmeCommandFlow : Obligations.NvmeCommandFlow := by
  intro s n reads
  dsimp only
  refine ⟨fun x e sep hSlot hFetched hFails hOther =>
      State.runs_of_exec rfl (doNvmeCommandCheck_of_fails hSlot hFetched hFails hOther reads),
    fun x z sep hSlot hFetched hPasses hThere hGood =>
      State.runs_of_exec rfl (doNvmeCommandCheck_of_passes hSlot hFetched hPasses rfl hThere hGood),
    fun x hKind => ?_, fun x hKind => ?_, fun x hKind => ?_, fun x q hKind hQueue => ?_,
    fun x hKind => State.runs_of_exec rfl (State.makeReady_of_checked hKind),
    fun x hKind => State.runs_of_exec rfl (State.makeReady_of_checked hKind),
    fun x hKind => State.runs_of_exec rfl (State.makeReady_of_checked hKind),
    fun x hMsgs hSlot hReady hFree hOpen hRoom =>
      State.runs_of_exec rfl (doNvmeHandoff_of_room hMsgs hSlot hReady hFree hOpen hRoom),
    fun x hMsgs hSlot hReady hFree hClosed =>
      State.runs_of_exec rfl (doNvmeHandoff_of_closed hMsgs hSlot hReady hFree hClosed),
    fun x y bad s1 hSlot hAnswered hKind hOut hThere =>
      State.runs_of_exec rfl (doNvmeComplete_of_out hSlot hAnswered hKind hOut hThere),
    fun x bad hSlot hKind => ⟨fun hChecked => ?_, fun hAnswered => ?_⟩⟩
  · refine State.runs_of_exec rfl ?_
    rw [doNvmeWrite, hKind]
  · refine State.runs_of_exec rfl ?_
    rw [doNvmeDatasetMgmt, hKind]
  · refine State.runs_of_exec rfl ?_
    rw [doNvmeWriteZeroes, hKind]
  · refine State.runs_of_exec rfl ?_
    rw [doNvmeFlush, hKind]
    exact if_neg (by simp [hQueue])
  · have hHolds : s.checkedAs n (fun _ => true) = some x := by
      rw [State.checkedAs, hSlot]
      exact if_pos (by simp [hChecked])
    refine State.runs_of_exec rfl ?_
    rw [doNvmeRead, hSlot]
    exact (if_neg (by simp [hKind])).trans ((if_pos hChecked).trans (State.makeReady_of_checked hHolds))
  · refine State.runs_of_exec rfl ?_
    rw [doNvmeRead, hSlot]
    exact (if_neg (by simp [hKind])).trans ((if_neg (by simp [hAnswered])).trans (if_pos hAnswered))

end Sys2Proof.Machine
end
